-- ==== Sys2Proof/Word.lean ====
section
/-! DEFINITION. The word types of the call board and of the wires, and their plainest arithmetic. -/

namespace Sys2Proof

/-- One byte: the smallest unit the call board, the images and the messages are made of (R0 conventions, R466). -/
abbrev Byte := BitVec 8

/-- A free-running 32-bit index or sequence number (R400, R468, R262). -/
abbrev U32 := BitVec 32

/-- A 16-bit field: the twin epoch (R503), a credit counter (R330). -/
abbrev U16 := BitVec 16

/-- (a - b) mod 2^32, the distance from index b up to index a (R468, R287). -/
def U32.dist (a b : U32) : Nat := (a - b).toNat

/-- Ceiling of a / b; 0 when b is 0. -/
def ceilDiv (a b : Nat) : Nat := if b = 0 then 0 else (a + b - 1) / b

/-- The value held between two bounds. -/
def clampNat (x lo hi : Nat) : Nat := max lo (min x hi)

/-- The integer held between two bounds (the lower bound wins where they cross). -/
def clampInt (x lo hi : Int) : Int := max lo (min x hi)

/-- A counter that saturates at 2^w - 1 (R95, R271, R317 and the other status records). -/
def satAdd (w : Nat) (a b : Nat) : Nat := min (a + b) (2 ^ w - 1)

end Sys2Proof
end

