-- ==== Sys2Proof/Syntax.lean ====
section
/-! DEFINITION. The commands of the block: one constructor of `Instr` per row of spec/opcode_table.json, with the
operands the row's happening carries. Physical agents (an engine, a link, a mailbox, a ladle) are `Fin`; message
fields are numbers whose widths WellFormed.lean checks; data is a list of bytes. -/

namespace Sys2Proof

/-- Why a cold reset came (R447, R459 causes 1 and 2). -/
inductive ColdCause where
  | resetN (lowNs : Nat)   -- RESET_N low for this long after three agreeing XO samples
  | supply (mV : Nat)      -- supply monitor 0's reading
  deriving DecidableEq, Repr

/-- One on-chip memory that failed its March C- test: its id (R544) and the failing words. -/
structure SramFail where
  id    : Nat
  words : Nat
  deriving DecidableEq, Repr

/-- What DDR5 training meets at the board (R431): what answers and what fails. -/
structure DdrFound where
  fitted      : List Nat               -- channels whose components answer CS training on rank 0
  ranks       : Nat                    -- chip selects that answer
  density     : Nat                    -- mode-register density code (R39)
  uniform     : Bool                   -- the components agree in density and rank count (R415)
  caFail      : List Nat               -- subchannels that fail CS or CA training
  dataFail    : List (Nat × Nat × Nat) -- (subchannel, rank, component) that fail only data training
  deriving DecidableEq, Repr

/-- What the boot ROM meets while it runs its steps (R454): straps, memories, fuses, flash, and the board. -/
structure BootInputs where
  bootsel    : Nat              -- BOOTSEL[2:0] at the release (R453)
  sramFails  : List SramFail
  selftestUs : Nat              -- duration of SELFTEST in microseconds (R544)
  otpBad     : Bool             -- both copies of a committed field fail (R514)
  slotA      : List Byte        -- flash slot A (R456)
  slotB      : List Byte        -- flash slot B
  fwStarts   : Bool             -- firmware reaches DDR_TRAIN within 50 ms (R460)
  ddr        : DdrFound
  vcoreMv    : Nat              -- supply monitor 0 at READY
  bootMs     : Nat              -- reset release to READY
  poisoned   : List Nat         -- journal records whose read is poisoned at a warm boot, by sequence (R480)
  badCpls    : List Nat         -- journal records whose completion in the ring fails its SECDED check (R480)
  deriving DecidableEq, Repr

/-- A LINE body as it arrives (R348): the header fields and the pixel bytes. -/
structure LineMsg where
  source     : Nat
  frameCount : Nat
  line       : Nat
  firstPixel : Nat
  pixelCount : Nat
  format     : Nat
  data       : List Byte
  deriving DecidableEq, Repr

/-- An AUDIO body (R351): whole frames, one sample per channel in each. -/
structure AudioMsg where
  firstChannel : Nat
  channelCount : Nat
  rate         : Nat
  index        : Nat
  frames       : List (List Int)
  deriving DecidableEq, Repr

/-- The bits that an input port shifts in during a sample frame: the port, the left slot, then the right one, each 32 bits, the
first bit the most significant (R228, R229). -/
structure PortIn where
  port  : Fin 32
  left  : U32
  right : U32
  deriving DecidableEq, Repr

/-- What the adaptation of one receive lane ends with (R303, R308). -/
structure LaneCoeffs where
  ctle  : Int
  taps  : List Int
  phase : Int
  deriving DecidableEq, Repr

/-- One coefficient that the running adaptation asks for: lane, coefficient (0 CTLE, 1-5 taps, 6 phase), value (R308). -/
structure AdaptStep where
  lane  : Fin 4
  coeff : Nat
  value : Int
  deriving DecidableEq, Repr

/-- A kind of DDR5 access (R424). -/
inductive DdrKind where
  | read
  | write
  deriving DecidableEq, Repr

/-- An error that the ECC of an engine's cue memory meets (R94): a single-bit one, or a double-bit one with whether the
production's staged copy cannot replace the half either. -/
inductive EccError where
  | single
  | double (stagingBad : Bool)
  deriving DecidableEq, Repr

/-- What the RS decoder meets in one codeword (R426): the components that hold erroneous symbols, and how many. -/
structure CodeErr where
  comps   : List (Nat × Nat)  -- (component, erroneous symbols)
  synd    : List Byte         -- the 16 syndrome symbols
  deriving DecidableEq, Repr

/-- The body of a BEAT (R489). -/
structure BeatMsg where
  role       : Nat
  readiness  : Nat
  mode       : Nat
  epoch      : U16
  production : Nat
  tSend      : Nat
  tEcho      : Nat
  tEchoRecv  : Nat
  deriving DecidableEq, Repr

/-- The body of a HEALTH (R489). -/
structure HealthMsg where
  role       : Nat
  readiness  : Nat
  unconf     : Bool
  unrepaired : Nat
  compared   : Nat
  divergent  : Nat
  repaired   : Nat
  offsetNs   : Int
  curtain    : List Byte
  generation : Nat
  deriving DecidableEq, Repr

/-- The body of a twin HELLO (R489). -/
structure HelloMsg where
  fingerprint : List Byte
  serial      : Nat
  stepping    : Nat
  engineUcode : Nat
  ladleUcode  : Nat
  imageSha    : List Byte
  version     : Nat      -- negotiated version of L11 (R485, R334)
  deriving DecidableEq, Repr

/-- One entry of a POSITIONS (R494). -/
structure PosEntry where
  queue    : Nat
  nextSeq  : U32
  released : U32
  acked    : U32
  deriving DecidableEq, Repr

/-- A queue item: the header of R261 and its payload. -/
structure Item where
  kind     : Nat        -- 1 packet, 2 gap marker
  auEnd    : Bool
  rebuilt  : Bool
  seq      : U32
  release  : Nat        -- release stamp, house time in ns
  payload  : List Byte
  deriving DecidableEq, Repr

/-- The box office fields that a FRAME_RECORD carries (R493: bytes [0x000, 0x080) of R176). -/
structure BoxRec where
  v         : List Nat
  acc       : Int
  schedSel  : Nat
  qpLo      : Int
  qpHi      : Int
  sticky    : Bool
  rAvg      : Nat
  floorRows : List Nat
  floorLast : List Nat
  frameBits : Nat
  fillerBits : Nat
  floorCtus : Nat
  clipped   : Nat
  cause     : Nat
  tau       : Nat
  pending   : Option (Nat × Int × Int × Nat × Nat)  -- sched_sel, qp_lo, qp_hi, r_avg, effective frame count
  deriving DecidableEq, Repr

/-- A FRAME_RECORD body (R493). -/
structure FrameRec where
  context    : Nat
  rows       : Nat
  frameCount : Nat
  production : Nat
  floorRows  : List Nat
  box        : BoxRec
  lx         : List Int
  qpRowPrev  : List Int
  blocks     : List Nat
  nextSeq    : U32
  acked      : U32
  digests    : List (Nat × Nat)   -- per row: recon, bitstream
  deriving DecidableEq, Repr

/-- A ROW_RECORD body (R494). -/
structure RowRec where
  queue      : Nat
  row        : Nat
  frameCount : Nat
  firstSeq   : U32
  count      : Nat
  bitstream  : Nat
  recon      : Nat
  floor      : Bool
  deriving DecidableEq, Repr

/-- One CTU of CRF as ROW_DATA carries it (R499): the header of R117, the reconstruction and the validity bit. -/
structure CtuCrf where
  units  : List Nat     -- 64-byte units used by each of the 16 quads
  raw    : List Bool    -- quads stored raw
  digest : Nat
  recon  : List (List Nat)  -- the samples of each quad in raw quad order, as the 10-bit values that CRF stores (R116, R118)
  frame  : Nat          -- the frame count of the picture
  deriving DecidableEq, Repr

/-- A ROW_DATA body: one CTU, or empty when the picture is no longer held (R499). -/
structure RowDataMsg where
  context    : Nat
  frameCount : Nat
  row        : Nat
  ctu        : Nat
  last       : Bool
  body       : Option (CtuCrf × Bool)
  deriving DecidableEq, Repr

/-- The 16-byte header of a mailbox command (R472), with the mailbox whose ring holds it. -/
structure Hdr where
  mb     : Fin 8
  major  : Nat
  minor  : Nat
  tag    : Nat
  length : Nat
  deriving DecidableEq, Repr

/-- One SPI transaction (R463, R464): the instruction, its address, and the bytes or the number of words it moves. -/
inductive SpiOp where
  | write (address : Nat) (data : List Byte)
  | read (address : Nat) (words : Nat)
  deriving DecidableEq, Repr

/-- The settings of one candidate, as CANDIDATE_SET carries them (R364). -/
structure CandSet where
  rank     : Nat
  window   : Nat
  nominal  : Nat
  gate     : Nat
  phaseHit : Nat
  wtr      : Nat
  deriving DecidableEq, Repr

/-- The settings of the DPLL, as DPLL_SET carries them (R368). -/
structure DpllSettings where
  bandwidth : Nat
  revertive : Nat
  phaseMode : Nat
  timeSteer : Nat
  clampNs   : Nat
  lockNs    : Nat
  pullRange : Nat
  freqRate  : Nat
  phaseSlew : Nat
  holdTau   : Nat
  xoTrim    : Int
  deriving DecidableEq, Repr

/-- A rectangle of dst or src fields (R195). -/
structure Rect where
  x : Nat
  y : Nat
  w : Nat
  h : Nat
  deriving DecidableEq, Repr

/-- The fields of CUE_OUTPUT (0x0B21). -/
structure CueOut where
  level   : Nat
  context : Nat
  start   : Nat
  width   : Nat
  period  : Nat
  offset  : Int
  deriving DecidableEq, Repr

/-- The fields of CUE_CONFIG (0x0B20). -/
structure CueCfg where
  direction : Nat
  active    : Nat
  mode      : Nat
  holdoff   : Nat
  stuck     : Nat
  deriving DecidableEq, Repr

/-- The commands of the block, one constructor per row of the opcode table, in the table's order. -/
inductive Instr where
  -- resets and boot (16)
  | powerOnReset
  | coldReset (cause : ColdCause)
  | warmResetEntry
  | watchdogExpiry
  | lockstepMismatch
  | warmEntrySave
  | resetRelease (b : BootInputs)
  | warmBoot (b : BootInputs)
  | firmwareInitTimeout
  | bootLoad (value : U32) (b : BootInputs)
  -- frames and ingest (02, 04)
  | frameMark (source : Nat)
  | line (link : Fin 12) (m : LineMsg)
  | windowClose (context : Nat) (tile : Nat) (row : Nat)
  -- the sequencer (02, 03)
  | slotStart (e : Fin 16) (slot : Nat)
  | sqCall (e : Fin 16) (addr : Nat) (desc : Nat)
  | sqRet (e : Fin 16) (addr : Nat)
  | sqLoop (e : Fin 16) (addr : Nat) (desc : Nat)
  | sqEndloop (e : Fin 16) (addr : Nat)
  | sqMark (e : Fin 16) (addr : Nat) (desc : Nat)
  | markTargetReached (e : Fin 16)
  | sqChg (e : Fin 16) (addr : Nat) (desc : Nat)
  | sqLate (e : Fin 16) (addr : Nat) (desc : Nat)
  | sqEnd (e : Fin 16) (addr : Nat)
  -- the units (03, 05, 06)
  | inRdq (e : Fin 16) (desc : Nat)
  | inFsq (e : Fin 16) (desc : Nat)
  | inFlr (e : Fin 16) (desc : Nat)
  | svLvl (e : Fin 16) (desc : Nat)
  | svExp (e : Fin 16) (desc : Nat)
  | mcCrs (e : Fin 16) (desc : Nat)
  | mfQrf (e : Fin 16) (desc : Nat)
  | ipEst (e : Fin 16) (desc : Nat)
  | mdSel (e : Fin 16) (desc : Nat)
  | mdFlr (e : Fin 16) (desc : Nat)
  | tqFwd (e : Fin 16) (desc : Nat)
  | tqFlr (e : Fin 16) (desc : Nat)
  | iqRec (e : Fin 16) (desc : Nat)
  | iqFlr (e : Fin 16) (desc : Nat)
  | lfDbk (e : Fin 16) (desc : Nat)
  | lfSao (e : Fin 16) (desc : Nat)
  | alAlf (e : Fin 16) (desc : Nat)
  | alDer (e : Fin 16) (desc : Nat)
  | derComplete (e : Fin 16)
  | bnBin (e : Fin 16) (desc : Nat)
  | bnSlh (e : Fin 16) (desc : Nat)
  | bnFlr (e : Fin 16) (desc : Nat)
  | bnEos (e : Fin 16) (desc : Nat)
  | rwCrf (e : Fin 16) (desc : Nat)
  | drRd (e : Fin 16) (desc : Nat)
  | dwWr (e : Fin 16) (desc : Nat)
  | substitution (e : Fin 16)
  | cueEccFault (e : Fin 16) (memory : Nat) (address : Nat) (error : EccError)
  -- segments, tasks, ladles, queues (09)
  | segmentOpen (e : Fin 16)
  | segmentClose (e : Fin 16)
  | taskDispatch
  | affinityWaitExpiry (stream : Nat)
  | eventTask
  | packetCommit (l : Fin 16)
  | gapMarkerCommit (queue : Nat)
  | ladleFault (l : Fin 16) (outOfPosition : Bool)
  | stockpotMove (queue : Nat)
  | stockpotRefillLand (queue : Nat) (poisoned : Bool)
  -- egress (10)
  | egressSelect
  | shaperRefill
  | gateEntryChange
  | egressAck (link : Fin 12) (queue : Nat) (epoch : U16) (next : U32)
  -- links (11, 12)
  | flitReceive (link : Fin 12) (flit : BitVec 512) (violations : List (Fin 4 × Nat)) (adapt : List AdaptStep)
  | flitSend (link : Fin 12)
  | replayTimeout (link : Fin 12)
  | creditStarved (link : Fin 12) (vc : Fin 8)
  | ckLost (link : Fin 12)
  | trainingBlock (link : Fin 12) (lane : Fin 4) (block : BitVec 128) (violation : Bool)
  | partnerCkDetect (link : Fin 12)
  | clockLock (link : Fin 12)
  | deskew (link : Fin 12) (aligned : List (Fin 4))
  | adaptEnd (link : Fin 12) (trained : List (Fin 4 × LaneCoeffs))
  | verifyPass (link : Fin 12)
  | capability (link : Fin 12) (word : BitVec 32)
  | trainingLimitExpiry (link : Fin 12)
  | linkActive (link : Fin 12)
  | darkRetry (link : Fin 12)
  | eyeDone (link : Fin 12) (counts : List Nat)
  | patternLock (link : Fin 12) (lane : Fin 4)
  | patternLockLost (link : Fin 12) (lane : Fin 4) (errors : Nat) (bits : Nat)
  | regRead (link : Fin 12) (tag : Nat) (address : Nat) (count : Nat)
  | regWrite (link : Fin 12) (tag : Nat) (address : Nat) (count : Nat) (words : List U32)
  | timeOfDay (link : Fin 12) (second : Nat) (valid : Bool)
  | eventNotify
  | audio (link : Fin 12) (m : AudioMsg)
  | ancillary (link : Fin 12) (channel : Nat) (stamp : Nat) (payload : List Byte)
  | graphicWrite (link : Fin 12) (pair : Nat) (offset : Nat) (data : List Byte)
  | graphicCommitPacket (link : Fin 12) (pair : Nat)
  -- composition and curtain (07)
  | contentLatch (context : Nat)
  | graphicReleased (pair : Nat)
  | previewLineSend (context : Nat) (line : Nat)
  | curtainNEdge (level : Bool)
  | curtainCopy
  -- audio (08)
  | audioFrame (group : Fin 4) (inputs : List PortIn)
  | audioPcmResumed (link : Bool) (pair : Nat)
  | audioChangeApply (route : Nat)
  | audioChangeTimeout (route : Nat)
  | linkSampleWindowClose (channel : Nat) (index : Nat)
  | audioRestarted (port : Fin 32)
  | audioClockStop (group : Fin 4)
  -- swap (02)
  | swapping
  | swap
  -- DDR5 (15)
  | refreshWindow
  | zqCalibration
  | mr4Read (sub : Fin 12) (rank : Nat) (code : Nat) (configured : Nat)
  | ddrSchedule (sub : Fin 12)
  | ddrWriteRequest (port : Fin 22) (address : Nat) (data : List Byte)
  | ddrReadReturn (sub : Fin 12) (id : Nat) (err : CodeErr)
  | patrolScrub (sub : Fin 12) (err : CodeErr)
  | ddrAlert (sub : Fin 12)
  -- time and references (13, 14)
  | ppsEdge (subTickPs : Nat)
  | ppsLost
  | rootUnlock
  | activityLoss (c : Fin 16)
  | gateEnd (c : Fin 16) (offset : Int)
  | phaseComparison (c : Fin 16) (phasePs : Int) (ask : Int)
  | waitToRestore (c : Fin 16)
  | switchEnd (phasePs : Int)
  | lockAcquired
  | historySample (meanY : Int)
  | refPins (refsel : Fin 16) (refforceN : Bool)
  -- events and CUE pins (14)
  | evtRdWrite (value : U32)
  | cueEdge (pin : Fin 16) (level : Bool)
  | cueStuck (pin : Fin 16)
  | cueReleased (pin : Fin 16)
  | cueOutputEdge (pin : Fin 16) (level : Bool)
  -- twin (18)
  | arbHbToggle
  | heartbeatServiceTimeout
  | takeover
  | demotion
  | beatSend
  | beat (m : BeatMsg)
  | twinHeartbeatLost
  | orphanTimeout
  | healthSend
  | health (m : HealthMsg)
  | twinHelloSend
  | twinHello (m : HelloMsg)
  | positionsSend
  | positions (entries : List PosEntry)
  | ackHoldExpiry (queue : Nat)
  | frameRecord (r : FrameRec)
  | rowRecord (r : RowRec)
  | confirm (queue : Nat) (seq : U32)
  | itemRequest (queue : Nat) (first : U32) (count : Nat)
  | item (queue : Nat) (it : Item) (rtpSeq : Nat)
  | rowRequest (context : Nat) (frameCount : Nat) (row : Nat) (poisoned : Bool)
  | rowData (m : RowDataMsg)
  | blockRequest (context : Nat) (block : Nat)
  | blockData (context : Nat) (block : Nat) (content : List Int)
  -- journal and monitors (17, 22)
  | journalHeadWrite
  | thermalSample (sensor : Fin 4) (reading : Int)
  | supplySample (monitor : Fin 2) (mV : Nat)
  -- host window and SPI (17)
  | doorbell (mb : Fin 8) (value : U32) (route : Nat)
  | cplRdWrite (mb : Fin 8) (value : U32)
  | mailboxReset (mb : Fin 8)
  | intStatusWrite (value : U32)
  | hostWindowWrite (address : Nat) (value : U32)
  | spiTransaction (op : SpiOp)
  | spiStatus
  -- mailbox commands (17)
  | hello (h : Hdr) (minMinor maxMinor major hostId : Nat)
  | goodbye (h : Hdr)
  | mbConfig (h : Hdr) (depths : List Nat)
  | echo (h : Hdr) (data : List Byte)
  | identify (h : Hdr)
  | certRead (h : Hdr) (bulkOffset length : Nat)
  | attest (h : Hdr) (nonce : List Byte) (bulkOffset : Nat)
  | ownerKeyLoad (h : Hdr) (bulkOffset length : Nat)
  | debugToken (h : Hdr) (bulkOffset length : Nat)
  | fuseProgram (h : Hdr) (bulkOffset length : Nat)
  | productionLoad (h : Hdr) (imageOffset length bulkOffset : Nat)
  | productionCheck (h : Hdr)
  | productionCue (h : Hdr) (request : Nat)
  | productionAbort (h : Hdr)
  | productionStatus (h : Hdr)
  | contextRateSet (h : Hdr) (context schedSel rAvg : Nat)
  | contextQpLimitsSet (h : Hdr) (context : Nat) (qpLo : Int) (qpHi : Nat)
  | layerGeometrySet (h : Hdr) (context layer : Nat) (dst src : Rect)
  | layerOpacitySet (h : Hdr) (context layer opacity : Nat)
  | graphicCommit (h : Hdr) (pair : Nat)
  | layerStatus (h : Hdr) (context : Nat)
  | curtainStage (h : Hdr) (offset : Nat) (data : List Byte)
  | curtainInstall (h : Hdr)
  | curtainDrop (h : Hdr) (sequence : Nat) (fingerprint signature : List Byte)
  | curtainRaise (h : Hdr) (sequence : Nat) (fingerprint signature : List Byte)
  | curtainStatus (h : Hdr)
  | audioGainSet (h : Hdr) (route gain : Nat)
  | audioMuteSet (h : Hdr) (route mute : Nat)
  | audioPortRestart (h : Hdr) (port : Nat)
  | audioStatus (h : Hdr) (port : Nat)
  | egressShaperSet (h : Hdr) (queue rate : Nat)
  | linkStatus (h : Hdr) (link : Nat)
  | linkRetrain (h : Hdr) (link mode : Nat)
  | linkTxSet (h : Hdr) (link : Nat) (presets : List Nat)
  | linkGuardSet (h : Hdr) (link lanes ctle tap1 taps2to5 phase : Nat)
  | eyeScan (h : Hdr) (link lanes k bulkOffset : Nat)
  | patternStart (h : Hdr) (link pattern mode lanes : Nat) (user : BitVec 64)
  | patternRead (h : Hdr) (link : Nat) (seen : List (Nat × Nat))
  | patternInject (h : Hdr) (link lanes mode k : Nat)
  | patternStop (h : Hdr) (link : Nat)
  | linkProtocol (h : Hdr) (link : Nat)
  | clockStatus (h : Hdr)
  | candidateStatus (h : Hdr) (first count : Nat)
  | candidateSet (h : Hdr) (candidate : Nat) (f : CandSet)
  | dpllSet (h : Hdr) (f : DpllSettings)
  | dpllSoftware (h : Hdr) (word : Int)
  | dpllNudge (h : Hdr) (ns : Int)
  | dpllClose (h : Hdr)
  | clockHistoryClear (h : Hdr) (dpllMask candidateMask : Nat)
  | houseTimeStatus (h : Hdr)
  | houseTimeSet (h : Hdr) (mode time : Nat)
  | houseTimeAlarmSet (h : Hdr) (timeAlarm : Nat)
  | ddrStatus (h : Hdr)
  | ddrSubchannelStatus (h : Hdr) (first count : Nat)
  | ddrPortStatus (h : Hdr) (first count : Nat)
  | ddrErrorLog (h : Hdr) (clear : Nat)
  | ddrMark (h : Hdr) (subchannel rank component action : Nat)
  | ddrScrubSet (h : Hdr) (period threshold : Nat)
  | ddrChecksEnable (h : Hdr) (subchannel : Nat)
  | twinStatus (h : Hdr)
  | twinPair (h : Hdr) (fingerprint : List Byte)
  | twinUnpair (h : Hdr)
  | engineStatus (h : Hdr) (first count : Nat)
  | queueStatus (h : Hdr) (first count : Nat)
  | contextStatus (h : Hdr) (context : Nat)
  | telemetry (h : Hdr)
  | eventMaskSet (h : Hdr) (first count enable : Nat)
  | eventSourceStatus (h : Hdr) (first count : Nat)
  | cueConfig (h : Hdr) (pin : Nat) (f : CueCfg)
  | cueOutput (h : Hdr) (pin : Nat) (f : CueOut)
  | cueStatus (h : Hdr) (first count clear : Nat)
  | cuConfig (h : Hdr) (unit polynomial : Nat)
  | cuFeed (h : Hdr) (unit source length bulkOffset : Nat) (data : List Byte) (eccBad : Bool)
  | cuRead (h : Hdr) (unit : Nat) (eccBad : Bool)
  | cuWrite (h : Hdr) (unit : Nat) (value : U32)
  | selftestReport (h : Hdr)
  -- the test port (20)
  | testLogicReset
  | idcode
  | samplePreload (data : List Bool)
  | extest
  | highz
  | clamp
  | extestPulse
  | extestTrain
  | bypass
  | rootLock
  | candidateActivityReturn (c : Fin 16)
  deriving DecidableEq, Repr

end Sys2Proof
end

