-- ==== Sys2Proof/Decode.lean ====
section
/-! DEFINITION. The commands are happenings, not words: no row of the opcode table gives bits, so no word spells a
command. -/

namespace Sys2Proof

/-- The command that a word of the table's bits spells: none, because no row gives bits. -/
def decodeTableWord (_nbits _w : Nat) : Option Instr := none

end Sys2Proof
end

