-- ==== Sys2Proof/Config.lean ====
section
/-! DEFINITION. The free values: what the spec leaves open, as constants without a body. A meaning applies one to the
state's counter `free` (a fresh value at each use) or to the operands the value depends on; nothing can be proved of
the values themselves (notes/assumptions/5). -/

namespace Sys2Proof.Config

/-- Whether a RESET_N pulse shorter than 10 µs resets the device (R447: "a cold reset or none"). -/
opaque shortResetTakes : Nat → Bool

/-- The length of an event crossing's round trip, before it is held to its domain's bound (R391). -/
opaque crossingTrip : Nat → Nat

/-- The receive lanes, as bits, at whose chosen point the offset sampler finds an error in VERIFY (R304). -/
opaque eyeErrors : Nat → Nat

/-- The identity key's signature over a statement: the private key is in no bus's reach, and RSASSA-PSS draws its salt
at random (R524, R526). -/
opaque identitySign : Nat → List (BitVec 8) → List (BitVec 8)

/-- The identity key's modulus, 384 bytes big-endian (R515, R524). -/
opaque identityModulus : Nat → BitVec 8

/-- The certificate chain, device certificate then CA certificate, as DER bytes (R525). -/
opaque certByte : Nat → BitVec 8

/-- The length of the certificate chain before its bound of 4,096 (R525). -/
opaque certLength : Nat → Nat

/-- The bytes of the boot ROM, 128 KiB (R527). -/
opaque romByte : Nat → BitVec 8

/-! What H.265 and H.266 fix of a CTU's coding and this spec does not restate is a function of the operands that it rests
on, listed as numbers: nothing else enters the data path (R98). -/

/-- Bits that the operands' content takes (R167, R183). -/
opaque quadBits : List Int → Nat

/-- Bins that the operands' content takes (R167, R183). -/
opaque quadBins : List Int → Nat

/-- The cost of an intra estimation (R75, R166). -/
opaque searchCost : List Int → Nat

/-- A quad's AMVP candidates, then its merge candidates, in list order, in quarter pixels (R159). -/
opaque mvCandidates : List Int → List (Int × Int)

/-- A choice of the mode-decision unit among the tools enabled (R75, R166). -/
opaque modeChoice : List Int → Nat

/-- The merge index of a zero-vector ref0 candidate, when the merge list holds one (R165). -/
opaque mergeIndex : List Int → Option Nat

/-- A reconstructed sample, from the operands of its reconstruction and its place (R75, R122). -/
opaque reconSample : List Int → Nat → Nat

/-- A sample behind a loop filter (R75, R107). -/
opaque filterSample : List Int → Nat → Nat

/-- The references that a motion search operation's parameters enable, as bits: where they stand in the parameters is not
stated (R74). -/
opaque refEnables : List Int → Nat

/-- What a signed field of some bits takes of a number outside its range (R176, R180). -/
opaque narrow : (bits : Nat) → Int → BitVec bits

/-- The size in bits of a quad's residuals under Golomb-Rice codes whose parameter adapts per 4×4 block: the adaptation is
not stated (R118). -/
opaque riceBits : List Int → Nat

/-- A byte of that code. -/
opaque riceByte : List Int → Nat → BitVec 8

/-- The number of a content: of a slice, a NAL unit, a set of filter coefficients (R77, R107, R131, R246). -/
opaque content : List Int → Nat

/-- A coded byte of a content, by its number and the byte's place (R131, R246). -/
opaque codedByte : Nat → Nat → BitVec 8

/-- The length in bytes that a content takes (R131, R246). -/
opaque codedLength : Nat → Nat

/-- The 8-bit sample that the 1/2 level takes where R148's formula gives 256, which no 8-bit sample holds. -/
opaque sieveTop : BitVec 8

/-- A pixel that the spec's content rules do not state: a sample whose row or column lies outside what was written. -/
opaque openSample : Nat → Nat

/-- Whether an engine's cue words (first) and unit descriptors (second) keep rule BK5 of R78, number 5: the banks that a
unit's operations access in each cycle are not stated. -/
opaque pathRule : Nat → List (BitVec 8) → List (BitVec 8) → Bool

/-- The lowest level up to 6.2, as general_level_idc, and the lower tier within it, whose limits a context of a codec meets;
none where no level does (R101): the level tables of H.265 and H.266 are not in this spec. The numbers are the width, the
height, the frame rate, the highest bit rate, the greatest buffer, the tile columns and the tile rows. -/
opaque levelOf : Nat → List Nat → Option (Nat × Nat)

/-- Whether the SPS and PPS templates agree with the entry (R138, R190): their syntax is that of H.265 and H.266. The
arguments are the entry's bytes, the fields that they must carry, and the templates. -/
opaque templatesAgree : List (BitVec 8) → List Nat → List (List (BitVec 8)) → Bool

/-- The HRD schedules that an SPS template of a codec signals, as rate and buffer size in bits (R172, R190): where they stand
in it is the syntax of H.265 and H.266. -/
opaque signalledSchedules : Nat → List (BitVec 8) → List (Nat × Nat)

/-- The least DMA lead of a slot that consumes no read: R43 states no figure for it. -/
opaque noLead : Nat

/-- The CRC-32C of a 4 KiB block of a context record, from what the block holds: its byte layout within the parts of R88
is not stated. -/
opaque blockDigest : Nat → List Int → Nat

/-- A byte of a vendor root key's hash, by slot and place: Creryn programs them at manufacture (R513). -/
opaque vendorHash : Nat → Nat → BitVec 8

/-- The device serial that Creryn programs (R513). -/
opaque serialNumber : BitVec 64

/-- The VCORE_TARGET code of the test data (R441, R459, R513), before its range 4 to 20. -/
opaque vcoreCode : Nat

/-- Nanoseconds from the rise of ARB_CAST to TAKEOVER, before the bound of R504. -/
opaque takeoverNs : Nat → Nat

end Sys2Proof.Config
end

