-- ==== Sys2Proof/Machine/Cells.lean ====
section
/-! DEFINITION. Sparse tables by number, in one canonical form: numbers strictly rising, and no entry equal to what
an unlisted number reads as. The call-board memory, the curtain memory and every table of per-object state are held
so (equal tables are equal data). Also the little-endian packing of fields (R0 conventions, R474). -/

namespace Sys2Proof.Machine

/-- A sparse table: (number, value) pairs. -/
abbrev Cells (α : Type) := List (Nat × α)

/-- The value at number `k`; `d` is what an unlisted number reads as. -/
def cget {α : Type} (d : α) : Cells α → Nat → α
  | [], _ => d
  | (i, v) :: t, k => if i = k then v else cget d t k

/-- The table with `v` at number `k`, in canonical form. -/
def cset {α : Type} [DecidableEq α] (d : α) : Cells α → Nat → α → Cells α
  | [], k, v => if v = d then [] else [(k, v)]
  | (i, w) :: t, k, v =>
    if k < i then (if v = d then (i, w) :: t else (k, v) :: (i, w) :: t)
    else if k = i then (if v = d then t else (k, v) :: t)
    else (i, w) :: cset d t k v

/-- The table with `f` applied to the value at number `k`. -/
def cmod {α : Type} [DecidableEq α] (d : α) (m : Cells α) (k : Nat) (f : α → α) : Cells α :=
  cset d m k (f (cget d m k))

/-- The canonical form: numbers strictly rising from `lo`, no entry equal to the default. -/
def cwfFrom {α : Type} [DecidableEq α] (d : α) (lo : Nat) : Cells α → Bool
  | [] => true
  | (i, v) :: t => decide (lo ≤ i) && decide (v ≠ d) && cwfFrom d (i + 1) t

/-- The canonical form of a whole table. -/
def cwf {α : Type} [DecidableEq α] (d : α) (m : Cells α) : Bool := cwfFrom d 0 m

/-- The numbers listed. -/
def ckeys {α : Type} (m : Cells α) : List Nat := m.map (·.1)

/-- The element of a fixed-length table at place `i`. -/
def vget {α : Type} {n : Nat} (v : Vector α n) (i : Fin n) : α := v[i.val]

/-- The fixed-length table with `x` at place `i`. -/
def vset {α : Type} {n : Nat} (v : Vector α n) (i : Fin n) (x : α) : Vector α n := v.set i.val x i.isLt

/-- The fixed-length table with `f` applied at place `i`. -/
def vmod {α : Type} {n : Nat} (v : Vector α n) (i : Fin n) (f : α → α) : Vector α n := vset v i (f (vget v i))

/-- A number from an operand as an index, when it is in range. -/
def finOf (n : Nat) (x : Nat) : Option (Fin n) := if h : x < n then some ⟨x, h⟩ else none

/-- Byte memory: an unlisted byte reads 0 (a cold reset clears every on-chip array, R451). -/
abbrev Memory := Cells Byte

/-- One byte of memory. -/
def readByte (m : Memory) (a : Nat) : Byte := cget 0 m a

/-- `n` bytes of memory from address `a`. -/
def readBytes (m : Memory) (a : Nat) : Nat → List Byte
  | 0 => []
  | n + 1 => readByte m a :: readBytes m (a + 1) n

/-- Memory with the bytes `bs` written from address `a`. -/
def writeBytes (m : Memory) (a : Nat) : List Byte → Memory
  | [] => m
  | b :: bs => writeBytes (cset 0 m a b) (a + 1) bs

/-- `n` little-endian bytes of a number, taken modulo 2^(8n). -/
def leBytes : Nat → Nat → List Byte
  | 0, _ => []
  | n + 1, x => BitVec.ofNat 8 x :: leBytes n (x / 256)

/-- The two's-complement little-endian bytes of a signed number. -/
def leInt (n : Nat) (x : Int) : List Byte := leBytes n (x % (2 : Int) ^ (8 * n)).toNat

/-- The number that little-endian bytes spell. -/
def leNat : List Byte → Nat
  | [] => 0
  | b :: bs => b.toNat + 256 * leNat bs

/-- The number that big-endian bytes spell. -/
def beNat (bs : List Byte) : Nat := leNat bs.reverse

/-- The signed number that `n` little-endian bytes spell. -/
def leSigned (bs : List Byte) : Int :=
  let u := leNat bs
  if 2 * u < 2 ^ (8 * bs.length) then (u : Int) else (u : Int) - (2 : Int) ^ (8 * bs.length)

/-- `n` bytes of a list from place `o`, zeros beyond its end. -/
def slice (bs : List Byte) (o n : Nat) : List Byte :=
  let t := (bs.drop o).take n
  t ++ List.replicate (n - t.length) 0

/-- A field of `n` bytes at place `o` of a byte list. -/
def field (bs : List Byte) (o n : Nat) : Nat := leNat (slice bs o n)

/-- One bit of a number. -/
def bitOf (x i : Nat) : Bool := decide (x / 2 ^ i % 2 = 1)

/-- 1 for true. -/
def boolNat (b : Bool) : Nat := if b then 1 else 0

end Sys2Proof.Machine
end

