-- ==== Sys2Proof/Machine/Crc.lean ====
section
/-! DEFINITION. The CRCs of R534 (and so the CRC-32C of flits, records, sections and digests, R319). -/

namespace Sys2Proof.Machine

/-- The parameters of one CRC of R534's table. -/
structure CrcParam where
  width     : Nat
  poly      : Nat
  init      : Nat
  reflected : Bool
  xorOut    : Nat
  deriving DecidableEq, Repr

/-- R534's table, by polynomial number; a number above 5 is refused before it reaches here (R536). -/
def crcParam : Nat → CrcParam
  | 0 => ⟨32, 0x04C11DB7, 0xFFFFFFFF, true, 0xFFFFFFFF⟩
  | 1 => ⟨32, 0x1EDC6F41, 0xFFFFFFFF, true, 0xFFFFFFFF⟩
  | 2 => ⟨32, 0x04C11DB7, 0xFFFFFFFF, false, 0⟩
  | 3 => ⟨16, 0x1021, 0xFFFF, false, 0⟩
  | 4 => ⟨16, 0x8BB7, 0, false, 0⟩
  | _ => ⟨8, 0x07, 0, false, 0⟩

/-- The `n` low bits of a number in reverse order. -/
def reflect : Nat → Nat → Nat
  | 0, _ => 0
  | n + 1, x => x % 2 * 2 ^ n + reflect n (x / 2)

/-- One bit of a reflected CRC: r holds the reflected form (R535). -/
def crcBitR (polyR r : Nat) : Nat := if r % 2 = 1 then r / 2 ^^^ polyR else r / 2

/-- One bit of a CRC taken most significant bit first. -/
def crcBitM (w poly r : Nat) : Nat :=
  if r / 2 ^ (w - 1) % 2 = 1 then (2 * r) % 2 ^ w ^^^ poly else (2 * r) % 2 ^ w

/-- `f` applied `n` times. -/
def times {α : Type} (f : α → α) : Nat → α → α
  | 0, x => x
  | n + 1, x => times f n (f x)

/-- The running value after one byte (R535). -/
def crcByte (p : CrcParam) (r : Nat) (b : Byte) : Nat :=
  if p.reflected then times (crcBitR (reflect p.width p.poly)) 8 (r ^^^ b.toNat)
  else times (crcBitM p.width p.poly) 8 (r ^^^ b.toNat * 2 ^ (p.width - 8))

/-- The running value over bytes in order (R536). -/
def crcFeed (p : CrcParam) (r : Nat) : List Byte → Nat
  | [] => r
  | b :: bs => crcFeed p (crcByte p r b) bs

/-- The final value over bytes. -/
def crcOf (poly : Nat) (bs : List Byte) : Nat :=
  let p := crcParam poly
  crcFeed p p.init bs ^^^ p.xorOut

/-- CRC-32C (R319). -/
def crc32c (bs : List Byte) : Nat := crcOf 1 bs

/-- CRC-16/CCITT-FALSE (R300). -/
def crc16 (bs : List Byte) : Nat := crcOf 3 bs

end Sys2Proof.Machine
end

