-- ==== Sys2Proof/Machine/StProduction.lean ====
section
/-! DEFINITION. A production image as firmware and the engines hold it: every section of R38 decoded into the entries
its chapter lays out. Decoding is Machine/Production.lean, admission Machine/Admission.lean. -/

namespace Sys2Proof.Machine

/-- The production descriptor (R39). -/
structure Descr where
  contexts   : Nat := 0
  sources    : Nat := 0
  engineMask : Nat := 0
  channels   : Nat := 6
  rate       : Nat := 0
  refresh    : Nat := 0
  interleave : Nat := 12
  density    : Nat := 0
  ranks      : Nat := 1
  demand     : Nat := 0
  twinMode   : Nat := 0
  deriving DecidableEq, Repr

/-- A context-table entry (R40). -/
structure Ctx where
  context    : Nat := 0
  source     : Nat := 0
  mode       : Nat := 0
  codec      : Nat := 0
  chroma     : Nat := 0
  engineMask : Nat := 0
  width      : Nat := 0
  height     : Nat := 0
  totalLines : Nat := 1
  rateNum    : Nat := 1
  rateDen    : Nat := 1
  delayD     : Nat := 0
  slotEnd    : Nat := 0
  box        : Nat := 0
  stream     : Nat := 0
  layers     : Nat := 0
  coding     : Nat := 0
  backdrop   : Nat := 0
  twinMargin : Nat := 0
  deriving DecidableEq, Repr

/-- A source entry (R342). -/
structure Source where
  source     : Nat := 0
  format     : Nat := 0
  linkCount  : Nat := 1
  links      : List Nat := []
  xStart     : List Nat := []
  width      : Nat := 0
  height     : Nat := 0
  totalLines : Nat := 1
  rateNum    : Nat := 1
  rateDen    : Nat := 1
  lag        : Nat := 0
  deriving DecidableEq, Repr

/-- A link-channel entry (R342). -/
structure Chan where
  channel : Nat := 0
  link    : Nat := 0
  rate    : Nat := 0
  deriving DecidableEq, Repr

/-- A slot entry of a running order (R43). -/
structure Slot where
  context  : Nat := 0
  program  : Nat := 0
  offset   : Nat := 0
  duration : Nat := 0
  work     : Nat := 0
  chg      : Bool := false
  last     : Bool := false
  index    : Nat := 0
  row      : Nat := 0
  thetaF   : Nat := 0
  thetaR   : Nat := 0
  phi      : Nat := 0
  nCtu     : Nat := 0
  minLead  : Nat := 0
  deriving DecidableEq, Repr

/-- An entry of the cue program directory (R69). -/
structure Program where
  index   : Nat := 0
  kind    : Nat := 0
  chroma  : Nat := 0
  entry   : Nat := 0
  words   : Nat := 0
  nominal : Nat := 0
  normal  : Nat := 0
  floor   : Nat := 0
  deriving DecidableEq, Repr

/-- A cue word (R61): WAIT, the sequencer slot, and the fourteen unit slots as (opcode, operand). -/
structure CueWord where
  wait  : Nat := 1
  sq    : Nat × Nat := (0, 0)
  units : List (Nat × Nat) := []
  deriving DecidableEq, Repr

/-- A sequencer descriptor (R72). -/
structure SqDesc where
  target : Nat := 0
  alt    : Nat := 0
  count  : Nat := 0
  mark   : Nat := 0
  deriving DecidableEq, Repr

/-- A DR or DW descriptor (R73). -/
structure DrDesc where
  cls       : Nat := 0
  tag       : Nat := 0
  length    : Nat := 1
  base      : Nat := 0
  dest      : Nat := 0
  offset    : Nat := 0
  strideCtu : Nat := 0
  strideRow : Nat := 0
  destAddr  : Nat := 0
  deriving DecidableEq, Repr

/-- A data-path unit descriptor (R74): the consumed tags, source and destination, and the parameter bytes. -/
structure UnitDesc where
  tags   : List Nat := []
  src    : Nat := 0
  dst    : Nat := 0
  params : List Byte := []
  deriving DecidableEq, Repr

/-- One engine's tables (R42, R69 to R72). -/
structure EngineTab where
  kind      : Nat := 0
  family    : Nat := 0
  cycleNum  : Nat := 0
  cycleDen  : Nat := 1
  cycleMin  : Nat := 0
  guard     : Nat := 0
  slots     : List Slot := []
  programs  : List Program := []
  words     : List CueWord := []
  units     : List (List UnitDesc) := []   -- tables 0 to 11, IN to RW
  dr        : List DrDesc := []
  dw        : List DrDesc := []
  sq        : List SqDesc := []
  deriving DecidableEq, Repr

/-- A coding entry (R137), with the bytes of its templates. -/
structure Coding where
  codec      : Nat := 0
  profile    : Nat := 0
  tier       : Nat := 0
  level      : Nat := 0
  bitDepth   : Nat := 10
  structure_ : Nat := 0
  tileCols   : Nat := 1
  tools      : Nat := 0
  bandB      : Nat := 1
  sweepN     : Nat := 1
  period     : Nat := 1
  psRepeat   : Nat := 100
  lossInv    : Nat := 0
  colour     : List Nat := []       -- primaries, transfer, matrix, full range, chroma location, hdr flags, atc
  raw        : List Byte := []      -- the entry's 128 bytes (R124 compares them)
  templates  : List (List Byte) := []
  deriving DecidableEq, Repr

/-- A box office entry (R174). -/
structure BoxEntry where
  mode      : Nat := 0
  schedCount : Nat := 1
  schedInit : Nat := 0
  qpLoMin   : Int := 0
  qpHiMax   : Int := 51
  qpLoInit  : Int := 0
  qpHiInit  : Int := 51
  qpConst   : Int := 0
  hwStep    : Nat := 1
  tickDiv   : Nat := 0               -- d - 2
  duInc     : Nat := 1               -- u
  lambda    : Nat := 0
  hwBins    : Nat := 1
  rAvgInit  : Nat := 0
  rAvgMin   : Nat := 0
  lxInit    : Int := 0
  fRow      : Nat := 0
  scheds    : List (Nat × Nat) := [] -- rate, bsz
  deriving DecidableEq, Repr

/-- A layer entry (R195). -/
structure Layer where
  kind     : Nat := 0
  z        : Nat := 0
  opaque_  : Bool := false
  premult  : Bool := false
  argb2    : Bool := false
  m2020    : Bool := false
  srcFull  : Bool := false
  source   : Nat := 0
  opacity  : Nat := 256
  dst      : Rect := ⟨0, 0, 0, 0⟩
  src      : Rect := ⟨0, 0, 0, 0⟩
  fill     : Nat := 0
  stepMin  : Nat := 0
  stepMax  : Nat := 0
  spanMax  : Nat := 0
  stale    : Nat := 0
  env      : Rect := ⟨0, 0, 0, 0⟩     -- x0, y0, x1, y1
  deriving DecidableEq, Repr

/-- A layer set (R194). -/
structure LayerSet where
  base       : Bool := false
  preview    : Bool := false
  prevLink   : Nat := 0
  prevSource : Nat := 0
  background : Nat := 0
  layers     : List Layer := []
  deriving DecidableEq, Repr

/-- A graphic buffer pair (R196). -/
structure Pair where
  width  : Nat := 0
  height : Nat := 0
  stride : Nat := 0
  deriving DecidableEq, Repr

/-- A group entry (R234). -/
structure AGroup where
  enable  : Nat := 0
  rate    : Nat := 0
  framing : Nat := 0
  deriving DecidableEq, Repr

/-- A port entry (R234). -/
structure APort where
  direction : Nat := 0
  word      : Nat := 24
  autoRestart : Bool := false
  detect    : Bool := false
  outDelay  : Nat := 0
  deriving DecidableEq, Repr

/-- An audio stream entry (R234). -/
structure AStream where
  stream   : Nat := 0
  queue    : Nat := 0
  channels : Nat := 0
  ptime    : Nat := 0
  rate     : Nat := 0
  delayDa  : Nat := 0
  paired   : Nat := 0xFFFF
  deriving DecidableEq, Repr

/-- A route entry (R234). -/
structure ARoute where
  srcKind : Nat := 0
  dstKind : Nat := 0
  src     : Nat := 0
  dst     : Nat := 0
  gain    : Nat := 0x4000
  muted   : Bool := false
  lag     : Nat := 0
  deriving DecidableEq, Repr

/-- A stream entry (R259). -/
structure Strm where
  kind       : Nat := 0
  priority   : Nat := 0
  queue      : Nat := 0
  owner      : Nat := 0
  ssrc       : Nat := 0
  payload    : Nat := 96
  rtp        : Bool := false
  fixedSize  : Bool := false
  maxPacket  : Nat := 256
  fixed      : Nat := 0
  startSeq   : Nat := 0
  pidVideo   : Nat := 0
  pidPmt     : Nat := 0
  program    : Nat := 0
  delay      : Nat := 0
  evBase     : Nat := 0
  evCount    : Nat := 0
  deriving DecidableEq, Repr

/-- A queue entry (R270). -/
structure QEntry where
  queue    : Nat := 0
  enable   : Bool := false
  kind     : Nat := 0
  stream   : Nat := 0
  offset   : Nat := 0
  middle   : Nat := 0
  ackHold  : Nat := 0
  startSeq : Nat := 0
  deriving DecidableEq, Repr

/-- A scheduler entry (R283). -/
structure SchedEntry where
  queue    : Nat := 0
  cls      : Nat := 0
  overhead : Nat := 0
  weight   : Nat := 0
  rate     : Nat := 0
  rateMin  : Nat := 0
  rateMax  : Nat := 0
  burst    : Nat := 0
  deriving DecidableEq, Repr

/-- A link-role entry (R340). -/
structure Role where
  role       : Nat := 0
  target     : Nat := 2
  notify     : Bool := false
  tod        : Bool := false
  deriving DecidableEq, Repr

/-- A region entry (R434). -/
structure Region where
  kind  : Nat := 0
  index : Nat := 0
  base  : Nat := 0
  size  : Nat := 0
  deriving DecidableEq, Repr

/-- A production (R36 to R40 and every section of R38). -/
structure Production where
  id         : Nat := 0
  signed     : Bool := false
  part       : Nat := 0x4816
  stepping   : Nat := 1
  sigOffset  : Nat := 0
  sha        : List Byte := []                 -- SHA-256 of the image (R527, R489)
  descr      : Descr := {}
  sources    : List Source := []
  channels   : List Chan := []
  contexts   : List Ctx := []
  engines    : List (Nat × EngineTab) := []
  coding     : List Coding := []
  boxes      : List BoxEntry := []
  lambdas    : List (List (Nat × Nat × Nat)) := []
  sets       : List LayerSet := []
  pairs      : List Pair := []
  groups     : List AGroup := []
  ports      : List APort := []
  astreams   : List AStream := []
  routes     : List ARoute := []
  ladleMask  : Nat := 0xFFFF
  affinity   : Nat := 500
  minMicro   : Nat := 0
  streams    : List Strm := []
  stockpot   : Nat := 0
  queues     : List QEntry := []
  packetMode : Bool := false                   -- accounting 1 (R283)
  cycleNs    : Nat := 0
  baseTime   : Nat := 0
  scheds     : List SchedEntry := []
  gcl        : List (Nat × Nat) := []          -- duration, open
  roles      : List Role := []
  targets    : List Nat := []                  -- target_ns of P0 to P21
  regions    : List Region := []
  summary    : List Byte := []                 -- section 0x0070 as bytes (R586)
  deriving DecidableEq, Repr

/-- The refusal detail of R483. -/
structure Detail where
  reason  : Nat := 0
  engine  : Nat := 0xFF
  slot    : Nat := 0xFFFFFFFF
  section_ : Nat := 0
  entry   : Nat := 0
  item    : Nat := 0xFFFF
  lhs     : Nat := 0
  rhs     : Nat := 0
  deriving DecidableEq, Repr

/-- The green room (R50, R54, R481). -/
structure GreenRoom where
  state    : Nat := 0                     -- R50's values
  staging  : List Byte := []              -- the bytes received so far
  size     : Nat := 0                     -- image_size
  prod     : Option Production := none    -- the admitted production
  request  : Option Nat := none           -- a pending cue's request (R54)
  cuePoint : Nat := 0                     -- the fixed cue point, ns
  detail   : Detail := {}                 -- the last refusal detail (R483)
  deriving DecidableEq, Repr

end Sys2Proof.Machine
end

