-- ==== Sys2Proof/Machine/StEngine.lean ====
section
/-! DEFINITION. The state of ingest, contexts, engines and composition (02 to 07). Pixels, references, rings and graphic
bytes are held by the role of their buffer, because the device lays out every region itself (R587,
notes/assumptions/7). -/

namespace Sys2Proof.Machine

/-- One picture buffer: a line buffer, a frame buffer or a layer-ring buffer. Sample (x, y, component c) is at number
3 × (8192 y + x) + c; `got` marks accepted pixels at 8192 y + x. -/
structure Picture where
  frame    : Option Nat := none   -- mark index of the source frame it holds
  px       : Cells Nat := []
  got      : Cells Bool := []
  complete : Bool := false
  maxX     : Nat := 0             -- greatest first pixel + pixel count (R207)
  maxY     : Nat := 0             -- greatest line index + 1
  deriving DecidableEq, Repr

/-- A run-time rate or QP-limit change waiting for its frame mark (R188). -/
structure RateChange where
  sched : Option Nat := none
  rAvg  : Option Nat := none
  qpLo  : Option Int := none
  qpHi  : Option Int := none
  frame : Nat := 0                -- effective frame count
  deriving DecidableEq, Repr

/-- The box office state of R176, in the structure FRAME_RECORD also carries, with the parts R493 sends apart. -/
structure BoxState where
  core    : BoxRec := ⟨[], 0, 0, 0, 0, false, 0, [], [], 0, 0, 0, 0, 0, 0, none⟩
  lx      : Cells Int := []       -- lx_k
  qpPrev  : Cells Int := []       -- qp_row_prev
  qpRow   : Cells Int := []       -- this frame's qp_row_k (R178)
  beta    : Cells Nat := []       -- this frame's beta_k
  rho     : Cells Nat := []       -- rho_i(k) at 128 i + k
  deriving DecidableEq, Repr

/-- A motion-field entry: ref0's and ref1's steering vectors (R156). -/
structure MField where
  x0 : Int := 0
  y0 : Int := 0
  x1 : Int := 0
  y1 : Int := 0
  deriving DecidableEq, Repr

/-- The kind of a coded picture (R126, R129, R130). -/
inductive PicKind where
  | idrNLp | trailR | gdr | trail
  deriving DecidableEq, Repr

/-- A picture kind's number among the operands of coded content. -/
def PicKind.num : PicKind → Nat
  | .idrNLp => 0
  | .trailR => 1
  | .gdr => 2
  | .trail => 3

/-- The type of a picture's slices (R112, R126). -/
inductive SliceKind where
  | i | p | b
  deriving DecidableEq, Repr

/-- A slice type's number among the operands of coded content. -/
def SliceKind.num : SliceKind → Nat
  | .i => 0
  | .p => 1
  | .b => 2

/-- What a picture's headers say (R107, R112, R126, R129, R130): recovery_poc_cnt, the virtual boundary's x, the active
references of each list as buffers, the long-term one, and the ALF APS's identifier. -/
structure PicHead where
  kind     : PicKind := .trail
  slice    : SliceKind := .p
  poc      : Nat := 0
  recovery : Option Nat := none
  boundary : Option Nat := none
  l0       : List Nat := []
  l1       : List Nat := []
  longTerm : Option Nat := none
  aps      : Option Nat := none
  deriving DecidableEq, Repr

/-- A context record (R88). Buffers are numbered 0 to 3 (R113). -/
structure CtxRec where
  production : Nat := 0
  format     : List Nat := []     -- codec, chroma, width, height, rate_num, rate_den, mode, engine mask (R56)
  frame      : Nat := 0           -- frame count of the latest frame (mark index)
  poc        : Nat := 0
  ingest     : Nat := 0
  box        : BoxState := {}
  ref0       : Nat := 0
  ref1       : Nat := 1
  backdrop   : Nat := 2
  write      : Nat := 1
  spare      : Nat := 3
  captured   : Bool := false      -- a backdrop has been captured (R114)
  capturing  : Option Nat := none -- frame c of a capture in progress (R114)
  valid      : Cells Bool := []   -- validity bit of CTU t of buffer b at 2048 b + t (R120)
  filterNow  : Nat := 0           -- loop-filter set in use: 0 fixed only, otherwise a derivation's number (R107)
  filterNext : Nat := 0           -- derived set
  started    : Bool := false      -- a frame has been coded since the stream start
  sweepStart : Nat := 0           -- POC of the last sweep's frame 0 (R128)
  sweepNo    : Nat := 0           -- sweeps begun since the stream start (R114)
  sweeping   : Bool := false
  lastPs     : Nat := 0           -- house time in ns of the last parameter-set repetition (R132)
  buffering  : Nat := 0           -- POC of the last buffering period (R172)
  motion     : List Int := []     -- motion statistics: the steering vectors' sums and number in the last frame
  bases      : List Nat := []     -- bases 0 to 5 of R73 and the record's
  mf         : Cells MField := []
  deriving DecidableEq, Repr

/-- A layer's dst, src and opacity. -/
structure Geo where
  dst     : Rect := ⟨0, 0, 0, 0⟩
  src     : Rect := ⟨0, 0, 0, 0⟩
  opacity : Nat := 256
  deriving DecidableEq, Repr

/-- What one frame of a context has latched (R197). -/
structure Latch where
  frame   : Nat := 0
  geo     : List Geo := []
  content : Bool := false              -- the content latch has been taken
  left    : Nat := 0                   -- tiles whose part of the frame has not left composition
  down    : Bool := false              -- latched DOWN (R218)
  image   : Bool := false              -- VALID at that latch (R217)
  gen     : Nat := 0                   -- curtain generation latched
  prev    : Nat := 0                   -- the one latched for the context's previous frame (R221)
  bufs    : List (Option Nat) := []    -- per layer: ring buffer or front buffer; none = fill colour
  holds   : List (Nat × Nat × Nat) := []  -- what it keeps from reuse: kind, source or pair, buffer
  states  : List Nat := []             -- per layer: 0 shown, 1 not ready, 2 stale, 3 too wide
  deriving DecidableEq, Repr

/-- A layer change waiting for its geometry latch (R209). -/
structure LayerChange where
  layer   : Nat
  frame   : Nat
  geo     : Option (Rect × Rect) := none
  opacity : Option Nat := none
  deriving DecidableEq, Repr

/-- What one frame of a context gathers over its tiles for the events raised once a frame (R123, R185, R191). -/
structure FrameStat where
  ends       : Nat := 0                  -- tiles whose last row has ended
  floors     : Nat := 0                  -- floor CTUs (R191)
  floorIntra : Nat := 0                  -- floor intra CTUs
  intraMask  : Nat := 0                  -- their causes (R123)
  budget     : Nat := 0                  -- budget-floor CTUs
  budgetAt   : Nat × Nat := (0, 0)       -- the first: row, CTU
  bins       : Nat := 0                  -- bin-floor CTUs
  binsAt     : Nat := 0                  -- m at the first
  clipped    : Nat := 0
  deriving DecidableEq, Repr

/-- The items of one row of a video stream (R494). -/
structure RowItems where
  first  : U32 := 0
  count  : Nat := 0
  bytes  : List Byte := []               -- their payloads in sequence order
  floor  : Bool := false
  closed : Bool := false                 -- its last item has committed
  deriving DecidableEq, Repr

/-- What a FRAME_RECORD takes from a context's latest frame whose last slot has ended (R493). -/
structure FrameEnd where
  frame  : Nat
  box    : BoxState
  buffer : Nat                           -- the reference buffer it was written to
  blocks : List Nat                      -- digests of the record's blocks (R493)
  deriving DecidableEq, Repr

/-- How a frame of a context begins, alike on every tile: the cause of a stream start (R124), of clearing every reference
bit (R120, R508), and the reason of a sweep that the period does not give (R128). -/
structure FrameStart where
  frame : Nat
  start : Option Nat := none
  clear : Option Nat := none
  sweep : Option Nat := none
  deriving DecidableEq, Repr

/-- A context as the device runs it: the ingest windows, the composition registers and the status counters. -/
structure CtxState where
  state     : Nat := 0                 -- 0 inactive, 1 running, 2 draining
  frame     : Nat := 0                 -- mark index of its latest frame
  startDue  : Option Nat := none       -- a stream start with this cause at its next frame (R124)
  closed    : Cells Bool := []         -- windows closed: row k of tile t of frame f at 512 f + 128 t + k
  repeats   : Cells Bool := []         -- repeat floor rows, at the same numbers (R144)
  missing   : Nat := 0                 -- whole missing frames in a row (R120)
  backAt    : Option Nat := none       -- the frame in which the source returned before its start (R120)
  returned  : Option (Nat × List Nat) := none -- the source returned in this frame after its start; tiles whose record shows it (R120)
  decided   : Option FrameStart := none -- of the latest started frame
  forcedSweep : Option Nat := none     -- a sweep begins at the next frame, with this reason (R128, R508)
  changes   : List LayerChange := []
  inForce   : List Geo := []           -- geometry in force
  latches   : List Latch := []         -- newest first, at most two (R198)
  lastGen   : Nat := 0                 -- generation latched last (R221)
  prevTc    : Nat := 0                 -- previous content latch, ticks (R218)
  notReady  : List Nat := []           -- per layer: consecutive not-ready frames
  stale     : List Bool := []          -- per layer: LAYER_STALE raised in this run
  tooWide   : List Bool := []          -- per layer: LAYER_TOO_WIDE raised
  previewSkips : Nat := 0
  previewBad : Cells Bool := []        -- preview bands whose read returned poisoned, at 512 × frame + band (R212, R429)
  previewLines : Cells (List (List Byte)) := [] -- preview lines read back, per tile, at 8192 × frame + line (R212)
  rowsRepeated : Nat := 0
  linesDup  : Nat := 0
  lateReads : Nat := 0
  sweeps    : Nat := 0
  starts    : Nat := 0
  pending   : Option RateChange := none -- waiting for its frame mark (R176, R188)
  due       : Option (RateChange × List Nat) := none -- in force, for the frame-shared records of these tiles at their next slot (R93)
  stats     : Cells FrameStat := []    -- by frame
  rows      : Cells RowItems := []     -- by 128 × frame + row
  lastEnd   : Option FrameEnd := none
  deriving DecidableEq, Repr

/-- A tag of the DR unit (R79). -/
structure Tag where
  arrived : Bool := false
  valid   : Bool := false
  gen     : Nat := 0
  desc    : DrDesc := {}
  ctu     : Nat := 0
  deriving DecidableEq, Repr

/-- What MD has decided for a quad or a floor CTU (R165, R166). -/
structure MdChoice where
  floor : Nat := 0            -- 0 normal; 1 floor skip; 2 floor intra
  inter : Option Nat := none  -- reference index chosen, none = intra
  mv    : Int × Int := (0, 0)
  mv1   : Int × Int := (0, 0) -- reference 1's vector of a bi-predicted quad (inter = 2)
  size  : Nat := 16           -- the CU's width; 8, a quad of four CUs; 32 and 64, one CU of several quads (R104, R105, R159)
  part  : Nat := 0            -- HEVC's PU partition: 2N×2N, 2N×N, N×2N, N×N (R104)
  mode  : Nat := 0            -- the mode of the published standard, a free value
  merge : Option Nat := none  -- its merge index; a floor skip CTU without one is a non-merge CU with reference index 0
  mvd   : Int × Int := (0, 0) -- a floor skip CTU's MVD, which cancels the predictor (R165); an MMVD candidate's offset
  qp    : Int := 0
  deriving DecidableEq, Repr

/-- What TQ leaves of a quad (R182). -/
structure TqRes where
  coef    : Nat := 0          -- the quantised coefficients, by the number of the content that fixes them; 0 = none
  bound   : Nat := 0
  bins    : Nat := 0
  clipped : Bool := false
  deriving DecidableEq, Repr

/-- The sequencer (R64 to R68) and what it holds of its slot. -/
structure Seq where
  slot      : Nat := 0                 -- slot index
  inSlot    : Bool := false
  context   : Nat := 0
  tile      : Nat := 0
  slotMark  : Nat := 0                 -- tick of the engine frame mark that the slot's offset counts from
  frame     : Nat := 0                 -- mark index of the frame that the slot codes
  frameTick : Nat := 0                 -- tick of that mark
  pc        : Nat := 0
  due       : Nat := 0                 -- ECLK cycle at which the word at pc is due (R61, R62)
  did       : List Nat := []           -- slots of that word whose operations have issued
  calls     : List Nat := []           -- return addresses, innermost first (R65)
  loops     : List (Nat × Nat) := []   -- count, body start, innermost first
  ctu       : Nat := 0
  row       : Nat := 0
  inBlock   : Bool := false            -- a block called by LATE is running
  blockBase : Nat := 0                 -- calls open when that block was called
  outer     : List (Nat × Bool × Bool) := [] -- the blocks around it, innermost first: blockBase, whether it is a floor block, noFreeze
  rowTurn   : Bool := false            -- the row ended inside it
  flag      : Bool := false            -- FLOOR (R66)
  floor     : Bool := false            -- the block that runs, or ran last, is a floor block
  lateness  : Nat := 0                 -- L
  frz       : Nat := 0                 -- FRZ (R80)
  noFreeze  : Bool := false            -- the block cannot freeze again (R81)
  frozenAt  : Option Nat := none       -- cycle at which the freeze began
  frzSeen   : Nat := 0                 -- its cycles that a status record has reported (R95)
  waiting   : List Nat := []           -- tags that the frozen word waits for (R80)
  hold      : Option Nat := none       -- cycle of the MARK target (R67)
  run       : Option (Nat × Nat × Nat × Nat) := none -- run of floor blocks: row, first CTU, blocks, L (R87)
  lateSeen  : Bool := false            -- the slot's first LATE has issued (R89)
  startDue  : Bool := false            -- the frame's work on the record has still to begin
  lateL     : Nat := 0                 -- L at the last LATE word
  deriving DecidableEq, Repr

/-- The two sieve levels of a CTU (R148, R150): 16 × 16 samples, and 16 quad units of 8 × 8. -/
structure Levels where
  quarter : List Nat := []
  half    : List Nat := []
  deriving DecidableEq, Repr

/-- What MF reports of a quad for one reference (R159): the best quarter-pel vector and its cost, the SATD there of the
four 8×8, the two 16×8 and the two 8×16 blocks, the best integer vector, and the quad coarse vector × 4 pixels; vectors
in quarter pixels. -/
structure FineRes where
  mv     : Int × Int := (0, 0)
  cost   : Nat := 0
  parts  : List Nat := []
  whole  : Int × Int := (0, 0)
  coarse : Int × Int := (0, 0)
  deriving DecidableEq, Repr

/-- A fine window of a search cache at one level (R157, R158): its first quad column and row, the reference it was read
from, the MC result it was placed with as quad coarse vectors, and per quad the samples, the read that has still to bring
them (16 × tag + generation; noRead where none has), and VALID. -/
structure FineWin where
  x       : Int := 0
  y       : Int := 0
  buffer  : Nat := 0
  frame   : Nat := 0
  vecs    : Cells (Int × Int) := []
  quads   : List (List Nat) := []
  src     : List Nat := []
  valid   : List Bool := []
  deriving DecidableEq, Repr

/-- A column slot of a coarse window (R152): the picture column it holds, the first CTU row, the 1/4-level blocks, the
reference buffer, and the read that has still to fill it (16 × tag + generation; noRead where none has); `bad` when the fill
completed with VALID clear (R163). -/
structure ColSlot where
  col    : Nat := 0
  row    : Nat := 0
  blocks : List (List Nat) := []
  buffer : Nat := 0
  src    : Nat := 0
  bad    : Bool := false
  deriving DecidableEq, Repr

/-- Data that a read has under way or landed in an on-chip memory (R60, R73, R97): the destination of R73 (0 the landing
buffer, 3 the line buffer, 4 the composition buffers), the byte range, the class and the tag. -/
structure Landing where
  dest  : Nat
  addr  : Nat
  bytes : Nat
  cls   : Nat
  tag   : Nat
  deriving DecidableEq, Repr

/-- A CTU column of the reconstruction rows (R97): the quads of the latest CTU coded there, before and after the loop
filters, and its modes. -/
structure RowCtu where
  row   : Nat := 0
  recon : List (List Nat) := []
  out   : List (List Nat) := []
  md    : Cells MdChoice := []
  deriving DecidableEq, Repr

/-- Bins queued in the bin buffer (R89, R183): the row whose slice they belong to, how many are left, the bits that the
CABAC coder writes for them, and whether the slice ends with them. -/
structure BinRun where
  context : Nat
  tile    : Nat
  row     : Nat
  frame   : Nat
  bins    : Nat
  bits    : Nat
  last    : Bool := false
  content : Nat := 0           -- the number of the slice's content with it
  ctu     : Option Nat := none -- the CTU of the row that they code
  deriving DecidableEq, Repr

/-- Levels that SV.EXP has staged for DW (R149): the CTU's number in the tile, and which planes still wait. -/
structure Staged where
  ctu     : Nat
  levels  : Levels := {}
  quarter : Bool := true
  half    : Bool := true
  deriving DecidableEq, Repr

/-- What the box office keeps of the row, the frame and the bin buffer between decision points. -/
structure RowWork where
  known     : Nat := 0                 -- bits of the row so far (R179)
  entered   : Bool := false            -- the row's decoding unit has been entered (R170)
  sliceOpen : Bool := false
  headBits  : Nat := 0                 -- slice overhead of the row
  vBefore   : List Nat := []           -- the fullness before row 0's drain (R186)
  pic       : PicHead := {}            -- the frame's headers
  range     : Nat := 510               -- BN's shadow of the arithmetic coder's range register (R167)
  shifts    : Nat := 0                 -- renormalisation shifts of the slice
  bypass    : Nat := 0                 -- its bypass bins
  normal    : Nat := 0                 -- normal CTUs of the row (R180)
  sumQp     : Int := 0                 -- sum of their QPs
  bn        : Nat := 0                 -- their bits
  stats     : Cells (Nat × Int × Nat × Nat) := []  -- per row: a, sum of QP, bn, n_k
  target    : Bool := false            -- the frame's first decision point has passed (R178)
  auBits    : Nat := 0                 -- the frame's non-VCL bits (R181)
  frameBits : Nat := 0
  filler    : Nat := 0                 -- filler bits of the frame
  clipped   : Nat := 0
  floorCtus : Nat := 0
  fill      : Nat := 0                 -- m, the modelled bin fill (R183)
  fillAt    : Nat := 0                 -- nominal cycle of the last model update
  fillDue   : List (Nat × Nat) := []   -- bins of BN results still to come, each with the nominal cycle of the result
  entropy   : Nat := 0                 -- the number of the content that the row's slice holds so far
  prevRise  : Nat := 0                 -- 2 × (θ_f + Φ) of the previous slot
  hrd       : List Nat := []           -- schedules for which the frame has raised HRD_LIMIT (R186)
  derAt     : Option Nat := none       -- cycle at which DER issued (R77)
  derCtx    : Nat := 0                 -- the context it derives for
  derived   : Nat := 0                 -- the set it derives, by its free value's index
  alfSeen   : Bool := false            -- the frame's first ALF has issued
  alfStats  : Nat := 0                 -- the number of the statistics that ALF has accumulated in the frame (R75)
  deriving DecidableEq, Repr

/-- What the units hold of the CTU in work. -/
structure CtuWork where
  comp      : Cells (List Nat) := []   -- composed quads: Y, then Cb, then Cr
  summary   : List Nat := []           -- IN.FLR's block sums (R122)
  badSource : Bool := false            -- the source data of the CTU is invalid (R82)
  badRef    : Cells Bool := []         -- quads whose inter candidates are forced to maximum (R82)
  badFloor  : Bool := false            -- a floor block consumed invalid reference data (R82)
  badLayers : List Nat := []           -- layers whose reads were lost for the CTU (R207)
  levels    : Levels := {}             -- the CTU's levels (R149)
  fine      : Cells FineRes := []      -- MF results at 2 q + ref (R159)
  bi        : Cells Nat := []          -- bi costs by quad
  intra     : Cells Nat := []          -- IP results: cost of a quad
  md        : Cells MdChoice := []     -- MD results by quad
  tq        : Cells TqRes := []
  recon     : Cells (List Nat) := []   -- IQ's samples of a quad, in raw quad order (R118), at the coded bit depth
  filtered  : Cells (List Nat) := []   -- the samples of a quad after the loop filters that have run on it
  stage     : Cells Nat := []          -- quads deblocked (1), with SAO (2), with ALF (3)
  dbk       : Cells UnitDesc := []     -- the operations that deblocked them
  crf       : CtuCrf := ⟨[], [], 0, [], 0⟩         -- RW's staging of the CTU
  decided   : Bool := false            -- the decision point has passed (R168)
  undo      : Option RowWork := none   -- what stood when it made the CTU a normal one
  qp        : Int := 0                 -- the CTU's QP
  floor     : Nat := 0                 -- 0 normal, 1 budget, 2 bins, 3 late, 4 input missing, 5 no inter candidate (R122)
  intraFlr  : Bool := false            -- its floor choice is floor intra
  lossMask  : Nat := 0                 -- why, as R123 counts it
  room      : Nat := 0                 -- room bits of the CTU (R179)
  rb        : Nat := 0
  runBits   : Nat := 0                 -- running bound of the CTU (R182)
  runBins   : Nat := 0
  side      : Nat := 0                 -- syntax bits other than residual, of s_side
  deriving DecidableEq, Repr

/-- The counters of R95. -/
structure EngCount where
  latenessMax : Nat := 0
  freezes   : Nat := 0
  freezeCycles : Nat := 0
  floorBlocks : Nat := 0
  substs    : Nat := 0
  poisoned  : Nat := 0
  dropped   : Nat := 0
  eccFixed  : Nat := 0
  deriving DecidableEq, Repr

/-- A slice on its way through the CABAC coder (R246). -/
structure Slice where
  context   : Nat
  tile      : Nat
  row       : Nat
  frame     : Nat
  frameTick : Nat
  last      : Bool                     -- last row of the frame
  bytes     : Nat := 0                 -- its NAL unit's bytes, once the row has ended
  written   : Nat := 0                 -- bits that the CABAC coder has written of it
  whole     : Bool := false            -- the coder has written its end
  parts     : List (Nat × Nat) := []   -- per run coded: bits written with it, the number of the content so far
  ctus      : List (Option Nat) := []  -- and the CTU that it codes
  ended     : Bool := false            -- the slice has ended
  filler    : Nat := 0                 -- filler bytes behind it (R170)
  floor     : Bool := false            -- it holds a floor CTU
  deriving DecidableEq, Repr

/-- The CABAC coder and the engine's chunk store (R246, R247). -/
structure Chunk where
  used      : Nat := 0                 -- bytes in use or reserved
  segOpen   : Bool := false
  done      : Nat := 0                 -- bytes of the oldest slice in segments already closed
  lost      : Bool := false            -- the rest of the oldest slice is discarded
  slices    : List Slice := []         -- oldest first
  deriving DecidableEq, Repr

/-- A result of MC.CRS (R155): the CTU it serves, by its number in the tile, the steering vectors, the cycle at which it
can be read, and the quad coarse vectors at 2 q + ref. -/
structure Steer where
  ctu   : Nat
  v     : MField
  ready : Nat
  quads : Cells (Int × Int) := []
  deriving DecidableEq, Repr

/-- One engine (R60, R95). -/
structure Engine where
  halves    : Vector EngineTab 2 := Vector.replicate 2 {}  -- cue memory and descriptor tables (R70, R71)
  half      : Fin 2 := 0               -- live half
  switchDue : Bool := false            -- the halves switch at the first slot of the new production (R55)
  state     : Nat := 0                 -- R95's codes
  failed    : Bool := false
  q         : Seq := {}
  c         : CtuWork := {}
  r         : RowWork := {}
  n         : EngCount := {}
  tags      : Cells Tag := []
  staged    : List Staged := []        -- levels that SV.EXP has staged, oldest first
  crfs      : List (Nat × CtuCrf) := []  -- CTUs whose CRF RW has staged, oldest first
  steers    : List Steer := []         -- the slot's latest MC results, newest first, at most two
  windows   : Cells FineWin := []      -- search caches (R161): at 4 × cache + 2 × set + level, level 1 full-resolution
  slots     : Cells ColSlot := []      -- their coarse windows (R152): at 64 × cache + slot
  sram      : List Landing := []       -- what reads have brought into the landing, line and composition buffers
  rows      : Cells RowCtu := []       -- reconstruction rows, by CTU column of the tile
  sieve     : Cells Levels := []       -- the sieve row store (R149)
  bins      : List BinRun := []        -- the bin buffer, oldest first
  binsAt    : Nat := 0                 -- cycle up to which the CABAC coder has drained it
  store     : Vector (Option (Nat × CtxRec)) 2 := #v[none, none]  -- record store halves: context and record (R89)
  storeHalf : Fin 2 := 0
  incoming  : Option (Nat × Fin 2) := none  -- the context whose record is being read, and the half it goes to
  recTag    : Option Nat := none       -- the tag of that read
  recLost   : Bool := false            -- that tag has been substituted: the record is not used (R91)
  lost      : List Nat := []           -- contexts whose last record write was dropped (R90)
  chunk     : Chunk := {}
  deriving DecidableEq, Repr

/-- A graphic buffer pair (R210). -/
structure PairState where
  front     : Nat := 0
  committed : Bool := false
  backFree  : Bool := true     -- the back buffer is released
  buf0      : Memory := []
  buf1      : Memory := []
  deriving DecidableEq, Repr

/-- A layer ring (R199). -/
structure Ring where
  bufs    : Vector Picture 3 := Vector.replicate 3 {}
  newest  : Option Nat := none
  whole   : List Nat := []       -- mark indices of the latest frames that were completed, newest first (R207)
  started : Option Nat := none   -- mark index of the latest frame that began, stored or not
  deriving DecidableEq, Repr

/-- The safety curtain (R213 to R222). -/
structure Curtain where
  mem     : Memory := []
  valid   : Bool := false
  sha     : List Byte := List.replicate 32 0
  gen     : Nat := 0
  imageId : Nat := 0
  seq     : Nat := 0
  cmdDown : Bool := false
  cmdSeq  : Nat := 0
  pin     : Bool := true              -- filtered CURTAIN_N level
  lows    : List (Nat × Option Nat) := []  -- low intervals: fall tick, rise tick, newest first
  staging : Memory := []
  install : Option (List Byte) := none     -- a verified image waiting for its copy (R217)
  deriving DecidableEq, Repr

end Sys2Proof.Machine
end

