-- ==== Sys2Proof/Machine/StFlow.lean ====
section
/-! DEFINITION. The state of audio (08), of tasks, ladles and queues (09) and of egress (10). -/

namespace Sys2Proof.Machine

/-- One serial audio port (R236, R237, R239). -/
structure APortState where
  buffer    : List (Nat × Nat × Int) := []  -- slot words waiting, oldest first (128 at most): frame, slot (0 left), value
  rdPtr     : Nat := 0            -- parity of the read pointer
  wrPtr     : Nat := 0            -- parity of the write pointer
  lastWord  : Int := 0
  ask       : Nat := 0            -- output: the next word that the DMA asks for, 2 × frame + slot
  fetch     : Nat := 0            -- output: the next word to enter the buffer
  got       : List (Nat × Int) := []  -- output: words that came before an earlier one
  settle    : Nat := 0            -- 0 while data moves; else 1 + the settling frames left (R236)
  risk      : Bool := false       -- SWAP_RISK
  restartDue : Bool := false      -- automatic restart at the next frame
  cause     : Option Nat := none  -- cause that AUDIO_RESTARTED will name; none when the group's clocks started
  nonpcm    : Bool := false
  quiet     : Nat := 0            -- frames without a preamble while nonpcm
  overruns  : Nat := 0
  underruns : Nat := 0
  restarts  : Nat := 0
  deriving DecidableEq, Repr

/-- An audio group (R228, R236). -/
structure AGroupState where
  running  : Bool := false
  rate     : Nat := 0             -- rate and framing that its clocks run at
  framing  : Nat := 0
  divider  : Nat := 0             -- ACLK periods per bit clock: 32 or 16; 0 while the clocks stand low (R229, R236)
  leftHigh : Bool := false        -- the word select is high during the left slot (R229)
  next     : Option (Nat × Nat) := none  -- rate and framing from the next frame boundary
  stopAt   : Option Nat := none   -- frames left before the clocks stop
  index    : Nat := 0             -- sample index n of the last frame
  deriving DecidableEq, Repr

/-- A route's run-time state (R238). -/
structure RouteState where
  gain     : Nat := 0x4000
  muted    : Bool := false
  hold     : Bool := false        -- muted by the non-PCM detector (R237)
  pending  : Option (Option Nat × Option Bool) := none  -- pending gain, pending mute
  accepted : Nat := 0             -- acceptance tick of the pending change
  checked  : Nat := 0             -- last source sample examined for a zero crossing
  lastSrc  : Int := 0             -- that sample
  crossing : Option Nat := none   -- sample at which the pending change met its zero crossing
  hist     : List (Nat × Nat) := []  -- effective gains: from which sample, newest first
  deriving DecidableEq, Repr

/-- Audio (08). -/
structure Audio where
  groups  : Vector AGroupState 4 := Vector.replicate 4 {}
  ports   : Vector APortState 32 := Vector.replicate 32 {}
  samples : Cells (Option Int) := []   -- source samples: port channel c = 2 × port + side at 2^60 × c + n, link channel c at 2^60 × (64 + c) + n
  chanNonpcm : Cells Nat := []         -- per link pair: 0 not muted, else 1 + frames without a preamble
  zeroed  : Cells Bool := []           -- samples that a link route takes as 0, at 2^60 × route + n (R232)
  late    : Cells (Nat × Nat) := []    -- per link channel: samples zeroed, samples discarded
  routes  : Cells RouteState := []
  next    : Cells Nat := []            -- per stream: 1 + the first sample of its next packet; 0 = not started
  out     : List (Nat × U32 × U32) := []  -- what output ports drove in the last frame: port, left slot, right slot (R230)
  deriving DecidableEq, Repr

/-- Task kinds (R248). -/
inductive TaskKind where
  | auPrefix | videoChunk | audio | ancillary | event
  deriving DecidableEq, Repr

/-- A task of the stage manager (R248). -/
structure Task where
  id       : Nat := 0
  kind     : TaskKind
  stream   : Nat                  -- its entry in the production's stream table
  sid      : Nat := 0             -- its stream's state (R251)
  pos      : Nat := 0             -- its place among the tasks of its stream (R252)
  queue    : Nat := 0             -- the queue it commits to
  ago      : Nat := 0             -- how many swaps ago the production of its work ran (R284)
  key      : Nat := 0             -- video: its place in the order of R249: 1024 × frame + 8 × row + 1 + tile, a prefix at 1024 × frame
  after    : Option Nat := none   -- video: the place that follows when it ends its tile's slice
  counter  : Nat := 1             -- the dependence counter
  readyAt  : Nat := 0
  bytes    : Nat := 0             -- content bytes
  stored   : Nat := 0             -- bytes of the engine's chunk store that it frees when it completes (R246)
  nal      : Nat := 0             -- length of the NAL unit the segment belongs to
  start    : Nat := 0             -- offset of the segment in its NAL unit
  parts    : List (Nat × Nat) := []  -- VIDEO_CHUNK: what its slice's bytes are of (Slice)
  nals     : List (List Byte) := []  -- AU_PREFIX: its NAL units
  payload  : List Byte := []      -- audio, ancillary and event content
  stamp    : Nat := 0             -- release stamp
  time90   : Nat := 0             -- RTP timestamp
  filler   : Nat := 0             -- filler bytes carried by the tile's last segment (R170)
  rowEnd   : Bool := false        -- last content of its row
  auEnd    : Bool := false        -- last content of its access unit
  row      : Nat := 0
  frame    : Nat := 0
  engine   : Nat := 0
  trunc    : Option (Nat × Nat) := none  -- TRUNCATED: packets and bytes discarded
  built    : Nat := 0             -- packets built so far
  retried  : Bool := false        -- an ECC error has been met (R264)
  rebuilt  : Nat := 0             -- packets numbered below this carry REBUILT when they are built
  deriving DecidableEq, Repr

/-- A ladle (R244, R250, R251). -/
structure Ladle where
  task   : Option Nat := none     -- the id of the task it runs
  busyTo : Nat := 0               -- FCLK cycle to which its work so far runs (R245)
  packets : List (List Byte) := [] -- contents of the packets of its task still to build
  all    : List (List Byte) := []  -- contents of every packet of its task
  redo   : Nat := 0               -- how many of those still to build have been committed before an error (R264)
  cache  : List Nat := []         -- stream states that it caches, most recently used first (64 at most)
  deriving DecidableEq, Repr

/-- A stream state (R251), kept by the stream's identity: its queue, kind and SSRC (Strm.key). -/
structure StreamSt where
  rtpSeq    : Nat := 0
  ccVideo   : Nat := 0            -- TS continuity counters
  ccPat     : Nat := 0
  ccPmt     : Nat := 0
  filler    : List Nat := []      -- filler sizes pending for the row
  preferred : Option Nat := none
  cursor    : Nat := 0            -- video: the place that commits next (R249)
  created   : Nat := 0            -- tasks created
  position  : Nat := 0            -- tasks completed: the next position expected (R252)
  frag      : List Nat := []      -- fragmentation: the first two bytes of the NAL unit in fragments, and its next byte's offset
  tsRest    : List Byte := []     -- TS: bytes of the PES not yet in a whole TS packet
  pesStart  : Bool := false       -- TS: they begin the PES
  lastPcr   : Nat := 0            -- TS: release stamp of the last PCR and of the last PAT and PMT, ns (R257)
  lastPat   : Nat := 0
  deriving DecidableEq, Repr

/-- A pending gap marker (R263). -/
structure Gap where
  count  : Nat
  bytes  : Nat
  rtpSeq : Nat
  cause  : Nat
  causes : Nat
  stamp  : Nat
  rowAt  : Option Nat := none     -- video: 128 × frame + row of its first refused packet
  ago    : Nat := 0               -- how many swaps ago the production of that packet ran (R284)
  deriving DecidableEq, Repr

/-- A queue (R260 to R271). Items are oldest first in head, the refill in flight, middle and tail. -/
structure Queue where
  state     : Nat := 0            -- 0 disabled, 1 running, 2 draining
  head      : List Item := []
  middle    : List Item := []
  tail      : List Item := []
  next      : U32 := 0            -- next_seq
  released  : U32 := 0            -- released_seq
  acked     : U32 := 0            -- acked_seq
  gap       : Option Gap := none
  refill    : List Item := []     -- items of the refill in flight
  refillBad : Bool := false       -- a read of the refill in flight came poisoned (R429)
  fillMax   : Nat := 0
  refused   : Nat := 0
  late      : Nat := 0
  restart   : Bool := false       -- the next release carries RESTART (R286)
  sid       : Nat := 0            -- the state of its stream (R251)
  ago       : Nat := 0            -- how many swaps ago the production ran whose entry its bucket follows (R284)
  bounds    : List (Nat × U32) := []  -- later productions, by how many swaps ago they ran, with the first of their items (R284)
  confirmed : U32 := 0            -- confirmed position (R494)
  reported  : U32 × U32 × U32 := (0, 0, 0)  -- positions last sent or last received (R494)
  s         : Nat := 0            -- start tag (R276)
  f         : Nat := 0            -- finish tag
  backlog   : Bool := false
  tokens    : Nat := 0            -- T (R279)
  rate      : Nat := 0            -- shaper rate in force
  burst     : Nat := 0
  newRate   : Option (Nat × Nat) := none  -- a rate waiting for the next refill, and the microsecond of its acceptance (R280)
  unconf    : Option U32 := none  -- sequence number after the last item released unconfirmed (R497)
  begun     : Bool := false       -- the queue has been enabled since the last cold reset (R286)
  lateSeen  : Option U32 := none  -- item for which CONFIRM_LATE was raised (R497)
  deriving DecidableEq, Repr

/-- Tasks, ladles, streams, queues and egress. -/
structure Flow where
  tasks   : List Task := []       -- in flight, oldest first: at most 8,192 (R248)
  outside : List Task := []       -- created beyond those, waiting to join them
  nextId  : Nat := 1
  ladles  : Vector Ladle 16 := Vector.replicate 16 {}
  streams : Cells StreamSt := []  -- by stream identity
  queues  : Cells Queue := []
  v       : Nat := 0              -- virtual time V (R276)
  gate    : Nat := 0              -- gate control list entry in force (R281)
  gateAt  : Int := 0              -- house time in ns at which it began
  selAt   : Option Nat := none    -- FCLK cycle of the last selection (R275)
  dispAt  : Option Nat := none    -- FCLK cycle of the last dispatch (R250)
  saved   : Cells (Queue × StreamSt) := []  -- stockpot save areas (R268)
  hasSaved : Bool := false        -- saved stockpot state exists (R433)
  firstCue : Bool := true         -- no production has been cued since the last reset
  lastRefill : Nat := 0           -- microsecond of the last refill
  confLate : Nat := 0             -- items that the confirmation gate held past their stamps (R497)
  deriving DecidableEq, Repr

end Sys2Proof.Machine
end

