-- ==== Sys2Proof/Machine/StHost.lean ====
section
/-! DEFINITION. The state of house time, events and CUE pins (14), of boot and reset (16), of the host window, the
mailboxes and the journal (17), of OTP, keys and access (19), of the check-value units and the test port (20), and of
the monitors (22). Every default is the value right after a power-on reset: the spec's where it gives one, otherwise
the value notes/assumptions/4 names. -/

namespace Sys2Proof.Machine

/-- House time and its discipline (R392 to R396). Time is counted in FCLK ticks of 1.25 ns. -/
structure HouseTime where
  fclk       : Nat := 0           -- FCLK cycles since power-on
  tick       : Nat := 0           -- house time in ticks since the SMPTE epoch (R392, R393)
  valid      : Bool := false      -- TIME_VALID (R393)
  tod        : Option Nat := none -- the TIME_OF_DAY second that applies to the next edge (R394)
  todSeen    : Bool := false      -- TOD_SEEN (R396)
  ppsPresent : Bool := false      -- PPS_PRESENT (R396)
  alarm      : Bool := false      -- ALARM: the last edge's error reached time_alarm (R394, R396)
  lastPps    : Nat := 0           -- capture of the last edge, ns (R396)
  lastPpsAt  : Nat := 0           -- FCLK cycle of the last edge, for the 1.5 s of PPS_LOST (R394)
  prevSecond : Option Nat := none -- the previous edge's S (R394)
  errorPs    : Int := 0           -- e_t of the last edge, ps (R396)
  todMissing : Nat := 0           -- TOD_MISSING (R394, R396)
  alarmNs    : Nat := 1000        -- time_alarm, default 1 us (R394)
  setAtEdge  : Option Nat := none -- HOUSE_TIME_SET mode 0 waiting for an edge (R413)
  ppsLost    : Bool := false      -- PPS_LOST raised since the last edge (R394)
  deriving DecidableEq, Repr

/-- An event record (R398): the first occurrence and how many it holds. -/
structure EvRec where
  stamp   : Nat
  source  : Nat
  type    : Nat
  merged  : Bool := false
  mixed   : Bool := false
  count   : Nat := 1
  data    : List Byte := []
  deriving DecidableEq, Repr

/-- One event source (R401, R404, R391). -/
structure EvSource where
  masked      : Bool := false                 -- disabled by EVENT_MASK_SET (R404)
  outstanding : Option (U32 × EvRec) := none  -- its outstanding record and its ring index (R401)
  occurrences : Nat := 0                      -- R413
  merged      : Nat := 0
  maskedCount : Nat := 0
  tripEnd     : Nat := 0                      -- FCLK cycle at which the crossing's round trip ends (R391)
  mergeCount  : Nat := 0                      -- occurrences waiting in the crossing (R391)
  fresh       : Option (Nat × EvRec × EvRec) := none  -- what this FCLK cycle joined to its record: the cycle, the record
                                              -- without it, and the record it makes if the cycle's write passes that (R401)
  deriving DecidableEq, Repr

/-- The event unit (R400 to R404). -/
structure Events where
  sources    : Cells EvSource := []
  wr         : U32 := 0           -- EVT_WR (R400)
  rd         : U32 := 0           -- EVT_RD (R400)
  stale      : Nat := 0           -- stale reads (R390)
  copies     : List EvRec := []   -- records copied for event streams, waiting for an EVENT task (R258, R404)
  lastTask   : Nat := 0           -- FCLK cycle of the last EVENT task (R248)
  notified   : Bool := false      -- EVENT_NOTIFY sent since the ring became non-empty (R347)
  lastNotify : Nat := 0           -- FCLK cycle of the last EVENT_NOTIFY (R347)
  deriving DecidableEq, Repr

/-- One CUE pin (R408 to R412). -/
structure CuePin where
  cfg        : CueCfg := ⟨0, 0, 0, 0, 0⟩   -- direction 0 unused (R408)
  level      : Bool := false               -- accepted level (input) or driven level (output)
  holdEnd    : Nat := 0                    -- end of the running holdoff, ns (R410)
  heldEdges  : Nat := 0                    -- edges inside the running holdoff (R410)
  lastEdge   : Nat := 0                    -- stamp of the last accepted edge to active, ns (R411)
  stuck      : Bool := false               -- sticky STUCK (R411)
  stuckNow   : Bool := false               -- CUE_STUCK raised and not yet re-armed (R411)
  edges      : Nat := 0                    -- R413
  suppressed : Nat := 0
  skipped    : Nat := 0
  out        : Option CueOut := none       -- the settings of the last CUE_OUTPUT (R412)
  accepted   : Nat := 0                    -- its acceptance, ns (R412)
  missed     : Bool := false               -- frame mode: CUE_OUTPUT_MISSED raised in this absence of the context (R412)
  pulseEnd   : Nat := 0                    -- end of the pulse in progress, ns (R412)
  nextPulse  : Nat := 0                    -- the next pulse: n of mode 2, 1 after that of mode 1, in mode 3 the tick from which marks count
  deriving DecidableEq, Repr

/-- A long command whose completion is not yet written (R471). -/
structure LongCmd where
  hdr      : Hdr
  opcode   : Nat
  cmdIndex : U32
  link     : Nat := 0     -- EYE_SCAN's link
  deriving DecidableEq, Repr

/-- One mailbox (R465, R467, R468, R470). -/
structure Mailbox where
  depth : Nat := 128
  cmdWr : U32 := 0
  cmdRd : U32 := 0
  cplWr : U32 := 0
  cplRd : U32 := 0
  fault : Bool := false               -- MBn_CTRL state FAULT (R470)
  long  : Option LongCmd := none      -- MBn_CTRL state EXECUTING (R465, R471)
  resetDue : Bool := false            -- RESET written while a command executes (R470)
  latched : U32 := 0                  -- CMD_WR at the start of the last warm boot (R480)
  deriving DecidableEq, Repr

/-- One journal record (R479). -/
structure JRec where
  seq      : Nat
  mb       : Nat
  pending  : Bool          -- EFFECT_PENDING
  cmdIndex : U32
  cplIndex : U32
  cmd      : List Byte     -- the command's entries
  cpl      : List Byte     -- the completion's entries
  deriving DecidableEq, Repr

/-- What the journal head holds (R479, R503): per area the oldest live and the newest sequence; the session; the
depths; the epoch. -/
structure JHead where
  areas   : List (Nat × Nat)
  session : Option (Nat × Nat × Nat)   -- number, route, minor
  depths  : List Nat
  epoch   : U16
  deriving DecidableEq, Repr

/-- The journal in DDR5 (R479). -/
structure Journal where
  next : Nat := 1
  recs : List JRec := []               -- oldest first
  head : Option JHead := none
  headAt : Nat := 0                    -- 1 + the FCLK cycle of the last write of the head
  deriving DecidableEq, Repr

/-- The host window's own registers, the session, SPI and the call board (R464 to R467, R475). -/
structure HostWin where
  scratch    : Nat := 0
  sessNum    : Nat := 0                -- SESSION [23:0]
  sessRoute  : Nat := 0                -- SESSION [31:24]
  sess       : Option Nat := none      -- the negotiated minor while a session is open (R475)
  ringFault  : Bool := false           -- INT_STATUS [10]
  sessClosed : Bool := false           -- INT_STATUS [11]
  replayed   : Bool := false           -- INT_STATUS [12]
  setAt      : List Nat := [0, 0, 0]   -- 1 + the FCLK cycle in which hardware last set bits 10, 11, 12 (R6)
  intEnable  : Nat := 0x300            -- INT_ENABLE as read (R465)
  spiFailed  : Bool := false           -- SPI_STATUS bit 0 (R464)
  spiAddr    : Bool := false           -- SPI_STATUS bit 1
  spiCount   : Bool := false           -- SPI_STATUS bit 2
  spiOut     : List Byte := []         -- the bytes the last SPI read or SPI_STATUS returned (R463, R464)
  bellRoute  : Nat := 0                -- the route that wrote MB0's last doorbell (R475)
  mbs        : Vector Mailbox 8 := Vector.replicate 8 {}
  board      : Memory := []            -- the call board by offset from 0x0010_0000 (R466)
  deriving DecidableEq, Repr

/-- What the running firmware image is (R465, R518, R526, R527). -/
structure Firmware where
  version   : Nat := 0        -- FW_VERSION
  engine    : Nat := 0        -- engine microcode
  ladle     : Nat := 0        -- ladle microcode
  rollback  : Nat := 0        -- rollback index r
  slot      : Nat := 0        -- vendor key slot that signed it
  bootSlot  : Nat := 0        -- 0 A; 1 B; 2 host load (R526)
  sha       : List Byte := List.replicate 32 0   -- measurement 1 (R527)
  ladleSha  : List Byte := List.replicate 32 0   -- measurement 2
  deriving DecidableEq, Repr

/-- The self-test report (R544). -/
structure Report where
  kind     : Nat
  fails    : List SramFail
  duration : Nat
  cause    : Nat
  deriving DecidableEq, Repr

/-- Where a reset stands (R447, R450, R454). -/
inductive ResetPhase where
  | held                 -- a power-on or cold reset is held
  | running              -- boot has ended in READY, in ERROR or in the test boot
  | waitHost             -- WAIT_HOST: the ROM waits for a host load (R457)
  | warmEntry            -- the warm entry of R22 is in progress
  | warmSaved            -- the warm entry is complete; the warm boot has not started
  deriving DecidableEq, Repr

/-- Boot and reset (R447 to R461). -/
structure Boot where
  phase     : ResetPhase := .held
  state     : Nat := 0            -- BOOT_STATUS [3:0]
  cause     : Nat := 0            -- [7:4]
  error     : Nat := 0            -- [15:8]
  bootsel   : Nat := 0            -- [18:16]
  slotB     : Bool := false       -- [19]
  warm      : Bool := false       -- [20]
  ddrFail   : Bool := false       -- [21]
  vcoreOk   : Bool := false       -- [22]
  vcoreCode : Nat := 0x14         -- VCORE_TARGET
  loadReg   : Nat := 0            -- BOOT_LOAD as read
  loaded    : List Byte := []     -- the host-loaded chunks taken so far (R457)
  fw        : Firmware := {}
  report    : Option Report := none
  warmCause : Nat := 3            -- the cause of the warm entry in progress (R459)
  hardware  : Bool := false       -- the warm entry is hardware-driven (R449)
  ddrDown   : Bool := true        -- DDR5 RESET_n asserted (R25, R452)
  readyAt   : Nat := 0            -- boot time in ms of the last READY (R461)
  deriving DecidableEq, Repr

/-- OTP (R513). -/
structure Otp where
  vendorHash  : Vector (List Byte) 4 := Vector.replicate 4 (List.replicate 32 0)
  vendorSet   : Vector Bool 4 := #v[false, false, false, false]
  revoked     : Vector Bool 4 := #v[false, false, false, false]
  ownerHash   : Option (List Byte) := none
  signedOnly  : Bool := false
  rollback    : Nat := 0
  serial      : Nat := 0
  vcore       : Nat := 0x14
  deriving DecidableEq, Repr

/-- Keys and access (19). -/
structure Security where
  otp      : Otp := {}
  ownerKey : Option (List Byte × Nat) := none   -- modulus and exponent (R521)
  boundary : Bool := false                      -- scope BOUNDARY open (R529)
  debug    : Bool := false                      -- scope DEBUG open
  deriving DecidableEq, Repr

/-- One check-value unit (R535, R538). -/
structure CheckUnit where
  poly  : Nat := 0
  r     : U32 := 0xFFFFFFFF
  fault : Bool := false
  fed   : Nat := 0
  deriving DecidableEq, Repr

/-- The instruction the test port holds (R540). -/
inductive TapInstr where
  | idcode | samplePreload | extest | highz | clamp | extestPulse | extestTrain | bypass
  deriving DecidableEq, Repr

/-- The data register an instruction selects (R540). -/
inductive TapReg where
  | identification | boundary | bypass
  deriving DecidableEq, Repr

/-- The test port (R540 to R542). -/
structure Tap where
  ir       : TapInstr := .idcode
  preload  : List Bool := []           -- the boundary register's update stage
  underTest : Bool := false            -- lanes are under test (R541)
  deriving DecidableEq, Repr

/-- Thermal sensors and supply monitors (R579 to R581). -/
structure Monitors where
  temp    : Vector Int 4 := #v[0, 0, 0, 0]       -- readings in 1/16 °C
  warned  : Vector Bool 4 := #v[false, false, false, false]
  tripped : Bool := false                        -- THERM_N asserted
  supply  : Vector Nat 2 := #v[0, 0]             -- readings in mV
  alarm   : Vector Bool 2 := #v[false, false]        -- outside the range (R581)
  deriving DecidableEq, Repr

end Sys2Proof.Machine
end

