-- ==== Sys2Proof/Machine/StLink.lean ====
section
/-! DEFINITION. The state of links (11, 12), of the references and the DPLL (13), of DDR5 (15) and of the twin (18). -/

namespace Sys2Proof.Machine

/-- The stuffing state of a lane's line bits, the same at both ends (R296 to R298). -/
structure LineSt where
  prev    : Bool := false
  run     : Nat := 0                     -- c
  stuffed : Nat := 0                     -- stuffed bits of the slot in progress
  slot    : List Bool := []              -- its line bits, newest first
  deriving DecidableEq, Repr

/-- One direction's line coding (R294 to R298): by lane the scrambler and the stuffing state; slices of the slot so far. -/
structure Coder where
  scram : Vector Nat 4 := Vector.replicate 4 0
  line  : Vector LineSt 4 := Vector.replicate 4 {}
  pos   : Nat := 0
  deriving DecidableEq, Repr

/-- A delivered message (R326, R341): its type and body, the tick of house time of its delivery, and the link's role and
TOD_SOURCE then. -/
structure Msg where
  type : Nat
  body : List Byte
  at_  : Nat := 0
  role : Nat := 0
  tod  : Bool := false
  deriving DecidableEq, Repr

/-- One receive lane (R303, R308, R317). -/
structure RxLane where
  now     : LaneCoeffs := ⟨0, [0, 0, 0, 0, 0], 0⟩
  trained : LaneCoeffs := ⟨0, [0, 0, 0, 0, 0], 0⟩
  guards  : List Nat := [3, 12, 6, 4]    -- CTLE, tap 1, taps 2-5, phase (R308)
  drift   : Bool := false
  failed  : Bool := false                -- FAILED_LAST
  good    : Nat := 0                     -- consecutive good blocks in VERIFY (R304)
  aligned : Bool := false
  blocks  : List (Nat × Nat) := []       -- count and tick of the last good blocks, newest first, at most 8 (R302)
  violations : Nat := 0                  -- code violations since the status was read (R298)
  deriving DecidableEq, Repr

/-- One transmit lane (R303). -/
structure TxLane where
  preset : Nat := 4                      -- in force
  next   : Nat := 4                      -- applied at the next ADAPT
  deriving DecidableEq, Repr

/-- A pattern checker (R314). -/
structure Checker where
  bits   : Nat := 0
  errors : Nat := 0
  lost   : Nat := 0
  locked : Bool := false
  from_  : Nat := 0                      -- tick since which it seeks or holds lock
  seen   : Nat := 0                      -- errors since lock, whatever was read
  deriving DecidableEq, Repr

/-- A pattern test (R313). -/
structure PatTest where
  pattern : Nat
  raw     : Bool
  lanes   : Nat
  user    : BitVec 64
  from_   : Nat := 0                     -- tick of its start
  inject  : List (Nat × Nat × Nat × Option Nat) := []  -- lanes, first bit, interval (0: that bit alone), bit at which it was set off
  check   : Vector Checker 4 := Vector.replicate 4 {}
  deriving DecidableEq, Repr

/-- A running eye scan (R311). -/
structure EyeScan where
  lanes  : Nat
  k      : Nat
  offset : Nat                           -- bulk offset
  from_  : Nat                           -- tick of its start
  mb     : Fin 8
  deriving DecidableEq, Repr

/-- One Dziyrex link. -/
structure Link where
  state    : Nat := 0                    -- R317's codes
  version  : Nat := 0
  rate     : Nat := 0
  txLanes  : Nat := 0                    -- bit mask
  rxLanes  : Nat := 0
  ckLock   : Bool := false
  attempt  : Nat := 0                    -- attempt index on the ladder (R300, R305)
  rates    : Nat := 7                    -- bit mask of the ladder's rates, those common to both ends (R305)
  retrain  : Bool := false               -- the training in progress is a retrain (R304)
  lastRate : Nat := 0                    -- last ACTIVE setting (R306)
  lastTx   : Nat := 0
  lastRx   : Nat := 0
  everActive : Bool := false
  passed   : Nat := 0                    -- lanes that passed VERIFY in this attempt
  txPassed : Nat := 0                    -- the partner's rx_pass
  ownOk    : Bool := false               -- VERIFY has passed
  okSent   : Bool := false               -- a block with VERIFY_OK has been sent (R304)
  txCount  : Nat := 0                    -- count of the next block sent (R300)
  ownCap   : BitVec 32 := 0              -- own capability word last sent, and the blocks it stood unchanged (R332)
  capSent  : Nat := 0
  partnerOk : Bool := false
  lastSeen : Bool := false               -- a block with LAST arrived
  capWord  : BitVec 32 := 0              -- partner capability word
  capCount : Nat := 0                    -- blocks it has stood unchanged
  stepped  : Bool := false               -- STEP is in progress; states 2 to 5 then repeat inside it
  degrade  : Bool := true                -- three- and two-lane entries are on the ladder (R305)
  resume   : Bool := false               -- RESUME sent in this CAPABILITY
  firstCap : Bool := true                -- the next CAPABILITY is the first since a reset (R335)
  resuming : Bool := false               -- the coming ACTIVE resumes
  since    : Nat := 0                    -- tick of the last state change
  wait     : Nat := 1                    -- DARK wait in s (R307)
  next     : Nat := 0                    -- tick of the next DARK training
  rx       : Vector RxLane 4 := Vector.replicate 4 {}
  tx       : Vector TxLane 4 := Vector.replicate 4 {}
  txc      : Coder := {}                 -- line coding of what is sent, and of what is received
  rxc      : Coder := {}
  retrains : Nat := 0
  badRun   : Nat := 0                    -- consecutive failed flits (R306)
  eye      : Option EyeScan := none
  test     : Option PatTest := none
  role     : Nat := 0
  target   : Nat := 2
  notify   : Bool := false
  tod      : Bool := false
  -- retry and credits (12)
  seq      : Nat := 0                    -- next SEQ
  una      : Nat := 0                    -- oldest unacknowledged
  x        : Nat := 0                    -- next expected SEQ
  replay   : List (BitVec 512) := []     -- unacknowledged DATA flits, oldest first
  replayAt : Option Nat := none          -- offset in `replay` of the flit the replay sends next
  nakOut   : Bool := false               -- a NAK of ours is outstanding (R323)
  nakDue   : Bool := false               -- the next flit carries NAK
  replays4 : Nat := 0                    -- consecutive replays from one flit (R324)
  replayFrom : Nat := 0
  ackTick  : Nat := 0                    -- tick at which ACK last advanced
  idleDue  : Bool := true                -- an IDLE with credit grants is due first (R336)
  dataRun  : Nat := 0                    -- DATA flits in a row (R320)
  granted  : Vector Nat 8 := Vector.replicate 8 0   -- G we have granted
  held     : Vector Nat 8 := Vector.replicate 8 0   -- G held from the partner
  spent    : Vector Nat 8 := Vector.replicate 8 0   -- C
  creditOk : Vector Bool 8 := Vector.replicate 8 false -- the partner has granted since the fresh start
  starved  : Vector Bool 8 := Vector.replicate 8 false
  waitFrom : Vector (Option Nat) 8 := Vector.replicate 8 none -- tick since which a message waits for credits
  rxBytes  : Vector (List Byte) 8 := Vector.replicate 8 []    -- receive byte stream not yet a whole message
  inbox    : Vector (List Msg) 8 := Vector.replicate 8 []     -- delivered messages, oldest first
  txQueue  : Vector (List (Nat × List Byte)) 8 := Vector.replicate 8 [] -- messages waiting to be sent
  txBytes  : Vector (List Byte) 8 := Vector.replicate 8 []    -- rest of the message being sent
  robin    : Nat := 2                    -- next channel of VC2 to VC7's round robin (R321)
  lastFlit : BitVec 512 := 0             -- the flit sent last
  naks     : Nat := 0
  replaysN : Nat := 0
  protoErr : Nat := 0
  fresh    : Nat := 0
  unexpected : Nat := 0
  rejected : Nat := 0
  waits    : Vector Nat 8 := Vector.replicate 8 0
  unexpAt  : Option Nat := none          -- second of the last VC_UNEXPECTED (R338)
  deriving DecidableEq, Repr

/-- One candidate reference (R364 to R366, R385). -/
structure Candidate where
  cfg     : CandSet := ⟨0, 50, 0, 100, 50, 60⟩
  state   : Nat := 0
  actOk   : Bool := false
  freqOk  : Bool := false
  noHit   : Bool := false
  conflict : Bool := false
  sticky  : Nat := 0
  fresh   : Nat := 0                     -- sticky bits set in XO cycle `freshXo` (R386)
  freshXo : Nat := 0
  offset  : Int := 0                     -- last gate, 10^-12 of nominal
  gateFrom : Nat := 0                    -- tick at which the gate in progress began
  hitInGate : Bool := false
  hitNext : Bool := false                -- a hit at or after the gate's close, before GATE_END: the next gate's (R7)
  wtrEnd  : Nat := 0                     -- tick at which wait-to-restore ends
  hits    : Nat := 0
  losses  : Nat := 0
  phases  : List Int := []               -- last 16 comparisons, ps, newest first
  cmpAt   : Option Nat := none           -- tick of the last comparison (R365)
  deriving DecidableEq, Repr

/-- The DPLL (R368 to R386). -/
structure Dpll where
  cfg      : DpllSettings := ⟨3, 1, 0, 0, 1000, 100, 100, 1000, 1000, 60, 0⟩
  nextCfg  : Option DpllSettings := none -- settings accepted during a switch (R373)
  state    : Nat := 0                    -- 0 FREERUN
  active   : Option Nat := none
  switching : Option (Option Nat) := none -- target of the switch in progress
  switchEnd : Nat := 0                   -- tick at which it ends
  deferred : Bool := false               -- a cause recorded during the switch (R373)
  deliberate : Bool := false             -- a recorded cause was deliberate
  due      : Option Bool := none         -- selection runs at the end of the XO cycle; whether some cause is deliberate (R370)
  lostDue  : Bool := false               -- the active candidate was disqualified in this XO cycle (R376, R378)
  y        : Int := 0                    -- 10^-12
  yRem     : Nat := 0                    -- part of a unit of y, and of a ps of phase, that the bounds allow already (R361)
  slewRem  : Nat := 0
  ySum     : Int := 0                    -- y summed over the ticks of the second in progress (R379)
  secFrom  : Option Nat := none          -- tick since which that second has been LOCKED from its start
  secMean  : Option Int := none          -- the average over the last whole second, not yet taken by HISTORY_SAMPLE
  holdNum  : Int := 0                    -- weighted sum of the history's samples, and the sum of the weights (R379)
  holdDen  : Nat := 0
  samples  : Nat := 0
  fixed    : Int := 0                    -- the last value held in FREERUN or SOFTWARE (R379)
  switchFrom : Option Nat := none        -- the active candidate before the switch (R387)
  softDue  : Option Int := none          -- DPLL_SOFTWARE accepted during a switch (R373)
  nextCand : List (Nat × CandSet) := []  -- CANDIDATE_SETs accepted during a switch
  nextClear : Nat × Nat := (0, 0)        -- CLOCK_HISTORY_CLEAR masks accepted during a switch
  lastY    : Option Int := none          -- the last second's y, waiting to join (R379)
  lockFrom : Option Nat := none          -- tick since which |e| < lock
  overRun  : Nat := 0                    -- consecutive comparisons with |e| >= 2 lock
  error    : Int := 0                    -- e, ps
  buildOut : Int := 0
  align    : Int := 0                    -- ALIGN movement left, ps
  word     : Int := 0                    -- software word
  nudge    : Int := 0                    -- remainder, ps
  since    : Nat := 0                    -- house time ns of the last state change
  switches : Nat := 0
  clamps   : Nat := 0
  sticky   : Nat := 0
  fresh    : Nat := 0                    -- sticky bits set in XO cycle `freshXo` (R386)
  freshXo  : Nat := 0
  pull     : Bool := false               -- beyond pull_range now
  refsel   : Nat := 0
  forceN   : Bool := true
  pinsAt   : Nat := 0                    -- tick at which a pin value was last acted on (R369)
  rootLock : Bool := true
  yTick    : Nat := 0                    -- tick at which y was last moved
  deriving DecidableEq, Repr

/-- One DDR5 subchannel (R422, R428, R438). -/
structure SubCh where
  state    : Nat := 0                    -- 0 not fitted, 1 running, 2 failed
  caParity : Bool := false
  writeCrc : Bool := false
  marked   : Vector (Option Nat) 2 := #v[none, none]
  alerts   : Nat := 0
  replays  : Nat := 0
  run      : Nat := 0                    -- ALERTs of the same sequence
  uncorr   : Nat := 0
  corr     : Cells Nat := []             -- corrections of component 10 × rank + j since the last clear (R426, R430)
  queue    : List (Nat × Nat × DdrKind × Nat × Nat) := []  -- id, port, kind, device address, arrival MCLK cycle; oldest first
  open_    : Cells Nat := []             -- open row + 1 by bank 32 × rank + 4 × bg + ba
  issued   : List (Nat × Nat × DdrKind × Nat × Nat) := []  -- issued, waiting for their data
  scrub    : Nat := 0                    -- next codeword
  scrubDone : Nat := 0                   -- passes completed and not yet counted for the device
  scrubAt  : Nat := 0                    -- MCLK cycle of the last scrub interval's start
  picked   : Nat := 0                    -- 1 + the MCLK cycle in which a request was last issued (R422)
  lastRank : Nat := 0                    -- the rank of the request issued last
  deriving DecidableEq, Repr

/-- What a read serves (R429): an engine tag's generation, the preview lines of a 16-line band of a frame (R212), a word that an
output port plays (R239), the patrol scrub of a codeword with the errors it holds (R427), a queue's refill (R266), or another
owner. -/
inductive ReadFor where
  | tag (engine : Nat) (tag : Nat) (gen : Nat)
  | preview (context : Nat) (frame : Nat) (band : Nat)
  | audio (port : Nat) (word : Nat)
  | scrub (codeword : Nat) (err : CodeErr)
  | stockpot (queue : Nat)
  | other
  deriving DecidableEq, Repr

/-- One DDR5 port (R421, R424, R438). -/
structure DPort where
  target  : Nat := 1000
  fill    : Nat := 0                     -- write-queue bytes
  reads   : Nat := 0
  done    : Nat := 0                     -- reads completed since the last status
  sum     : Nat := 0                     -- their latencies, ns
  max     : Nat := 0
  urgent  : List Nat := [0, 0, 0]
  full    : Nat := 0
  deriving DecidableEq, Repr

/-- An error-log entry (R430). -/
structure LogEntry where
  stamp   : Nat
  address : Nat
  synd    : List Byte
  kind    : Nat
  sub     : Nat
  rank    : Nat
  comp    : Nat
  port    : Nat
  deriving DecidableEq, Repr

/-- A write of a context record by firmware (R92): the port, the address, and the record with its number in the table of
records. -/
structure RecWrite where
  port    : Nat
  address : Nat
  key     : Nat
  record  : CtxRec
  deriving DecidableEq, Repr

/-- DDR5 (15). -/
structure Ddr where
  state    : Nat := 0                    -- 0 untrained; 1 running; 2 self-refresh; 3 failed
  channels : Nat := 0
  density  : Nat := 0
  ranks    : Nat := 0
  rate     : Nat := 0                    -- rate in force
  refresh  : Nat := 0
  interleave : Nat := 12
  ran      : Bool := false               -- DDR5 has reached the running state since power-on or cold reset (R448)
  hot      : Bool := false               -- sticky DRAM_HOT
  hotAt    : Cells Bool := []            -- a component of 2 × subchannel + rank reports too high a rate (R420)
  windows  : Nat := 0
  window   : Nat := 0                    -- MCLK cycle at which the last refresh window began
  lastZq   : Nat := 0
  mr4At    : Cells Nat := []             -- 1 + the MCLK cycle of a component's last MR4 read, by 2 × subchannel + rank (R419)
  writes   : List (Nat × Nat) := []      -- queued writes' bursts: id, bytes in the port's write queue (R424)
  scrubPeriod : Nat := 24
  passes   : Nat := 0
  threshold : Nat := 1024
  log      : List LogEntry := []
  overflow : Nat := 0
  uncorr   : Nat := 0
  corr     : Nat := 0
  subs     : Vector SubCh 12 := Vector.replicate 12 {}
  ports    : Vector DPort 22 := Vector.replicate 22 {}
  reads    : List (Nat × ReadFor) := []  -- read id and what it serves
  nextId   : Nat := 1
  data     : Memory := []                -- blocks written by DDR_WRITE_REQUEST, by device address (R423)
  refs     : Cells CtuCrf := []          -- reference pictures: CTU t of tile, buffer, context (R116)
  planes   : Cells (List Nat) := []      -- 1/4-level block of the same numbers (R150)
  halves   : Cells (List Nat) := []      -- 1/2-level block of the same numbers
  levels   : Cells Levels := []          -- levels beside a frame-shared source's buffers (R149)
  pub      : Cells (Cells Bool) := []    -- validity bits of a tile's references as other tiles' engines read them (R60, R120)
  recs     : Cells (Option CtxRec) := []  -- context records by 4 × context + tile
  waiting  : List RecWrite := []         -- record writes that firmware holds until their port's queue has room, oldest first (R92)
  deriving DecidableEq, Repr

/-- A frame record waiting for adoption, with its block comparison (R501). -/
structure Adoption where
  record  : FrameRec
  adopted : Bool := false
  deriving DecidableEq, Repr

/-- An outstanding ITEM_REQUEST (R495): the row it is for, as 128 × frame + row, and the items that have come. -/
structure ItemAsk where
  queue : Nat
  first : U32
  count : Nat
  key   : Nat
  got   : List Item := []
  deriving DecidableEq, Repr

/-- The twin protocol (18). -/
structure Twin where
  role      : Nat := 0                   -- 0 none, 1 lead, 2 understudy
  readiness : Nat := 3
  mode      : Nat := 0                   -- 0 unpaired, 1 exact, 2 warm
  expected  : Option (List Byte × Nat) := none  -- expected fingerprint and its serial (R491)
  peer      : Option HelloMsg := none    -- the partner's last HELLO
  beat      : Option BeatMsg := none     -- its last BEAT
  beatAt    : Nat := 0                   -- FCLK cycle of its delivery
  echoAt    : Nat := 0                   -- house time in ns of its delivery
  lost      : Bool := false              -- the twin heartbeat is missing (R490)
  offsets   : List Int := []             -- last 1,024 offsets, ns, newest first
  epoch     : U16 := 0
  maxEpoch  : U16 := 0                   -- highest epoch in a BEAT or an EGRESS_ACK
  fenced    : Bool := false
  gateOff   : Bool := false              -- the gate of R497 is off
  unconfCount : Nat := 0                 -- items released unconfirmed in this loss of the heartbeat (R497)
  adoptions : List Adoption := []        -- one per context (R501)
  unrepaired : Cells Bool := []          -- CTU t of tile, buffer, context of the unrepaired sets (R500)
  itemAsk   : List ItemAsk := []         -- outstanding ITEM_REQUESTs
  rowAsk    : List (Nat × Nat × Nat) := [] -- outstanding ROW_REQUESTs: context, frame, row
  rowRecs   : List RowRec := []          -- ROW_RECORDs waiting for the own row (R495)
  diffs     : Cells (Nat × Nat) := []    -- per context: rows of the frame in comparison that differ in recon and in bitstream
  compared  : Nat := 0
  divergent : Nat := 0
  repaired  : Nat := 0
  lastHealth : Nat := 0
  lastHello : Nat := 0
  lastPos   : Nat := 0
  lastBeat  : Nat := 0
  hb        : Bool := false              -- ARB_HB level
  hbAt      : Nat := 0                   -- tick of its last toggle
  hbDead    : Bool := true               -- ARB_HB does not toggle
  req       : Bool := true               -- ARB_REQ asserted (released)
  fault     : Bool := true               -- ARB_FAULT asserted
  tookOver  : Bool := false              -- it took over in this loss of the heartbeat, which deasserted ARB_REQ (R487)
  demoted   : Bool := false              -- DEMOTED waits for the new lead's epoch (R505)
  cast      : Bool := false              -- ARB_CAST as last accepted
  deriving DecidableEq, Repr

end Sys2Proof.Machine
end

