-- ==== Sys2Proof/Machine/State.lean ====
section
/-! DEFINITION. The whole state of the block, its two kinds of stop, and the state after reset. The parts stand in
StHost, StEngine, StFlow and StLink; INVENTORY.md lists each piece with the rule that names it. -/

namespace Sys2Proof.Machine

/-- Faults. The spec gives the block none: no need of one block stops another (R10), a host's mistake is answered by a
status (R477), and an unmapped access fails with status ADDRESS (R344, R462). So no command faults. -/
inductive Fault where
  deriving DecidableEq, Repr

/-- Refusals of the model. -/
inductive Refusal where
  /-- Raised by an arm of `exec` whose command has no meaning yet; safe, because nothing is claimed of the command. -/
  | notModelled (mnemonic : String)
  deriving DecidableEq, Repr

/-- The state. -/
structure State where
  time    : HouseTime := {}
  evt     : Events := {}
  cues    : Vector CuePin 16 := Vector.replicate 16 {}
  host    : HostWin := {}
  journal : Journal := {}
  boot    : Boot := {}
  sec     : Security := {}
  cu      : Vector CheckUnit 16 := Vector.replicate 16 {}
  tap     : Tap := {}
  mon     : Monitors := {}
  green   : GreenRoom := {}
  running : Option Production := none                 -- the running production (R50)
  old     : List (Production × Nat) := []             -- productions whose frames may be in work, each with the cue point in ns that ended it, oldest first (R9)
  before  : Option Production := none                 -- the production running at the last warm reset (R124, R433)
  engines : Vector Engine 16 := Vector.replicate 16 {}
  ctxs    : Cells CtxState := []
  pictures : Cells Picture := []    -- by 2 × context + frame mod 2: its line buffer or frame buffers; preview rings at 1024 more
  rings   : Cells Ring := []        -- by source
  pairs   : Cells PairState := []   -- by graphic pair
  wasRings : Cells Ring := []       -- rings of sources that a swap has changed, for frames of the productions before (R197)
  wasPairs : Cells PairState := []  -- and graphic pairs
  curtain : Curtain := {}
  audio   : Audio := {}
  flow    : Flow := {}
  links   : Vector Link 12 := Vector.replicate 12 {}
  lineRejects : Cells Nat := []     -- last LINE_REJECTED by 8 × (source) + cause: 1 + tick (R350)
  cands   : Vector Candidate 16 := Vector.replicate 16 {}
  dpll    : Dpll := {}
  ddr     : Ddr := {}
  twin    : Twin := {}
  free    : Nat := 0                -- the model's own: counter of the free values (notes/assumptions/5)
  pending : List Instr := []        -- the model's own: commands waiting, first in, first out
  deriving DecidableEq, Repr

/-- OTP as Creryn leaves it at manufacture (R513): four vendor key hashes, the serial and the VCORE_TARGET code, which the
spec does not give; nothing that FUSE_PROGRAM programs (notes/assumptions/16). -/
def Otp.made : Otp :=
  { vendorHash := Vector.ofFn (fun (i : Fin 4) => (List.range 32).map (fun j => Config.vendorHash i.val j))
    vendorSet := #v[true, true, true, true]
    serial := Config.serialNumber.toNat
    vcore := 4 + Config.vcoreCode % 17 }

/-- The block right after reset: held in a power-on reset, before the boot ROM runs (R447, R451). Candidates 4 to 15
have nominal 100 MHz (R364). Every other field is its default, listed with its rule in INVENTORY.md. -/
def State.reset : State :=
  { sec := { otp := Otp.made }
    cands := Vector.ofFn (fun i : Fin 16 =>
      if i.val < 4 then {} else { cfg := ⟨0, 50, 100000000, 100, 50, 60⟩ }) }

end Sys2Proof.Machine
end

