-- ==== Sys2Proof/Machine/DramMap.lean ====
section
/-! DEFINITION. The DDR5 address map (R417), a production's regions (R434), and the writes that ports queue (R423, R424). -/

namespace Sys2Proof.Machine

/-- Subchannels in use (R417). -/
def Ddr.n (d : Ddr) : Nat := 2 * d.channels

/-- Data per rank per subchannel in bytes, by density code (R415). -/
def rankBytes (density : Nat) : Nat := (16 + 8 * density) * 2 ^ 30

/-- Capacity in bytes (R415). -/
def Ddr.capacity (d : Ddr) : Nat := d.n * d.ranks * rankBytes d.density

/-- A device address's DRAM location (R417). -/
structure DramLoc where
  sub  : Nat
  rank : Nat
  row  : Nat
  col  : Nat
  bg   : Nat
  ba   : Nat
  deriving DecidableEq, Repr

/-- The address map (R417). -/
def dramLoc (g n density a : Nat) : DramLoc :=
  let b := a / 2 ^ g
  let l := b / n * 2 ^ g + a % 2 ^ g
  let l' := l % rankBytes density
  let row := l' / 2 ^ 18
  ⟨b % n, l / rankBytes density, row, l' / 64 % 128 * 16,
    Nat.xor (Nat.xor (l' / 2 ^ 13 % 8) (row % 8)) (row / 2 ^ 8 % 8),
    Nat.xor (Nat.xor (l' / 2 ^ 16 % 4) (row / 8 % 4)) (row / 2 ^ 11 % 4)⟩

/-- The base address of a region; the device lays its contents out itself (R587, notes/assumptions/7). -/
def Production.region (p : Production) (kind index : Nat) : Nat :=
  ((p.regions.find? (fun r => r.kind == kind && r.index == index)).map (·.base)).getD 0

/-- The 64-byte blocks of a byte range, as device addresses (R417). -/
def blocksOf (address bytes : Nat) : List Nat :=
  (List.range ((address + bytes + 63) / 64 - address / 64)).map (fun i => 64 * (address / 64 + i))

/-- A port's write-queue capacity (R424). -/
def portCapacity (port : Nat) : Nat := if port = 19 then 16384 else if port = 21 then 262144 else 65536

/-- The port table with one entry changed. -/
def Ddr.modPort (d : Ddr) (port : Nat) (f : DPort → DPort) : Ddr :=
  match finOf 22 port with
  | none => d
  | some i => { d with ports := vmod d.ports i f }

/-- One burst joins its subchannel's request queue (R417, R422). -/
def Ddr.enqueue (d : Ddr) (port : Nat) (kind : DdrKind) (cycle : Nat) (serves : ReadFor) (address : Nat) : Ddr :=
  let loc := dramLoc d.interleave d.n d.density address
  match finOf 12 loc.sub with
  | none => d
  | some i =>
    { d with
      subs := vmod d.subs i (fun c => { c with queue := c.queue ++ [(d.nextId, port, kind, address, cycle)] })
      reads := if kind = .read then d.reads ++ [(d.nextId, serves)] else d.reads
      nextId := d.nextId + 1 }

/-- The bytes of a range that lie in the 64-byte block at `block`. -/
def bytesIn (address bytes block : Nat) : Nat := min (block + 64) (address + bytes) - max block address

/-- A write's burst joins its subchannel's queue, and its bytes the port's write queue until it issues (R422, R424). -/
def Ddr.enqueueWrite (port address bytes cycle : Nat) (d : Ddr) (block : Nat) : Ddr :=
  let d1 := d.enqueue port .write cycle .other block
  if d1.nextId = d.nextId then d1 else { d1 with writes := d1.writes ++ [(d.nextId, bytesIn address bytes block)] }

/-- Whether a port's write queue has room (R424). -/
def Ddr.hasRoom (d : Ddr) (port bytes : Nat) : Bool :=
  match finOf 22 port with
  | none => false
  | some i => decide ((vget d.ports i).fill + bytes ≤ portCapacity port)

/-- A queued write: complete for every requester at once (R423). -/
def Ddr.write (d : Ddr) (port address : Nat) (data : List Byte) (cycle : Nat) : Ddr :=
  let d1 := (blocksOf address data.length).foldl (Ddr.enqueueWrite port address data.length cycle) d
  { d1.modPort port (fun p => { p with fill := p.fill + data.length }) with data := writeBytes d1.data address data }

/-- A port's write that carries data held by its role: it takes queue room and bursts, not bytes of `data`
(notes/assumptions/7). -/
def Ddr.writeRole (d : Ddr) (port address bytes cycle : Nat) : Ddr :=
  ((blocksOf address bytes).foldl (Ddr.enqueueWrite port address bytes cycle) d).modPort port (fun p => { p with fill := p.fill + bytes })

/-- A journal write of firmware on P17 (R424, R479): queued while DDR5 runs; where the queue has no room, firmware waits for
it, and writes_full counts that. -/
def Ddr.writeJournal (d : Ddr) (address bytes cycle : Nat) : Ddr :=
  if d.state ≠ 1 then d
  else
    (if d.hasRoom 17 bytes then d else d.modPort 17 (fun p => { p with full := satAdd 32 p.full 1 })).writeRole 17 address bytes cycle

end Sys2Proof.Machine
end

