-- ==== Sys2Proof/Machine/Ops.lean ====
section
/-! DEFINITION. The shared operations: time, events (R398 to R405), and mailbox commands (R468 to R479). -/

namespace Sys2Proof.Machine

/-! ### Time -/

/-- House time in nanoseconds, the floor of the instant (R392). -/
def State.now (s : State) : Nat := s.time.tick * 5 / 4

/-- House time in ns of the first of the three agreeing XO samples that accept a pin's level now: two XO cycles, eight
ticks, before the third (R392, R409). -/
def State.edgeNow (s : State) : Nat := (s.time.tick - 8) * 5 / 4

/-- The ECLK cycle, two per FCLK tick, counted with house time (R359, notes/assumptions/9). -/
def State.cycle (s : State) : Nat := 2 * s.time.tick

/-- The least tick at or after `ns` nanoseconds (R393). -/
def tickOf (ns : Nat) : Nat := (4 * ns + 4) / 5

/-- The tick of frame mark N of a format with num/den frames per second (R32, R395). -/
def markTick (num den n : Nat) : Nat := ceilDiv (n * den * 800000000) num

/-- The index of the latest frame mark at or before a tick (R32). -/
def markIndex (num den tick : Nat) : Nat := tick * num / (den * 800000000)

/-- A frame period in nanoseconds, rounded down. -/
def periodNs (num den : Nat) : Nat := den * 1000000000 / num

/-- The boot is at READY and no reset is in progress (R454). -/
def State.up (s : State) : Bool := s.boot.phase == .running && s.boot.state == 8

/-- The next free value: `f` at the counter, and the counter moved on (notes/assumptions/5). -/
def State.fresh (s : State) : State := { s with free := s.free + 1 }

/-! ### Events -/

/-- An occurrence on its way to the event unit. -/
structure Ev where
  source : Nat
  type   : Nat
  stamp  : Nat
  data   : List Byte
  deriving DecidableEq, Repr

/-- Event data packed as R399: each field (size, value) aligned to its own size. -/
def packEv : Nat → List (Nat × Int) → List Byte
  | _, [] => []
  | o, (n, v) :: t =>
    let pad := (n - o % n) % n
    List.replicate pad 0 ++ leInt n v ++ packEv (o + pad + n) t

/-- The sixteen data bytes of a record. -/
def evData (fs : List (Nat × Int)) : List Byte := slice (packEv 0 fs) 0 16

/-- An occurrence stamped with the present house time. -/
def State.ev (s : State) (source type : Nat) (fs : List (Nat × Int)) : Ev := ⟨source, type, s.now, evData fs⟩

/-- The 32 bytes of a record (R398). -/
def EvRec.bytes (r : EvRec) : List Byte :=
  leBytes 8 r.stamp ++ leBytes 2 r.source
    ++ leBytes 2 (r.type % 8192 + 8192 * boolNat r.merged + 16384 * boolNat r.mixed
        + 32768 * boolNat (decide (2 ^ 32 - 1 ≤ r.count)))
    ++ leBytes 4 (min r.count (2 ^ 32 - 1)) ++ slice r.data 0 16

/-- The lowest protocol minor that defines an event type (R476). -/
def evMinor (source type : Nat) : Nat :=
  if source < 512 ∧ type = 0x0306 then 1 else if 632 ≤ source ∧ source < 644 ∧ type = 0x071C then 1 else 0

/-- The longest round trip of a crossing into FCLK, three source and three FCLK cycles, in ticks, by the source domain's
cycles in 10^-3 ticks (R389, R391). -/
def tripOf (cycle : Nat) : Nat := (3 * cycle + 3000) / 1000

/-- A cycle of a link's receive domain, lane rate / 128 (R388), in 10^-3 ticks. -/
def rxlCycle (rate : Nat) : Nat := 16000 / 2 ^ rate

/-- The longest round trip of the crossing a source's occurrences pass, in FCLK ticks: from a link's receive domain at its
rate, from ACLK, and from XO for the pins, the candidates, the DPLL, the root PLL and the watchdog; 0 for sources in FCLK and
for the ratio-synchronous domains (R388, R389, R391). -/
def State.tripBound (s : State) (source : Nat) : Nat :=
  let lane := fun (i : Nat) => match s.links.toList[i]? with | some l => tripOf (rxlCycle l.rate) | none => 0
  if 512 ≤ source ∧ source < 560 then lane ((source - 512) / 4)
  else if 608 ≤ source ∧ source < 620 then lane (source - 608)
  else if 676 ≤ source ∧ source < 708 then tripOf 8138
  else if 724 ≤ source ∧ source < 740 ∨ 804 ≤ source ∧ source < 820 ∨ source = 788 ∨ source = 789 ∨ source = 796 then tripOf 4000
  else 0

/-- The call-board offset of ring slot i (R400, R466). -/
def ringAt (i : U32) : Nat := 0x40000 + 32 * (i.toNat % 4096)

/-- What an occurrence adds to a record that stands (R391, R401). -/
def EvRec.join (r x : EvRec) : EvRec :=
  { r with count := satAdd 32 r.count x.count, merged := r.merged || x.merged, mixed := r.mixed || x.mixed || decide (r.type ≠ x.type) }

/-- The event unit and the call board after one occurrence (R391, R400, R401, R404, R476). `trip` is the round trip of
its crossing; `copied` says that an event stream copies the source. -/
def postEvent (fclk minor trip : Nat) (copied : Bool) (e : Ev) (u : Events) (board : Memory) : Events × Memory :=
  let src := cget {} u.sources e.source
  let src := { src with occurrences := satAdd 32 src.occurrences 1 }
  if fclk < src.tripEnd then
    let src := { src with mergeCount := src.mergeCount + 1, merged := satAdd 32 src.merged 1 }
    ({ u with sources := cset {} u.sources e.source src }, board)
  else
    let carried := src.mergeCount
    let src := { src with mergeCount := 0, tripEnd := if trip = 0 then 0 else fclk + trip }
    if src.masked || decide (minor < evMinor e.source e.type) then
      let src := { src with maskedCount := satAdd 32 src.maskedCount (1 + carried) }
      ({ u with sources := cset {} u.sources e.source src }, board)
    else
      let new : EvRec := { stamp := e.stamp, source := e.source, type := e.type, merged := decide (0 < carried)
                           count := 1 + carried, data := e.data }
      match src.outstanding with
      | some (i, r) =>
        let j := r.join new
        let fresh := match src.fresh with
          | some (c, old, x) => if c = fclk then (c, old, x.join new) else (fclk, r, new)
          | none => (fclk, r, new)
        ({ u with sources := cset {} u.sources e.source { src with outstanding := some (i, j), fresh := some fresh } },
          writeBytes board (ringAt i) j.bytes)
      | none =>
        let r := new
        ({ u with sources := cset {} u.sources e.source { src with outstanding := some (u.wr, r), fresh := none }, wr := u.wr + 1
                  copies := if copied then u.copies ++ [r] else u.copies },
          writeBytes board (ringAt u.wr) r.bytes)

/-- Whether the running production has an event stream that copies a source (R258, R259, R404). -/
def copiesSource (p : Option Production) (source : Nat) : Bool :=
  match p with
  | none => false
  | some p => p.streams.any (fun t => t.kind == 4 && decide (t.evBase ≤ source) && decide (source < t.evBase + t.evCount))

/-- The event unit runs: from FIRMWARE on, and through a warm entry (R22, R461). -/
def Boot.evOpen (b : Boot) : Bool :=
  b.phase == .warmEntry || (b.phase == .running && decide (6 ≤ b.state ∧ b.state ≤ 8))

/-- The state after one occurrence is raised. Before FIRMWARE the event unit takes none (R461). -/
def State.raise (s : State) (e : Ev) : State :=
  let b := s.tripBound e.source
  let trip := if b = 0 then 0 else 1 + Config.crossingTrip s.free % b
  let r := postEvent s.time.fclk (s.host.sess.getD 2) trip (copiesSource s.running e.source) e s.evt s.host.board
  if s.boot.evOpen then
    { s with evt := r.1, host := { s.host with board := r.2 }, free := s.free + boolNat (decide (b ≠ 0)) }
  else s

/-- The state after occurrences are raised in order. -/
def State.raiseAll (s : State) (es : List Ev) : State := es.foldl State.raise s

/-- An occurrence when a condition holds. -/
def evIf (c : Bool) (e : Ev) : List Ev := if c then [e] else []

/-! ### Mailboxes -/

/-- The call-board offset of mailbox n's command ring (R467). -/
def cmdBase (mbs : Vector Mailbox 8) (n : Nat) : Nat :=
  0x60000 + 512 * ((mbs.toList.take n).map (·.depth)).sum

/-- The call-board offset of mailbox n's completion ring (R467). -/
def cplBase (mbs : Vector Mailbox 8) (n : Nat) : Nat :=
  cmdBase mbs n + 256 * ((mbs.toList.drop n).headD {}).depth

/-- The entries that a message of `length` bytes after its header spans (R472). -/
def entriesOf (length : Nat) : Nat := ceilDiv (16 + length) 256

/-- Bytes written into consecutive slots of a ring of `depth` 256-byte entries from index `i` (R468, R469). -/
def writeSlots (base depth : Nat) : Nat → U32 → List Byte → Memory → Memory
  | 0, _, _, m => m
  | n + 1, i, bs, m =>
    writeSlots base depth n (i + 1) (bs.drop 256) (writeBytes m (base + 256 * (i.toNat % depth)) (slice bs 0 256))

/-- The bytes of consecutive slots of a ring. -/
def readSlots (base depth : Nat) (m : Memory) : Nat → U32 → List Byte
  | 0, _ => []
  | n + 1, i => readBytes m (base + 256 * (i.toNat % depth)) 256 ++ readSlots base depth m n (i + 1)

/-- What executing a command gives: an accepted result, whether it names a later effect (R479), or a refusal. -/
inductive Reply where
  | accept (result : List Byte) (pending : Bool)
  | refuse (status : Nat) (result : List Byte)
  deriving DecidableEq, Repr

/-- Accepted, no later effect. -/
def ok (result : List Byte) : Reply := .accept result false

/-- A completion's bytes (R472, R473). -/
def cplBytes (minor opcode tag status journal stamp : Nat) (result : List Byte) : List Byte :=
  [1] ++ leBytes 1 minor ++ leBytes 2 opcode ++ leBytes 4 tag ++ leBytes 4 (16 + result.length)
    ++ leBytes 2 (boolNat (decide (status = 0))) ++ [0, 0]
    ++ leBytes 2 status ++ [0, 0] ++ leBytes 4 (if status = 0 then journal else 0) ++ leBytes 8 stamp ++ result

/-- A device address in the journal region (R434 kind 8, R479): that of the running production, or of the one that ran
before a reset; before any production the device places the journal itself (R587, notes/assumptions/7). -/
def State.journalAt (s : State) (offset : Nat) : Nat :=
  (((s.running.orElse (fun _ => s.before)).map (fun p => p.region 8 0)).getD 0) + offset

/-- The completion of a command is journaled and written, in that order (R469, R473, R479). -/
def State.complete (s : State) (mb : Fin 8) (cmdIndex : U32) (minor opcode tag length : Nat) (journaled : Bool)
    (r : Reply) : State :=
  let m := vget s.host.mbs mb
  let status := match r with | .accept _ _ => 0 | .refuse st _ => st
  let result := match r with | .accept x _ => x | .refuse _ x => x
  let later := match r with | .accept _ p => p | .refuse _ _ => false
  let seq := s.journal.next
  let bytes := cplBytes minor opcode tag status seq s.now result
  let n := entriesOf (16 + result.length)
  let cmd := readSlots (cmdBase s.host.mbs mb) m.depth s.host.board (entriesOf length) cmdIndex
  let rec_ : JRec := ⟨seq, mb, later, cmdIndex, m.cplWr, cmd, slice bytes 0 (256 * n)⟩
  { s with
    ddr := if journaled then s.ddr.writeJournal (s.journalAt (4096 + 2162688 * mb.val + 8256 * (seq % 256)))
        (32 + cmd.length + 256 * n) s.time.fclk else s.ddr
    journal := if journaled then { s.journal with next := seq + 1, recs := s.journal.recs ++ [rec_] } else s.journal
    host := { s.host with
      board := writeSlots (cplBase s.host.mbs mb) m.depth n m.cplWr bytes s.host.board
      mbs := vset s.host.mbs mb { m with cplWr := m.cplWr + BitVec.ofNat 32 n } } }

/-- What a command table says of an opcode (R472, R477): its number, where it is allowed, the minor that adds it, its
payload lengths, whether it runs without a session, and the bytes of its largest result. -/
structure Spec where
  opcode  : Nat
  allowed : Nat → Bool
  minor   : Nat := 0
  len     : Nat → Bool
  noSess  : Bool := false
  maxRes  : Nat := 16

/-- "G" of the command tables: MB0 to MB5 and MB7. -/
def onG (n : Nat) : Bool := n != 6

/-- MB7 only. -/
def on7 (n : Nat) : Bool := n == 7

/-- MB6 only. -/
def on6 (n : Nat) : Bool := n == 6

/-- MB0 only. -/
def on0 (n : Nat) : Bool := n == 0

/-- A payload of exactly n bytes. -/
def exactly (n : Nat) (l : Nat) : Bool := l == n

/-- The curtain opcodes (R216). -/
def curtainOp (opcode : Nat) : Bool := decide (0x0440 ≤ opcode) && decide (opcode ≤ 0x0444)

/-- The status that the header, the session and the mailbox give before the command is looked at (R216, R472, R476,
R477); `none` when it may execute. -/
def State.precheck (s : State) (c : Spec) (h : Hdr) : Option Nat :=
  let minor := s.host.sess.getD (min h.minor 2)
  if h.major ≠ 1 ∨ (if s.host.sess.isSome then h.minor ≠ minor else 2 < h.minor) then some 0x0003
  else if minor < c.minor then some 0x0001
  else if c.len h.length = false then some 0x0002
  else if s.host.sess = none ∧ c.noSess = false ∧ h.mb.val ≠ 6 then some 0x0004
  else if c.allowed h.mb.val then none
  else if curtainOp c.opcode then some 0x0406 else some 0x0005

/-- The command is present and may begin (R468 to R471): the device is at READY, the mailbox is neither in FAULT nor
executing, every entry lies below CMD_WR, and the completion ring has room for the largest completion. Of a header that
gives more than 16 entries, only the header's own entry is looked at (R470). `pass` lets a DROP or RAISE pass a running
install on MB6. -/
def State.mayBegin (s : State) (c : Spec) (h : Hdr) (pass : Bool) : Bool :=
  let m := vget s.host.mbs h.mb
  let n := entriesOf h.length
  s.up && !m.fault && (m.long.isNone || pass) && decide ((if 16 < n then 1 else n) ≤ (U32.dist m.cmdWr m.cmdRd))
    && (decide (16 < n) || decide (U32.dist m.cplWr m.cplRd + entriesOf (16 + c.maxRes) ≤ m.depth))

/-- CMD_RD moved past a command's entries (R468). -/
def State.takeCmd (s : State) (h : Hdr) : State :=
  let f := fun m : Mailbox => { m with cmdRd := m.cmdRd + BitVec.ofNat 32 (entriesOf h.length) }
  { s with host := { s.host with mbs := vmod s.host.mbs h.mb f } }

/-- Hardware sets write-1-to-clear bit 10 + i of INT_STATUS in an FCLK cycle (R6). -/
def HostWin.note (h : HostWin) (i fclk : Nat) : HostWin :=
  { h with setAt := (List.range 3).map (fun j => if j = i then fclk + 1 else h.setAt.getD j 0) }

/-- A mailbox enters FAULT (R470). -/
def State.faultMb (s : State) (mb : Fin 8) : State :=
  let m := vget s.host.mbs mb
  State.raise
    { s with host := { s.host.note 0 s.time.fclk with ringFault := true, mbs := vset s.host.mbs mb { m with fault := true } } }
    (s.ev (826 + mb) 0x0012 [(4, m.cmdWr.toNat), (4, m.cmdRd.toNat)])

/-- A whole short command: it begins when it may, moves CMD_RD, is refused by its header or runs its body, and its
completion is written. Where it may not begin it waits, and the state does not change (notes/assumptions/3). -/
def runCmd (c : Spec) (h : Hdr) (body : State → State × Reply) (s : State) (pass : Bool := false) : State :=
  if s.mayBegin c h pass = false then s
  else if 16 < entriesOf h.length then s.faultMb h.mb
  else
    let i := (vget s.host.mbs h.mb).cmdRd
    let minor := s.host.sess.getD (min h.minor 2)
    let s1 := s.takeCmd h
    match s.precheck c h with
    | some st =>
      State.complete (if st = 0x0406 then s1.raise (s.ev 820 0x0413 [(2, c.opcode), (2, st)]) else s1)
        h.mb i minor c.opcode h.tag h.length false (.refuse st [])
    | none =>
      let r := body s1
      r.1.complete h.mb i minor c.opcode h.tag h.length true r.2

/-- The commands that entries [i, i + n) of a command ring hold, by their length fields (R468, R472). -/
def countCmds (base depth : Nat) (m : Memory) : Nat → U32 → Nat → Nat
  | 0, _, _ => 0
  | fuel + 1, i, n =>
    if n = 0 then 0
    else
      let e := max 1 (entriesOf (leNat (readBytes m (base + 256 * (i.toNat % depth) + 8) 4)))
      if n < e then 0 else 1 + countCmds base depth m fuel (i + BitVec.ofNat 32 e) (n - e)

/-- COMMANDS_DISCARDED for the commands of entries [first, first + n), when there are any (R470, R480, R484). -/
def State.discardEv (s : State) (mb : Fin 8) (first : U32) (n : Nat) : List Ev :=
  let m := vget s.host.mbs mb
  let c := countCmds (cmdBase s.host.mbs mb) m.depth s.host.board m.depth first (min n m.depth)
  evIf (decide (0 < c)) (s.ev (826 + mb) 0x0013 [(4, first.toNat), (4, c)])

/-- A mailbox reset (R470): the indices become 0, the mailbox IDLE, and the commands present and not begun are
reported. -/
def State.resetMb (s : State) (mb : Fin 8) : State :=
  let m := vget s.host.mbs mb
  State.raiseAll
    { s with
      host := { s.host with mbs := vset s.host.mbs mb { depth := m.depth } }
      journal := { s.journal with recs := s.journal.recs.filter (fun r => decide (r.mb ≠ mb.val)) } }
    (s.discardEv mb m.cmdRd (U32.dist m.cmdWr m.cmdRd))

/-- The completion of a long command ends its mailbox's EXECUTING state (R465, R471), and a reset that waited for it is
carried out (R470). -/
def State.finishLong (s : State) (mb : Fin 8) (r : Reply) : State :=
  let m := vget s.host.mbs mb
  match m.long with
  | none => s
  | some l =>
    let s1 := State.complete { s with host := { s.host with mbs := vset s.host.mbs mb { m with long := none } } }
      mb l.cmdIndex l.hdr.minor l.opcode l.hdr.tag l.hdr.length true r
    if m.resetDue then s1.resetMb mb else s1

/-- A long command whose completion comes with a later command (R471): as `runCmd`, and where the body gives no reply
the mailbox goes on EXECUTING. -/
def runLong (c : Spec) (h : Hdr) (body : State → State × Option Reply) (s : State) : State :=
  if s.mayBegin c h false = false then s
  else if 16 < entriesOf h.length then s.faultMb h.mb
  else
    let i := (vget s.host.mbs h.mb).cmdRd
    let minor := s.host.sess.getD (min h.minor 2)
    let s1 := s.takeCmd h
    match s.precheck c h with
    | some st =>
      State.complete (if st = 0x0406 then s1.raise (s.ev 820 0x0413 [(2, c.opcode), (2, st)]) else s1)
        h.mb i minor c.opcode h.tag h.length false (.refuse st [])
    | none =>
      let r := body s1
      match r.2 with
      | some reply => r.1.complete h.mb i minor c.opcode h.tag h.length true reply
      | none =>
        { r.1 with host := { r.1.host with
            mbs := vmod r.1.host.mbs h.mb (fun m => { m with long := some ⟨h, c.opcode, i, 0⟩ }) } }

/-- The bulk range named by a command, or nothing when it breaks R466. -/
def State.bulk (s : State) (offset length : Nat) : Option (List Byte) :=
  if offset % 4 = 0 ∧ offset + length ≤ 0x40000 then some (readBytes s.host.board offset length) else none

/-- Bytes written into the bulk area. -/
def State.setBulk (s : State) (offset : Nat) (bs : List Byte) : State :=
  { s with host := { s.host with board := writeBytes s.host.board offset bs } }

/-- Records of a status command: `n` from number `first`. -/
def recordsFrom (f : Nat → List Byte) (first : Nat) : Nat → List Byte
  | 0 => []
  | n + 1 => f first ++ recordsFrom f (first + 1) n

end Sys2Proof.Machine
end

