-- ==== Sys2Proof/Machine/Operands.lean ====
section
/-! DEFINITION. The operand forms that commands share: signed bytes, rectangles, samples and line pixels (R474, R349). -/

namespace Sys2Proof.Machine

/-- An operand byte read as two's complement. -/
def signed8 (n : Nat) : Int := if n % 256 < 128 then (n % 256 : Nat) else (n % 256 : Nat) - 256

/-- A 24-bit two's-complement sample held to its range (R230, R238). -/
def clamp24 (x : Int) : Int := clampInt x (-8388608) 8388607

/-- Eight bytes of a rectangle: x, y, w, h (R195). -/
def Rect.bytes (r : Rect) : List Byte := leBytes 2 r.x ++ leBytes 2 r.y ++ leBytes 2 r.w ++ leBytes 2 r.h

/-- `n` bits of a little-endian bit stream from bit `o` (R349). -/
def bitsAt (bs : List Byte) (o n : Nat) : Nat := leNat (slice bs (o / 8) ((o % 8 + n + 7) / 8)) / 2 ^ (o % 8) % 2 ^ n

/-- Bits that a LINE of `count` pixels takes, by format and line parity (R349). -/
def lineBits (format line count : Nat) : Nat :=
  count / 2 * (if format = 2 then 72 else if format = 1 ∧ line % 2 = 1 then 20 else 40)

/-- The samples (x, component, value) of a LINE's pixels (R349); chroma of a 4:2:2 or 4:2:0 pair stands at its even x. -/
def lineSamples (m : LineMsg) : List (Nat × Nat × Nat) :=
  (List.range (m.pixelCount / 2)).flatMap (fun i =>
    let x := m.firstPixel + 2 * i
    if m.format = 2 then
      let o := 72 * i
      [(x, 1, bitsAt m.data o 12), (x, 0, bitsAt m.data (o + 12) 12), (x, 2, bitsAt m.data (o + 24) 12),
       (x + 1, 1, bitsAt m.data (o + 36) 12), (x + 1, 0, bitsAt m.data (o + 48) 12), (x + 1, 2, bitsAt m.data (o + 60) 12)]
    else if m.format = 1 ∧ m.line % 2 = 1 then
      [(x, 0, bitsAt m.data (20 * i) 10), (x + 1, 0, bitsAt m.data (20 * i + 10) 10)]
    else
      let o := 40 * i
      [(x, 1, bitsAt m.data o 10), (x, 0, bitsAt m.data (o + 10) 10), (x, 2, bitsAt m.data (o + 20) 10),
       (x + 1, 0, bitsAt m.data (o + 30) 10)])

/-- A picture's sample number (Picture). -/
def pxAt (x y c : Nat) : Nat := 3 * (8192 * y + x) + c

end Sys2Proof.Machine
end

