-- ==== Sys2Proof/Machine/Crf.lean ====
section
/-! DEFINITION. The compressed reference format (R116 to R118): quad areas and reservations, the median edge predictor,
raw packing, and a CTU's header unit and bytes. -/

namespace Sys2Proof.Machine

/-- 64-byte units of a quad area: the raw quad rounded up (R116). -/
def rawUnits (chroma : Nat) : Nat := [8, 10, 15].getD chroma 8

/-- Bytes of a CTU's reservation: a header unit and 16 quad areas (R116). -/
def ctuReservation (chroma : Nat) : Nat := 64 * (1 + 16 * rawUnits chroma)

/-- The empty reservation. -/
def CtuCrf.none_ : CtuCrf := ⟨[], [], 0, [], 0⟩

/-- Samples packed as 10-bit little-endian values (R118). -/
def packSamples (l : List Nat) : List Byte :=
  leBytes ((10 * l.length + 7) / 8) (l.foldr (fun x a => x % 1024 + 1024 * a) 0)

/-- The median edge predictor from the left, upper and upper-left neighbours (R118). -/
def medianEdge (a b c : Int) : Int :=
  if max a b ≤ c then min a b else if c ≤ min a b then max a b else a + b - c

/-- The residuals of one component of width w: a neighbour outside the quad counts as 0 (R118, notes/assumptions/61). -/
def residuals (w : Nat) (l : List Nat) : List Int :=
  let at_ := fun (x y : Int) => if 0 ≤ x ∧ 0 ≤ y then ((l.getD (y.toNat * w + x.toNat) 0 : Nat) : Int) else 0
  (List.range l.length).map (fun i =>
    let x : Int := (i % w : Nat)
    let y : Int := (i / w : Nat)
    at_ x y - medianEdge (at_ (x - 1) y) (at_ x (y - 1)) (at_ (x - 1) (y - 1)))

/-- A quad's residuals: Y, then Cb, then Cr. -/
def quadResiduals (chroma : Nat) (l : List Nat) : List Int :=
  let n := [64, 128, 256].getD chroma 64
  let w := if chroma = 2 then 16 else 8
  residuals 16 (l.take 256) ++ residuals w ((l.drop 256).take n) ++ residuals w ((l.drop (256 + n)).take n)

/-- One quad in CRF: its units, and whether it is stored raw because the coded size exceeds the raw size (R118). -/
def crfQuad (chroma : Nat) (l : List Nat) : Nat × Bool :=
  let bits := Config.riceBits (quadResiduals chroma l)
  if [3840, 5120, 7680].getD chroma 3840 < bits then (rawUnits chroma, true) else (max 1 ((bits + 511) / 512), false)

/-- The CRC-32C of a CTU's samples in raw quad order (R117). -/
def crfDigest (quads : List (List Nat)) : Nat := crc32c (quads.flatMap packSamples)

/-- A CTU of a frame in CRF. -/
def crfCtu (chroma frame : Nat) (quads : List (List Nat)) : CtuCrf :=
  let qs := quads.map (crfQuad chroma)
  ⟨qs.map (·.1), qs.map (·.2), crfDigest quads, quads, frame⟩

/-- A sample as CRF stores it: an HEVC Main context's 8 bits with two low bits zero (R116). -/
def crfSample (bitDepth x : Nat) : Nat := if bitDepth = 8 then 4 * x else x

/-- A CTU's header unit (R117). -/
def crfHeader (k : CtuCrf) : List Byte :=
  leBytes 8 (((List.range 16).map (fun q => (k.units.getD q 1 - 1) % 16 * 16 ^ q)).sum)
    ++ leBytes 2 (((List.range 16).map (fun q => boolNat (k.raw.getD q false) * 2 ^ q)).sum) ++ [0, 0]
    ++ leBytes 4 k.digest ++ List.replicate 48 0

/-- The chroma format that a quad's sample count gives. -/
def quadChroma (l : List Nat) : Nat := if l.length = 768 then 2 else if l.length = 512 then 1 else 0

/-- A quad's area: its units, and zeros up to the reserved size (R116, R118). -/
def crfArea (units : Nat) (raw : Bool) (l : List Nat) : List Byte :=
  let size := 64 * rawUnits (quadChroma l)
  let used := if raw then packSamples l
    else (List.range (64 * units)).map (Config.riceByte (quadResiduals (quadChroma l) l))
  (used ++ List.replicate size 0).take size

/-- A CTU's reservation as bytes (R116). -/
def crfReservation (k : CtuCrf) : List Byte :=
  crfHeader k ++ (List.range 16).flatMap (fun q => crfArea (k.units.getD q 1) (k.raw.getD q false) (k.recon.getD q []))

/-- Bytes of the header and the units used (R117, R119). -/
def crfBytes (k : CtuCrf) : Nat := 64 * (1 + k.units.sum)

end Sys2Proof.Machine
end

