-- ==== Sys2Proof/Machine/Geometry.lean ====
section
/-! DEFINITION. What a production's entries give by arithmetic: rows, tiles and bands (R12, R109, R127), frame rates and
cycles (R32 to R35), release stamps (R13, R14) and the box office's equations (R166 to R186, R588). Times in nanoseconds
are rounded as each definition says. -/

namespace Sys2Proof.Machine

/-! ### Pictures -/

/-- CTU rows of a context (R12). -/
def Ctx.rows (c : Ctx) : Nat := ceilDiv c.height 64

/-- CTU columns of a context's picture (R109). -/
def Ctx.cols (c : Ctx) : Nat := ceilDiv c.width 64

/-- The engines of a context in ascending order: its tiles (R109). -/
def Ctx.engines (c : Ctx) : List Nat := (List.range 16).filter (bitOf c.engineMask)

/-- Its tiles. -/
def Ctx.tiles (c : Ctx) : Nat := c.engines.length

/-- The tile that an engine codes. -/
def Ctx.tileOf (c : Ctx) (e : Nat) : Nat := c.engines.findIdx (fun x => x == e)

/-- First CTU column of tile t (R109). -/
def Ctx.tileX (c : Ctx) (t : Nat) : Nat := t * c.cols / c.tiles

/-- CTU columns of tile t. -/
def Ctx.tileW (c : Ctx) (t : Nat) : Nat := c.tileX (t + 1) - c.tileX t

/-- Luma pixels [first, end) of tile t: its last column ends at the picture's right edge (R109). -/
def Ctx.tilePx (c : Ctx) (t : Nat) : Nat × Nat := (64 * c.tileX t, if t + 1 = c.tiles then c.width else 64 * c.tileX (t + 1))

/-- Lines of CTU row k. -/
def Ctx.rowLines (c : Ctx) (k : Nat) : Nat := min c.height (64 * k + 64) - 64 * k

/-- Cycles of a normal CTU block (R44). -/
def blockCycles (chroma : Nat) : Nat := if chroma = 2 then 8192 else 6144

/-- The frame rates of a family (R33). -/
def familyRates (family : Nat) : List (Nat × Nat) :=
  match family with
  | 0 => [(24, 1), (30, 1), (48, 1), (60, 1), (120, 1)]
  | 1 => [(24000, 1001), (30000, 1001), (48000, 1001), (60000, 1001), (120000, 1001)]
  | _ => [(25, 1), (50, 1), (100, 1)]

/-- Two fractions are equal. -/
def sameFrac (a b c d : Nat) : Bool := a * d == c * b

/-- Slots that a context has in an engine cycle of num/den seconds, m_c, when it is a whole number (R33). -/
def Ctx.slotsPerCycle (c : Ctx) (num den : Nat) : Option Nat :=
  let a := num * c.rateNum
  let b := den * c.rateDen
  if b ≠ 0 ∧ a % b = 0 then some (a / b) else none

/-- ECLK cycles in a time of num/den seconds, rounded down. -/
def eclkFloor (num den : Nat) : Nat := num * 1600000000 / den

/-- C_min (R35). -/
def EngineTab.cMin (t : EngineTab) : Nat := eclkFloor t.cycleNum t.cycleDen - 2

/-- Work of a slot (R44). -/
def slotWork (s : Slot) (chroma : Nat) : Nat := 32000 * boolNat s.chg + s.nCtu * blockCycles chroma

/-- The context entry of a production. -/
def Production.ctx (p : Production) (c : Nat) : Option Ctx := p.contexts.find? (fun x => x.context == c)

/-- The source entry of a production. -/
def Production.source (p : Production) (n : Nat) : Option Source := p.sources.find? (fun x => x.source == n)

/-- The first engine of a production's context. -/
def Ctx.firstEngine (c : Ctx) : Nat := c.engines.headD 0

/-- An engine's tables in a production. -/
def Production.engine (p : Production) (e : Nat) : Option EngineTab := (p.engines.find? (fun x => x.1 == e)).map (·.2)

/-- The slots of a context on an engine. -/
def EngineTab.slotsOf (t : EngineTab) (context : Nat) : List Slot := t.slots.filter (fun s => s.context == context)

/-- T_row in nanoseconds times k, rounded down (R12). -/
def Ctx.rowsNs (c : Ctx) (k : Nat) : Nat := 64 * k * c.rateDen * 1000000000 / (c.totalLines * c.rateNum)

/-- The mark tick of frame n of a context: the first tick at or after n × T_frame (R32). -/
def Ctx.markTick (c : Ctx) (n : Nat) : Nat := Machine.markTick c.rateNum c.rateDen n

/-- The release stamp of row k of the frame with mark index n, in nanoseconds rounded down (R13, R14, R32): F is the frame's
mark, of which a tick is 5/4 ns; then T_frame + E for a frame-shared context, D, and k rows. -/
def Ctx.stamp (c : Ctx) (n k : Nat) : Nat :=
  let lines := 64 * k + (if c.mode = 0 then 0 else c.totalLines)
  (5 * c.markTick n * (c.totalLines * c.rateNum) + 4 * lines * c.rateDen * 1000000000) / (4 * (c.totalLines * c.rateNum)) + c.delayD
    + (if c.mode = 0 then 0 else c.slotEnd)

/-- A bound on the time from a frame's mark to its last release stamp, in nanoseconds (R13, R14). -/
def Ctx.tail (c : Ctx) : Nat := 2 * c.rateDen * 1000000000 / c.rateNum + c.delayD + c.slotEnd + 2

/-- The work of a production's frames is over this long after its last frame mark (R9). -/
def Production.tail (p : Production) : Nat := (p.contexts.map Ctx.tail).foldl max 0

/-- First column and end of the refresh band in sweep frame i (R127). -/
def Ctx.band (c : Ctx) (k : Coding) (i : Nat) : Nat × Nat :=
  let a := i * c.cols / k.sweepN
  (a, min (a + k.bandB) c.cols)

/-- Structure 0 keeps one reference, the others two (R112). -/
def Coding.refs (k : Coding) : Nat := if k.structure_ = 0 then 1 else 2

/-- The highest QP of the codec, and the lowest at a bit depth (R104, R105). -/
def Coding.qpMax (k : Coding) : Int := if k.codec = 0 then 51 else 63

/-- The lowest QP (R104, R105). -/
def Coding.qpMin (k : Coding) : Int := if k.bitDepth = 8 then 0 else -12

/-! ### The box office's equations -/

/-- t[m] of R588. -/
def q6Table : List Nat :=
  [0, 0, 0, 0, 1, 1, 1, 1, 1, 1, 1, 1, 1, 2, 2, 2, 2, 2, 2, 2, 2, 2, 3, 3, 3, 3, 3, 3, 3, 3, 3, 3]
    ++ [4, 4, 4, 4, 4, 4, 4, 4, 4, 4, 4, 4, 5, 5, 5, 5, 5, 5, 5, 5, 5, 5, 5, 5, 5, 6, 6, 6, 6, 6, 6, 6]

/-- q6 (R588). -/
def q6 (y : Nat) : Int :=
  let p := Nat.log 2 y
  let m := if p < 6 then y * 2 ^ (6 - p) % 64 else y / 2 ^ (p - 6) % 64
  (6 * p + q6Table.getD m 0 : Nat)

/-- T[j] of R588. -/
def e6Table : List Nat := [65536, 73562, 82570, 92682, 104032, 116772]

/-- e6 (R588). -/
def e6 (z : Int) : Nat :=
  let p := z / 6
  let t := e6Table.getD (z % 6).toNat 0
  if 0 ≤ p then t * 2 ^ p.toNat else t / 2 ^ (-p).toNat

/-- f_s, f_i in bits, and s_side (R166). -/
def floorSkipBits : Nat := 96

/-- f_i (R166). -/
def floorIntraBits (chroma : Nat) : Nat := if chroma = 2 then 512 else 384

/-- Bins of a floor skip CTU (R166). -/
def floorSkipBins : Nat := 40

/-- Bins of a floor intra CTU (R166). -/
def floorIntraBins (chroma : Nat) : Nat := if chroma = 2 then 128 else 96

/-- f_end (R166). -/
def floorEnd : Nat := 64

/-- s_side in bits (R166). -/
def sideBits : Nat := 6144

/-- s_side in bins (R166). -/
def sideBins : Nat := 3072

/-- d of R169. -/
def BoxEntry.d (b : BoxEntry) : Nat := b.tickDiv + 2

/-- floor(r × δ_row) for a rate (R169, R170). -/
def drainRow (c : Ctx) (b : BoxEntry) (r : Nat) : Nat := r * b.duInc * c.rateDen / (c.rateNum * b.d)

/-- floor(r × δ_gap) (R169). -/
def drainGap (c : Ctx) (b : BoxEntry) (r : Nat) : Nat :=
  r * c.rateDen * (b.d - (c.rows - 1) * b.duInc) / (c.rateNum * b.d)

/-- The drain before decoding unit k (R170). -/
def drainBefore (c : Ctx) (b : BoxEntry) (r k : Nat) : Nat := if k = 0 then drainGap c b r else drainRow c b r

/-- floor(r × T_frame) (R178). -/
def frameBitsAt (c : Ctx) (r : Nat) : Nat := r * c.rateDen / c.rateNum

/-- The rate and buffer of a schedule in one tile (R171). -/
def BoxEntry.tileSched (b : BoxEntry) (n i : Nat) : Nat × Nat :=
  let x := b.scheds.getD i (0, 0)
  (x.1 / n, x.2 / n)

/-- f_au: the bound on the next frame's non-VCL bits (R181). Templates 0 to 3 are NAL units of their own, each with its
4-byte start code. -/
def fAu (c : Ctx) (k : Coding) : Nat :=
  let t := k.templates.take 4
  8 * ((t.map (·.length)).sum + 4 * (t.filter (fun x => decide (x ≠ []))).length + 2048 + 8 * c.rows)

/-- ρ backward over the rows that follow: `rows` lists φ and the drain before each later row, nearest first (R181). -/
def reserve : List (Nat × Nat) → Nat
  | [] => 0
  | (phi, drain) :: t => phi + reserve t - drain

/-- The largest fraction u/d not above 64 / total_lines with d from 2 to 257, the smallest d among equal (R169). -/
def duFraction (totalLines : Nat) : Nat × Nat :=
  let best := (List.range 256).foldl (fun (a : Nat × Nat) i =>
    let d := i + 2
    let u := 64 * d / totalLines
    if a.1 * d < u * a.2 then (u, d) else a) (0, 2)
  if best.1 = 0 then (1, 257) else best

/-- Packets of a NAL unit of n bytes (R255). -/
def packetsOf (maxPacket n : Nat) : Nat := if n + 12 ≤ maxPacket then 1 else ceilDiv (n - 2) (maxPacket - 15)

end Sys2Proof.Machine
end

