-- ==== Sys2Proof/Machine/CompOps.lean ====
section
/-! DEFINITION. The arithmetic of composition (R200 to R208, R213 to R215): the scaler, graphic conversion, blending. -/

namespace Sys2Proof.Machine

/-! ### The scaler -/

/-- step (R200). -/
def scaleStep (src dst : Nat) : Nat := src * 65536 / dst

/-- A scaler axis at picture place x: x0, x1 and the 8-bit weight a (R200). -/
def scaleAt (srcPos src dstPos dst x : Nat) : Nat × Nat × Nat :=
  let step := scaleStep src dst
  let p : Int := (srcPos * 65536 + step / 2 : Nat) - 32768 + ((x - dstPos) * step : Nat)
  let x0 := clampInt (p / 65536) srcPos (srcPos + src - 1)
  (x0.toNat, min (x0.toNat + 1) (srcPos + src - 1), if p < 0 then 0 else (p / 256 % 256).toNat)

/-- The span of a layer in a tile of pixels [a, b); 0 where the tile holds none of it (R201). -/
def layerSpan (dst src : Rect) (tile : Nat × Nat) : Nat :=
  let first := max tile.1 dst.x
  let last := min tile.2 (dst.x + dst.w)
  if last ≤ first then 0
  else (scaleAt src.x src.w dst.x dst.w (last - 1)).2.1 - (scaleAt src.x src.w dst.x dst.w first).1 + 1

/-- A rectangle's fields are even. -/
def evenRect (r : Rect) : Bool := r.x % 2 == 0 && r.y % 2 == 0 && r.w % 2 == 0 && r.h % 2 == 0

/-- A dst rectangle lies in a layer's envelope (R195). -/
def Layer.holds (l : Layer) (dst : Rect) : Bool :=
  decide (l.env.x ≤ dst.x) && decide (dst.x + dst.w ≤ l.env.w) && decide (l.env.y ≤ dst.y) && decide (dst.y + dst.h ≤ l.env.h)

/-- Geometry of a layer lies within what its entry compiled, over tiles (R195, R201, R209). -/
def Layer.fits (l : Layer) (pairs : List Pair) (tiles : List (Nat × Nat)) (dst src : Rect) : Bool :=
  evenRect dst && evenRect src && decide (0 < dst.w) && decide (0 < dst.h) && decide (0 < src.w) && decide (0 < src.h)
    && l.holds dst
    && decide (l.stepMin ≤ scaleStep src.w dst.w) && decide (scaleStep src.w dst.w ≤ l.stepMax)
    && decide (l.stepMin ≤ scaleStep src.h dst.h) && decide (scaleStep src.h dst.h ≤ l.stepMax)
    && tiles.all (fun t => decide (layerSpan dst src t ≤ l.spanMax))
    && (l.kind != 2 ||
          (let p := pairs.getD l.source {}
           src.w == dst.w && src.h == dst.h && decide (src.x + src.w ≤ p.width) && decide (src.y + src.h ≤ p.height)))

/-- Bilinear interpolation of four samples with weights a and b (R200). -/
def bilinear (s00 s10 s01 s11 a b : Nat) : Nat :=
  (s00 * (256 - a) * (256 - b) + s10 * a * (256 - b) + s01 * (256 - a) * b + s11 * a * b + 32768) / 65536

/-! ### Graphics -/

/-- Alpha in [0, 256] and the 10-bit R, G and B of a graphic word (R202). -/
def graphicPixel (argb2 : Bool) (w : Nat) : Nat × Nat × Nat × Nat :=
  if argb2 then ([0, 85, 171, 256].getD (w / 2 ^ 30 % 4) 0, w / 2 ^ 20 % 1024, w / 2 ^ 10 % 1024, w % 1024)
  else
    let wide := fun x => x * 4 + x / 64
    let a8 := w / 2 ^ 24 % 256
    (a8 + a8 / 128, wide (w / 2 ^ 16 % 256), wide (w / 2 ^ 8 % 256), wide (w % 256))

/-- The coefficient rows y, cb, cr of a matrix (R203). -/
def matrix (m2020 : Bool) : List (List Int) :=
  if m2020 then [[14742, 38049, 3328], [-8015, -20685, 28700], [28700, -26392, -2308]]
  else [[11931, 40136, 4052], [-6576, -22124, 28700], [28700, -26068, -2632]]

/-- One component (0 y, 1 cb, 2 cr) of a graphic pixel (R203). -/
def graphicYcc (m2020 premult : Bool) (p : Nat × Nat × Nat × Nat) (c : Nat) : Int :=
  let k := (matrix m2020).getD c []
  let m := (k.getD 0 0 * p.2.1 + k.getD 1 0 * p.2.2.1 + k.getD 2 0 * p.2.2.2 + 32768) / 65536
  let base : Int := if c = 0 then 64 else 512
  (if premult then (base * p.1 + 128) / 256 else base) + m

/-! ### Blending -/

/-- One component blended over u (R204). -/
def blend (opaque_ premult : Bool) (aPx opacity : Nat) (s u : Int) : Int :=
  let a : Int := if opaque_ then 256 else (aPx * opacity + 128) / 256
  let out :=
    if premult ∧ opaque_ = false then (s * opacity + 128) / 256 + ((256 - a) * u + 128) / 256
    else (a * s + (256 - a) * u + 128) / 256
  clampInt out 4 1019

/-- A packed colour's component (R194). -/
def packedColour (w c : Nat) : Nat := w / 2 ^ (10 * c) % 1024

/-- Horizontal and vertical subsampling of chroma by chroma format (R102). -/
def subX (chroma : Nat) : Nat := if chroma = 2 then 1 else 2

/-- Vertical subsampling of chroma. -/
def subY (chroma : Nat) : Nat := if chroma = 0 then 2 else 1

end Sys2Proof.Machine
end

