-- ==== Sys2Proof/Machine/Flags.lean ====
section
/-! DEFINITION. The status words and flags that the device computes from its state: INT_STATUS and INT_N (R465),
BOOT_STATUS (R459), MBn_CTRL, and the pins that follow a state. -/

namespace Sys2Proof.Machine

/-- INT_STATUS (R465). -/
def State.intStatus (s : State) : Nat :=
  ((List.range 8).map (fun n =>
      let m := (s.host.mbs.toList.drop n).headD {}
      boolNat (decide (m.cplWr ≠ m.cplRd)) * 2 ^ n)).sum
    + 256 * boolNat (decide (s.evt.wr ≠ s.evt.rd)) + 512 * boolNat (decide (s.boot.state = 15))
    + 1024 * boolNat s.host.ringFault + 2048 * boolNat s.host.sessClosed + 4096 * boolNat s.host.replayed

/-- The core drives no functional output: a test instruction drives the covered outputs (R542). -/
def Tap.drives (t : Tap) : Bool :=
  match t.ir with
  | .extest | .highz | .clamp | .extestPulse | .extestTrain => true
  | _ => false

/-- INT_N is asserted: some INT_STATUS bit is 1 whose INT_ENABLE bit is 1 (R465). -/
def State.intAsserted (s : State) : Bool :=
  decide (s.intStatus &&& (s.host.intEnable ||| 0x200) ≠ 0)

/-- BOOT_STATUS (R459). -/
def Boot.status (b : Boot) : Nat :=
  b.state + 16 * b.cause + 256 * b.error + 65536 * b.bootsel + 0x80000 * boolNat b.slotB + 0x100000 * boolNat b.warm
    + 0x200000 * boolNat b.ddrFail + 0x400000 * boolNat b.vcoreOk

/-- MBn_CTRL (R465). -/
def Mailbox.ctrl (m : Mailbox) : Nat := if m.fault then 2 else if m.long.isSome then 1 else 0

/-- VDD_CORE's target in mV (R459). -/
def targetMv (code : Nat) : Nat := 700 + 5 * code

/-- A VDD_CORE reading lies within target ± 15 mV (R441). -/
def inTarget (code mV : Nat) : Bool := decide (targetMv code ≤ mV + 15) && decide (mV ≤ targetMv code + 15)

/-- VDD_FUSE reads in range (R440, R442): 1.8 V ± 5 %. -/
def fuseInRange (mV : Nat) : Bool := decide (1710 ≤ mV) && decide (mV ≤ 1890)

/-- DDR5 has a failed subchannel or a topology that R431 fails. -/
def State.ddrFailed (s : State) : Bool := s.ddr.state == 3

/-- The fill of a queue in bytes: each item is its 16-byte header and its payload padded to 16 (R261). -/
def itemBytes (i : Item) : Nat := 16 + 16 * ceilDiv i.payload.length 16

/-- Bytes of a list of items. -/
def itemsBytes (l : List Item) : Nat := (l.map itemBytes).sum

/-- The fill of a queue: head, refill in flight, middle and tail together (R260). -/
def Queue.fill (q : Queue) : Nat := itemsBytes q.head + itemsBytes q.middle + itemsBytes q.refill + itemsBytes q.tail

end Sys2Proof.Machine
end

