-- ==== Sys2Proof/Machine/DdrOps.lean ====
section
/-! DEFINITION. The shared operations of DDR5 (R415 to R433): the address map, the request queues, the RS decoder's
verdict, marks, the error log, training, and what a landed read does to an engine's tag. An MCLK cycle is a tick
(R359). -/

namespace Sys2Proof.Machine

/-- The device address of a subchannel's codeword k: the map of R417 read back. -/
def Ddr.codeAddress (d : Ddr) (sub k : Nat) : Nat :=
  let l := 64 * k
  (l / 2 ^ d.interleave * d.n + sub) * 2 ^ d.interleave + l % 2 ^ d.interleave

/-- Codewords of a subchannel (R425, R427). -/
def Ddr.codewords (d : Ddr) : Nat := d.ranks * rankBytes d.density / 64

/-- Length of a refresh window and of its interval in MCLK cycles (R418). -/
def Ddr.tRfc (d : Ddr) : Nat := if d.density = 0 then 236 else 328

/-- The refresh interval in MCLK cycles (R418). -/
def Ddr.tRefi (d : Ddr) : Nat := if d.refresh = 0 then 3120 else 1560

/-- A refresh window is in progress (R418): windows begin exactly every interval from the first on. -/
def Ddr.refreshing (d : Ddr) (cycle : Nat) : Bool :=
  decide (0 < d.windows) && decide ((cycle - d.window) % d.tRefi < d.tRfc)

/-- DDR5 with every refresh window counted that has begun by `cycle`, which closed every bank (R418). -/
def Ddr.roll (d : Ddr) (cycle : Nat) : Ddr :=
  let k := (cycle - d.window) / d.tRefi
  if d.windows = 0 ∨ k = 0 then d
  else { d with windows := satAdd 64 d.windows k, window := d.window + k * d.tRefi
                subs := d.subs.map (fun c => { c with open_ := [] }) }

/-- A read request of a port: whole bursts (R417). -/
def Ddr.read (d : Ddr) (port address bytes cycle : Nat) (serves : ReadFor) : Ddr :=
  let d1 := (blocksOf address bytes).foldl (fun d b => d.enqueue port .read cycle serves b) d
  d1.modPort port (fun p => { p with reads := satAdd 32 p.reads 1 })

/-- A read request of a port that fetches several byte ranges; one that fetches nothing makes no access (R152). -/
def Ddr.readParts (d : Ddr) (port : Nat) (parts : List (Nat × Nat)) (cycle : Nat) (serves : ReadFor) : Ddr :=
  if parts = [] then d else
  let d1 := (parts.flatMap (fun x => blocksOf x.1 x.2)).foldl (fun d b => d.enqueue port .read cycle serves b) d
  d1.modPort port (fun p => { p with reads := satAdd 32 p.reads 1 })

/-- Firmware writes a context record (R92): at once when the port's write queue has room and no record waits for it. -/
def Ddr.writeRec (d : Ddr) (w : RecWrite) (cycle : Nat) : Ddr :=
  if (d.waiting.any (fun x => x.port == w.port)) = false ∧ d.hasRoom w.port 65536 = true then
    { d.writeRole w.port w.address 65536 cycle with recs := cset none d.recs w.key (some w.record) }
  else { d with waiting := d.waiting ++ [w] }

/-- Records whose port's queue has room by now are written (R92). -/
def Ddr.writeWaiting (d : Ddr) (cycle : Nat) : Ddr :=
  d.waiting.foldl (fun d w => d.writeRec w cycle) { d with waiting := [] }

/-- Bytes in an engine's write queue. -/
def Ddr.queued (d : Ddr) (e : Nat) : Nat := ((finOf 22 e).map (fun i => (vget d.ports i).fill)).getD 0

/-- WRITE_QUEUE_HIGH for every engine whose write queue has passed 48 KiB since DDR5 stood as `old` (R96). -/
def State.noteQueues (s : State) (old : Ddr) : State :=
  s.raiseAll ((List.range 16).flatMap (fun e =>
    evIf (decide (old.queued e ≤ 49152 ∧ 49152 < s.ddr.queued e)) (s.ev (644 + e) 0x0003 [(4, s.ddr.queued e)])))

/-- A read's urgency (R421); scrub reads turn urgent at 50 µs (R427). -/
def Ddr.readUrgency (d : Ddr) (port age : Nat) : Nat :=
  match finOf 22 port with
  | none => if 40000 ≤ age then 3 else 0
  | some i =>
    let t := (vget d.ports i).target
    let ns := 5 * age   -- quarter nanoseconds
    if ns < 2 * t then 0 else if ns < 3 * t then 1 else if ns < 4 * t then 2 else 3

/-- A port's write urgency (R421). -/
def Ddr.writeUrgency (d : Ddr) (port : Nat) : Nat :=
  match finOf 22 port with
  | none => 0
  | some i =>
    let f := 100 * (vget d.ports i).fill
    let c := portCapacity port
    if f < 50 * c then 0 else if f < 75 * c then 1 else if f < 90 * c then 2 else 3

/-- The bank of a location among the open-row table's 64. -/
def DramLoc.bank (l : DramLoc) : Nat := 32 * l.rank + 4 * l.bg + l.ba

/-- The urgency of a request (R421). -/
def Ddr.urgency (d : Ddr) (cycle : Nat) (r : Nat × Nat × DdrKind × Nat × Nat) : Nat :=
  match r.2.2.1 with
  | .read => d.readUrgency r.2.1 (cycle - r.2.2.2.2)
  | .write => d.writeUrgency r.2.1

/-- Whether a request hits its bank's open row. -/
def Ddr.rowHit (d : Ddr) (c : SubCh) (r : Nat × Nat × DdrKind × Nat × Nat) : Bool :=
  let l := dramLoc d.interleave d.n d.density r.2.2.2.1
  decide (cget 0 c.open_ l.bank = l.row + 1)

/-- The request the scheduler issues: among the 64 oldest the most urgent, then a row hit (but not at urgency 3), then
the oldest (R422). -/
def Ddr.pick (d : Ddr) (c : SubCh) (cycle : Nat) : Option (Nat × Nat × DdrKind × Nat × Nat) :=
  (c.queue.take 64).foldl (fun b r =>
    match b with
    | none => some r
    | some x =>
      let ur := d.urgency cycle r
      let ux := d.urgency cycle x
      if ux < ur ∨ ur = ux ∧ ur < 3 ∧ d.rowHit c r = true ∧ d.rowHit c x = false then some r else some x) none

/-! ### Errors -/

/-- The decoder corrects a codeword (R426): every erroneous symbol in one component, or, beside a marked component's
erasures, at most four further symbols. -/
def correctable (marked : Option Nat) (comps : List (Nat × Nat)) : Bool :=
  let bad := comps.filter (fun c => decide (0 < c.2))
  match marked with
  | none => decide ((bad.map (·.1)).dedup.length ≤ 1)
  | some m => decide (((bad.filter (fun c => decide (c.1 ≠ m))).map (·.2)).sum ≤ 4)

/-- The event source of a subchannel (R439). -/
def subSource (sub : Nat) : Nat := 708 + sub

/-- An entry joins the error log, or is missed when it is full (R430, R439). -/
def State.logError (s : State) (e : LogEntry) : State :=
  if s.ddr.log.length < 64 then { s with ddr := { s.ddr with log := s.ddr.log ++ [e] } }
  else
    let n := satAdd 16 s.ddr.overflow 1
    State.raise { s with ddr := { s.ddr with overflow := n } } (s.ev 721 0x0919 [(2, n)])

/-- A change of one subchannel. -/
def State.setSub (s : State) (i : Fin 12) (c : SubCh) : State :=
  { s with ddr := { s.ddr with subs := vset s.ddr.subs i c } }

/-- CA parity and write CRC go off, logged and reported (R428, R430). -/
def State.checksOff (s : State) (i : Fin 12) (rank : Nat) : State :=
  let c := vget s.ddr.subs i
  if c.caParity ∨ c.writeCrc then
    (State.logError (s.setSub i { c with caParity := false, writeCrc := false, run := 0 })
      ⟨s.now, 0, List.replicate 16 0, 2, i, rank, 0xFF, 0xFF⟩).raise (s.ev (subSource i) 0x0914 [(1, rank)])
  else s

/-- A component is marked (R426, R428): causes 0 threshold, 1 command, 2 training. -/
def State.markComp (s : State) (i : Fin 12) (rank comp cause : Nat) : State :=
  match finOf 2 rank with
  | none => s
  | some r =>
    let c := vget s.ddr.subs i
    ((s.setSub i { c with marked := vset c.marked r (some comp) }).raise
      (s.ev (subSource i) 0x0912 [(1, rank), (1, comp), (1, cause)])).checksOff i rank

/-- One component's correction (R426, R430): counted; the first since the last clear is logged and reported; at the
threshold the component is marked. -/
def State.correction (port address rank : Nat) (i : Fin 12) (synd : List Byte) (s : State) (comp : Nat) : State :=
  let c := vget s.ddr.subs i
  let k := 10 * rank + comp
  let n := cget 0 c.corr k + 1
  let s1 := s.setSub i { c with corr := cset 0 c.corr k n }
  let s2 := if n = 1 then
      (s1.logError ⟨s.now, address, synd, 1, i, rank, comp, port⟩).raise
        (s.ev (subSource i) 0x0910 [(1, rank), (1, comp), (8, address)])
    else s1
  match finOf 2 rank with
  | none => s2
  | some r =>
    if s.ddr.threshold ≤ n ∧ vget (vget s2.ddr.subs i).marked r = none then s2.markComp i rank comp 0 else s2

/-- A codeword read with its errors (R426, R430): the state after it, and whether it is poisoned. -/
def State.decode (s : State) (i : Fin 12) (port address : Nat) (err : CodeErr) (kind : Nat) : State × Bool :=
  let rank := (dramLoc s.ddr.interleave s.ddr.n s.ddr.density address).rank
  let marked := ((vget s.ddr.subs i).marked.toList.getD rank none)
  let comps := ((err.comps.filter (fun c => decide (0 < c.2))).map (·.1)).dedup
  if comps = [] then (s, false)
  else if correctable marked err.comps then
    (comps.foldl (State.correction port address rank i err.synd)
      { s with ddr := { s.ddr with corr := satAdd 64 s.ddr.corr 1 } }, false)
  else
    let c := vget s.ddr.subs i
    let comp := if comps.length = 1 then comps.headD 0xFF else 0xFF
    let s1 := s.setSub i { c with uncorr := satAdd 32 c.uncorr 1 }
    let s2 := { s1 with ddr := { s1.ddr with uncorr := satAdd 32 s1.ddr.uncorr 1 } }
    ((s2.logError ⟨s.now, address, err.synd, kind, i, rank, comp, port⟩).raise
      (s.ev (subSource i) 0x0911 [(1, rank), (1, port), (8, address)]), true)

/-! ### Landed reads -/

/-- No read is to come. -/
def noRead : Nat := 8192

/-- The read of a tag under a generation, among an engine's. -/
def readNo (tag gen : Nat) : Nat := 16 * tag + gen

/-- The quads of a fine window that a read fetches take its VALID when it completes (R158). -/
def FineWin.done (w : FineWin) (read : Nat) (ok : Bool) : FineWin :=
  { w with valid := w.valid.zipIdx.map (fun (y : Bool × Nat) => y.1 && (ok || w.src.getD y.2 noRead != read))
           src := w.src.map (fun r => if r = read then noRead else r) }

/-- A read completes, or is lost: the coarse slots and fine quads that it fills take its VALID, and keep it (R158, R163). -/
def Engine.readDone (g : Engine) (read : Nat) (ok : Bool) : Engine :=
  { g with
    windows := g.windows.map (fun (y : Nat × FineWin) => (y.1, y.2.done read ok))
    slots := g.slots.map (fun (y : Nat × ColSlot) =>
      (y.1, if y.2.src = read then { y.2 with bad := y.2.bad || !ok, src := noRead } else y.2)) }

/-- The engine issues again when every tag its frozen word waits for has arrived: each frozen cycle has added to L and
FRZ (R80, R85). -/
def Engine.thaw (g : Engine) (cycle : Nat) : Engine :=
  match g.q.frozenAt with
  | none => g
  | some f =>
    if g.q.waiting.all (fun t => (cget {} g.tags t).arrived) then
      let n := cycle - f
      let l := satAdd 32 g.q.lateness n
      { g with q := { g.q with frozenAt := none, frzSeen := 0, waiting := [], lateness := l, frz := g.q.frz + n, due := g.q.due + n }
               state := if g.failed then 4 else if g.q.floor then 3 else 1
               n := { g.n with freezeCycles := satAdd 64 g.n.freezeCycles (n - g.q.frzSeen), latenessMax := max g.n.latenessMax l } }
    else g

/-- Behind a landed burst: a read that is complete fills what it fills, and the engine may go on. -/
def Engine.landed (g : Engine) (read : Nat) (last ok : Bool) (cycle : Nat) : Engine :=
  (if last then g.readDone read ok else g).thaw cycle

/-- A burst of a tag's read has landed; `last` says that every byte has (R79). A poisoned burst clears VALID as it lands;
ARRIVED waits for the last one (DESIGN CHOICE, notes/assumptions/63: the rule does not say whether an earlier burst sets
it). -/
def Engine.land (g : Engine) (tag gen : Nat) (last poison : Bool) (cycle : Nat) : Engine :=
  let t := cget {} g.tags tag
  if t.gen ≠ gen then g
  else
    { g with tags := cset {} g.tags tag { t with arrived := t.arrived || last, valid := t.valid && !poison }
             n := if poison ∧ t.valid then { g.n with poisoned := satAdd 32 g.n.poisoned 1 } else g.n }.landed
      (readNo tag gen) last (t.valid && !poison) cycle

/-- The record that a context's tile has in DDR5. -/
def Ddr.record (d : Ddr) (context tile : Nat) : Option CtxRec := cget none d.recs (4 * context + tile)

/-- A landed record read fills the half that it was issued for (R89, R92). -/
def Engine.landRecord (g : Engine) (tag : Nat) (d : Ddr) : Engine :=
  let t := cget {} g.tags tag
  match g.incoming with
  | some (c, h) =>
    if g.recTag = some tag ∧ t.arrived ∧ t.valid then
      { g with store := vset g.store h ((d.record c g.q.tile).map (fun r => (c, r))) }
    else g
  | none => g

/-! ### Training and status -/

/-- The component of a rank that fails data training alone (R431). -/
def failingComp (f : DdrFound) (i : Fin 12) (r : Nat) : Option Nat :=
  if r < f.ranks then (f.dataFail.find? (fun x => x.1 == i.val && x.2.1 == r)).map (·.2.2) else none

/-- What training leaves of one subchannel (R416, R428, R431): failed, or running with its checks on. -/
def trainSub (f : DdrFound) (cycle : Nat) (i : Fin 12) : SubCh :=
  if f.fitted.contains (i.val / 2) = false then {}
  else
    let two := (List.range f.ranks).any (fun r => decide (2 ≤ (f.dataFail.filter (fun x => x.1 == i.val && x.2.1 == r)).length))
    if f.caFail.contains i.val ∨ two then { state := 2 } else { state := 1, caParity := true, writeCrc := true, scrubAt := cycle }

/-- The components that training marks: subchannel, rank, component (R426, R431). -/
def trainMarks (f : DdrFound) : List (Fin 12 × Nat × Nat) :=
  (List.finRange 12).flatMap (fun i =>
    if (trainSub f 0 i).state = 1 then (List.range 2).filterMap (fun r => (failingComp f i r).map (fun c => (i, r, c))) else [])

/-- The topology is one that R415 and R431 allow. -/
def topologyOk (f : DdrFound) : Bool :=
  f.uniform && (decide (f.fitted = [0, 1, 2, 3, 4, 5]) || decide (f.fitted = [0, 1, 2, 3]))

/-- DDR5 after cold training (R431): 6400 MT/s; a failed subchannel or topology fails DDR5. -/
def trainDdr (d : Ddr) (f : DdrFound) (cycle : Nat) : Ddr :=
  let subs := Vector.ofFn (trainSub f cycle)
  let failed := (subs.toList.any (fun c => c.state == 2)) || !topologyOk f
  { d with channels := f.fitted.length, ranks := f.ranks, density := f.density, rate := 0, subs := subs
           state := if failed then 3 else 1, ran := !failed, windows := 0, window := 0, lastZq := cycle, mr4At := [] }

/-- Cold training as the machine sees it (R426, R428, R431): DDR5 trained, the components that failed only data training
marked, which turns the checks of their subchannels off, and DDR_TRAINED's data. -/
def State.trained (s : State) (f : DdrFound) : State × List Ev :=
  let d := trainDdr s.ddr f s.time.fclk
  let failed := (d.subs.toList.filter (fun c => c.state == 2)).length
  ((trainMarks f).foldl (fun (s : State) m => s.markComp m.1 m.2.1 m.2.2 2) { s with ddr := d },
    [s.ev 722 0x091A [(1, d.rate), (4, failed), (4, (trainMarks f).length)]])

end Sys2Proof.Machine
end

