-- ==== Sys2Proof/Machine/Crypto.lean ====
section
/-! DEFINITION. SHA-256 and the verification of RSASSA-PSS signatures with the parameters of R517. The spec names the
published standards (R2, R517); their arithmetic is PRESUMED from FIPS 180-4 and RFC 8017 (notes/assumptions/12). -/

namespace Sys2Proof.Machine

/-- The greatest `r` with `r^k ≤ n`, found bit by bit from bit `b − 1` of what is known so far. -/
def rootFrom (k n : Nat) : Nat → Nat → Nat
  | 0, r => r
  | b + 1, r => rootFrom k n b (if (r + 2 ^ b) ^ k ≤ n then r + 2 ^ b else r)

/-- The first 32 bits after the point of the `k`-th root of `p`: every constant of SHA-256 is one of these. -/
def rootFraction (k p : Nat) : U32 := BitVec.ofNat 32 (rootFrom k (p * 2 ^ (32 * k)) 36 0)

/-- The primes below `n`, rising. -/
def primesBelow (n : Nat) : List Nat :=
  (List.range n).filter (fun q => decide (2 ≤ q) && ((List.range q).drop 2).all (fun d => decide (q % d ≠ 0)))

/-- The round constants: cube roots of the first 64 primes. -/
def shaConstants : List U32 := (primesBelow 312).map (rootFraction 3)

/-- SHA-256's chaining value and working state: the two halves that shift, each newest word first (a b c d and e f g h). -/
structure Digest where
  upper : List U32
  lower : List U32
  deriving DecidableEq, Repr

/-- The value before the first block: square roots of the first 8 primes. -/
def Digest.start : Digest :=
  let r := (primesBelow 20).map (rootFraction 2)
  ⟨r.take 4, r.drop 4⟩

/-- The exclusive or of a word turned right by each distance. -/
def turns (ds : List Nat) (x : U32) : U32 := ds.foldl (fun a d => a ^^^ x.rotateRight d) 0

/-- The words that enter the two halves in a round whose constant and schedule word sum to `kw`. -/
def Digest.next (d : Digest) (kw : U32) : U32 × U32 :=
  let a := fun i => d.upper.getD i 0
  let e := fun i => d.lower.getD i 0
  let pick := e 2 ^^^ (e 0 &&& (e 1 ^^^ e 2))
  let most := (a 0 &&& (a 1 ||| a 2)) ||| (a 1 &&& a 2)
  let mixed := turns [6, 11, 25] (e 0) + pick + e 3 + kw
  (mixed + most + turns [2, 13, 22] (a 0), mixed + a 3)

/-- The sixteen schedule words in hand, oldest first, moved on by one. -/
def scheduleNext (w : List U32) : List U32 :=
  let x := w.getD 1 0
  let y := w.getD 14 0
  w.drop 1 ++ [w.getD 0 0 + w.getD 9 0 + (turns [7, 18] x ^^^ x >>> 3) + (turns [17, 19] y ^^^ y >>> 10)]

/-- The rounds of the constants left, the schedule moving on with each. -/
def Digest.rounds : List U32 → List U32 → Digest → Digest
  | [], _, d => d
  | k :: ks, w, d =>
    let n := d.next (k + w.getD 0 0)
    Digest.rounds ks (scheduleNext w) ⟨(n.1 :: d.upper).take 4, (n.2 :: d.lower).take 4⟩

/-- Big-endian bytes of a number. -/
def beBytes (n x : Nat) : List Byte := (leBytes n x).reverse

/-- One 64-byte block. -/
def Digest.block (d : Digest) (blk : List Byte) : Digest :=
  let words := (List.range 16).map (fun i => BitVec.ofNat 32 (beNat ((blk.drop (4 * i)).take 4)))
  let r := Digest.rounds shaConstants words d
  ⟨List.zipWith (· + ·) d.upper r.upper, List.zipWith (· + ·) d.lower r.lower⟩

/-- SHA-256 of bytes, as 32 bytes: the message, the bit 1, zeros to 8 bytes short of a block, the length in bits. -/
def sha256 (bs : List Byte) : List Byte :=
  let z := (119 - bs.length % 64) % 64
  let m := bs ++ 0x80 :: List.replicate z 0 ++ beBytes 8 (8 * bs.length)
  let d := (List.range (m.length / 64)).foldl (fun d i => d.block ((m.drop (64 * i)).take 64)) Digest.start
  (d.upper ++ d.lower).flatMap (fun w => beBytes 4 w.toNat)

/-- MGF1 with SHA-256: `n` blocks of mask from counter `c`. -/
def mgf1 (seed : List Byte) : Nat → Nat → List Byte
  | 0, _ => []
  | n + 1, c => sha256 (seed ++ beBytes 4 c) ++ mgf1 seed n (c + 1)

/-- m^65537 mod n: sixteen squarings and one product (R515). -/
def rsaPublic (m n : Nat) : Nat := times (fun x => x * x % n) 16 (m % n) * m % n

/-- RSASSA-PSS verification with RSA-3072, SHA-256, MGF1 and a 32-byte salt (R517). -/
def pssVerify (modulus : List Byte) (msg sig : List Byte) : Bool :=
  let n := beNat modulus
  let s := beNat sig
  let em := beBytes 384 (rsaPublic s n)
  let masked := em.take 351
  let h := (em.drop 351).take 32
  let db := (List.zipWith (· ^^^ ·) masked (mgf1 h 11 0))
  let db := (db.head?.getD 0 &&& 0x7F) :: db.drop 1
  let salt := db.drop 319
  decide (sig.length = 384) && decide (s < n) && decide (em.getD 383 0 = 0xBC)
    && decide ((masked.headD 0).toNat < 128) && db.take 318 == List.replicate 318 0 && decide (db.getD 318 0 = 1)
    && sha256 (List.replicate 8 0 ++ sha256 msg ++ salt) == h

/-- The key hash of a key (R515). -/
def keyHash (modulus : List Byte) (exponent : Nat) : List Byte := sha256 (modulus ++ beBytes 4 exponent)

end Sys2Proof.Machine
end

