-- ==== Sys2Proof/Machine/Keys.lean ====
section
/-! DEFINITION. Keys and signature blocks (R513 to R522). -/

namespace Sys2Proof.Machine

/-- The identity key's modulus (R515, R524). -/
def identityKey : List Byte := (List.range 384).map Config.identityModulus

/-- The device's own fingerprint (R515). -/
def fingerprint : List Byte := keyHash identityKey 65537

/-- The key that a signature block's class and slot name in OTP is programmed, not revoked and the block's own (R517). -/
def Otp.keyOk (o : Otp) (cls slot : Nat) (hash : List Byte) : Bool :=
  if cls = 0 then
    match finOf 4 slot with
    | none => false
    | some i => vget o.vendorSet i && !vget o.revoked i && vget o.vendorHash i == hash
  else slot == 0 && o.ownerHash == some hash

/-- A block's fields are as R516 gives them, for an object of a key class. -/
def blockForm (object cls : Nat) (b : List Byte) : Bool :=
  slice b 0 4 == [0x4D, 0x55, 0x53, 0x47] && field b 4 1 == 1 && field b 5 1 == cls && field b 7 1 == 0
    && field b 8 2 == object && field b 0x0A 2 == 0 && field b 0x10 4 == 65537
    && slice b 0x14 12 == List.replicate 12 0 && slice b 0x320 224 == List.replicate 224 0

/-- A signed object with its block is accepted (R517). -/
def signedOk (o : Otp) (object cls : Nat) (msg block : List Byte) : Bool :=
  let modulus := slice block 0x20 384
  blockForm object cls block && o.keyOk cls (field block 6 1) (keyHash modulus (field block 0x10 4))
    && pssVerify modulus (msg ++ slice block 0 0x1A0) (slice block 0x1A0 384)

/-- SIGNATURE_REFUSED (R533). -/
def State.sigRefused (s : State) (opcode object status : Nat) : State :=
  s.raise (s.ev 835 0x0111 [(2, opcode), (2, object), (2, status)])

end Sys2Proof.Machine
end

