-- ==== Sys2Proof/Machine/LinkOps.lean ====
section
/-! DEFINITION. The shared operations of a link: line bits (R294 to R298), the ladder (R305 to R307), flits, retry,
messages and credits (R319 to R336). -/

namespace Sys2Proof.Machine

/-- A message type's virtual channel (R328). -/
def typeVc (t : Nat) : Option (Fin 8) :=
  if 1 ≤ t ∧ t ≤ 3 then some 0
  else if 0x10 ≤ t ∧ t ≤ 0x12 ∨ 0x18 ≤ t ∧ t ≤ 0x1F then some 1
  else if t = 0x20 then some 2
  else if t = 0x30 then some 3
  else if t = 0x40 ∨ t = 0x41 then some 4
  else if 0x50 ≤ t ∧ t ≤ 0x52 then some 5
  else if 0x60 ≤ t ∧ t ≤ 0x6F then some 6
  else if 0x70 ≤ t ∧ t ≤ 0x7F then some 7
  else none

/-- Whether a link's role receives a message type (R338, R347, R489, R492). -/
def roleTakes (role : Nat) (t : Nat) : Bool :=
  let inputs := t == 0x30 || decide (0x50 ≤ t ∧ t ≤ 0x52)
  match role with
  | 1 => inputs || t == 0x20
  | 3 => inputs || t == 1 || t == 2 || t == 0x10
  | 4 => t == 0x41
  | 5 => decide (0x18 ≤ t ∧ t ≤ 0x1A) || decide (0x60 ≤ t ∧ t ≤ 0x63) || decide (0x70 ≤ t ∧ t ≤ 0x75)
  | _ => false

/-- The receive-buffer credits of each channel (R331). -/
def vcCredits (vc : Fin 8) : Nat :=
  match vc with
  | 0 | 1 => 64
  | 2 => 1024
  | 3 | 4 => 256
  | 5 => 512
  | _ => 1024

/-- Bytes that a message of body length b occupies (R327, R355). -/
def msgBytes (b : Nat) : Nat := 8 * ceilDiv (4 + b) 8

/-- Credits that a message of body length b costs (R329). -/
def msgCredits (b : Nat) : Nat := ceilDiv (msgBytes b) 64

/-- A message as bytes (R327). -/
def msgEncode (type : Nat) (body : List Byte) : List Byte :=
  slice ([BitVec.ofNat 8 type, 0] ++ leBytes 2 body.length ++ body) 0 (msgBytes body.length)

/-- Active lanes of a mask, ascending (R294). -/
def lanesOf (mask : Nat) : List (Fin 4) := (List.finRange 4).filter (fun i => bitOf mask i.val)

/-- A mask of lanes. -/
def maskOf (l : List (Fin 4)) : Nat := ((List.finRange 4).map (fun i => if l.contains i then 2 ^ i.val else 0)).sum

/-- One step of the scrambler: its new state and the bit it adds (R295). -/
def lfsr (x : Nat) : Nat × Bool :=
  let f := bitOf x 30 != bitOf x 27
  ((2 * x + boolNat f) % 2 ^ 31, f)

/-- A lane's seed (R295). -/
def laneSeed (i : Fin 4) : Nat :=
  match i with
  | 0 => 0x1F2E3D4C
  | 1 => 0x2B3A4958
  | 2 => 0x3C4B5A69
  | 3 => 0x4D5C6B7A

/-- The scrambler advanced over a slice's bits k to 127, and the bits it adds to them (R295). -/
def keyBits : Nat → Nat → Nat → Nat × Nat
  | 0, _, x => (x, 0)
  | n + 1, k, x =>
    let r := lfsr x
    let rest := keyBits n (k + 1) r.1
    (rest.1, boolNat r.2 * 2 ^ k + rest.2)

/-- One data bit under the stuffing rule, the line bits kept newest first (R296). -/
def stuffBit (t : LineSt) (b : Bool) : LineSt :=
  let c := if b = t.prev then t.run + 1 else 1
  if c = 6 then { t with slot := (!b) :: b :: t.slot, prev := !b, run := 0, stuffed := t.stuffed + 1 }
  else { t with slot := b :: t.slot, prev := b, run := c }

/-- A slice's last n bits, least significant first. -/
def stuffBits : Nat → LineSt → BitVec 128 → LineSt
  | 0, t, _ => t
  | n + 1, t, w => stuffBits n (stuffBit t (w.getLsbD (127 - n))) w

/-- A slice or a training block on a lane; at the start of a slot c becomes min(c, 3) (R296). The receiver, which removes
what this adds, runs it in mirror on the data bits it keeps (R298). -/
def stuffSlice (t : LineSt) (w : BitVec 128) : LineSt := stuffBits 128 { t with run := min t.run 3, slot := [], stuffed := 0 } w

/-- `n` fill bits, each the complement of the bit before it (R297). -/
def fillBits : Nat → LineSt → LineSt
  | 0, t => t
  | n + 1, t => fillBits n { t with slot := (!t.prev) :: t.slot, prev := !t.prev, run := 0 }

/-- The stuffed bits of the longest lane of a slot (R297). -/
def mostStuffed (line : Vector LineSt 4) (lanes : List (Fin 4)) : Nat := (lanes.map (fun i => (vget line i).stuffed)).foldl max 0

/-- The slot ends: every active lane is filled to the longest (R297). -/
def endSlot (line : Vector LineSt 4) (lanes : List (Fin 4)) : Vector LineSt 4 :=
  let m := mostStuffed line lanes
  lanes.foldl (fun v i => vmod v i (fun t => fillBits (m - t.stuffed) t)) line

/-- A coder at the lanes' electrical idle (R296). -/
def Coder.idle (c : Coder) : Coder := { c with line := Vector.replicate 4 {}, pos := 0 }

/-- A coder at its lanes' seeds, before the first slice (R295). -/
def Coder.load (c : Coder) : Coder := { c with scram := Vector.ofFn laneSeed, pos := 0 }

/-- One slice dealt to the next lane in rank (R294, R295): the sender's is scrambled and stuffed, the receiver's (`rx`) is
read from the line and descrambled. The slice on the other side of the scrambler comes with it. -/
def Coder.slice (rx : Bool) (lanes : List (Fin 4)) (c : Coder) (w : BitVec 128) : Coder × BitVec 128 :=
  match lanes[c.pos]? with
  | none => (c, w)
  | some i =>
    let key := keyBits 128 0 (vget c.scram i)
    let out := w ^^^ BitVec.ofNat 128 key.2
    let line := vmod c.line i (fun t => stuffSlice t (if rx then w else out))
    let last := decide (c.pos + 1 = lanes.length)
    ({ scram := vset c.scram i key.1, line := if last then endSlot line lanes else line
       pos := if last then 0 else c.pos + 1 }, out)

/-- One line bit of a slot at the receiver, with the data bits so far, newest first, and the code violations: a bit after six
identical data bits, and one after the 128th data bit, is discarded, and is a violation when it equals the bit before (R298). -/
def readBit (a : LineSt × List Bool × Nat) (b : Bool) : LineSt × List Bool × Nat :=
  let t := a.1
  let bad := if b = t.prev then a.2.2 + 1 else a.2.2
  if t.run = 6 then ({ t with prev := !t.prev, run := 0, stuffed := t.stuffed + 1 }, a.2.1, bad)
  else if a.2.1.length < 128 then
    ({ t with prev := b, run := if b = t.prev then t.run + 1 else 1 }, b :: a.2.1, a.2.2)
  else ({ t with prev := !t.prev, run := 0 }, a.2.1, bad)

/-- A slot's line bits, oldest first, read by a lane (R298). -/
def readSlot (t : LineSt) (bits : List Bool) : LineSt × List Bool × Nat :=
  bits.foldl readBit ({ t with run := min t.run 3, slot := [], stuffed := 0 }, [], 0)

/-- The four slices of a flit (R294). -/
def flitSlices (f : BitVec 512) : List (BitVec 128) := (List.range 4).map (fun i => f.extractLsb' (128 * i) 128)

/-- A flit through a coder: its slices in order, and the flit on the other side (R294 to R298). -/
def Coder.flit (rx : Bool) (lanes : List (Fin 4)) (c : Coder) (f : BitVec 512) : Coder × BitVec 512 :=
  let r := (flitSlices f).foldl (fun (a : Coder × List (BitVec 128)) w =>
    let x := a.1.slice rx lanes w
    (x.1, a.2 ++ [x.2])) (c, [])
  (r.1, BitVec.ofNat 512 ((r.2.zipIdx.map (fun x => x.1.toNat * 2 ^ (128 * x.2))).sum))

/-- One unscrambled block of a lane on the line; the slot ends with the last lane's (R296, R297, R300). -/
def Coder.block (lanes : List (Fin 4)) (c : Coder) (lane : Fin 4) (b : BitVec 128) : Coder :=
  let line := vmod c.line lane (fun t => stuffSlice t b)
  let last := decide (lanes.length ≤ c.pos + 1)
  { c with line := if last then endSlot line lanes else line, pos := if last then 0 else c.pos + 1 }

/-- The link after the line bits of a flit are formed. -/
def Link.sendFlit (l : Link) (f : BitVec 512) : Link :=
  { l with txc := (l.txc.flit false (lanesOf l.txLanes) f).1, lastFlit := f }

/-- The flit that the received data bits hold, behind the descramblers (R295, R298). -/
def Link.descramble (l : Link) (bits : BitVec 512) : Link × BitVec 512 :=
  let r := l.rxc.flit true (lanesOf l.rxLanes) bits
  ({ l with rxc := r.1 }, r.2)

/-- The code violations of a flit's slots, counted by lane (R298). -/
def Link.violate (l : Link) (v : List (Fin 4 × Nat)) : Link :=
  { l with rx := v.foldl (fun a x => vmod a x.1 (fun r => { r with violations := satAdd 32 r.violations x.2 })) l.rx }

/-! ### Training blocks -/

/-- Own VERIFY has passed on every lane that the attempt needs (R300). -/
def Link.verified (l : Link) : List (Fin 4) := (lanesOf l.rxLanes).filter (fun n => decide (l.state = 5 ∧ 65536 ≤ (vget l.rx n).good))

/-- The capability word (R332, R335): version 2.0, the rates up to the target, lane degrade, RESUME and the receive
state. -/
def Link.capability (l : Link) : BitVec 32 :=
  BitVec.ofNat 32 (0x20 + (2 ^ (l.target + 1) - 1) * 0x100 + 0x800 + 0x1000 * boolNat l.resume + 0x10000 * l.x)

/-- The training block that a lane sends (R300); `code` is its state field. -/
def Link.ownBlock (l : Link) (code : Nat) (last : Bool) (lane : Fin 4) : BitVec 128 :=
  let ok := l.ownOk || decide (l.state = 5 ∧ l.verified.length = (lanesOf l.rxLanes).length)
  let w := 0xE41D + code * 2 ^ 16 + lane.val * 2 ^ 20 + l.attempt * 2 ^ 24 + l.txCount % 65536 * 2 ^ 32
    + (if l.ownOk then l.passed else maskOf l.verified) * 2 ^ 48 + boolNat last * 2 ^ 52 + boolNat ok * 2 ^ 53
    + (if l.state = 6 then l.capability.toNat else 0) * 2 ^ 64
  BitVec.ofNat 128 (w + crc16 ((List.range 14).map (fun i => BitVec.ofNat 8 (w / 2 ^ (8 * i)))) * 2 ^ 112)

/-- One slot of training blocks is sent on every active lane (R296, R297, R300). What it says counts: VERIFY_OK (R304), and
how long the own capability word has stood (R332). -/
def Link.sendBlocks (l : Link) (code : Nat) (last : Bool) : Link :=
  let lanes := lanesOf l.txLanes
  let ok := l.ownOk || decide (l.state = 5 ∧ l.verified.length = (lanesOf l.rxLanes).length)
  { l with
    txc := lanes.foldl (fun c i => c.block lanes i (l.ownBlock code last i)) l.txc, txCount := (l.txCount + 1) % 65536
    okSent := l.okSent || ok
    ownCap := if l.state = 6 then l.capability else l.ownCap
    capSent := if l.state = 6 then (if l.capability = l.ownCap then min 16 (l.capSent + 1) else 1) else l.capSent }

/-- The sixteen blocks that come before scrambled flits, LAST set on the last; then the scramblers stand at their seeds
(R295, R304, R310). -/
def Link.startFlits (l : Link) : Link :=
  let l1 := times (fun (a : Link) => a.sendBlocks 8 false) 15 { l with txc := { l.txc with pos := 0 } }
  let l2 := l1.sendBlocks 8 true
  { l2 with txc := l2.txc.load }

/-! ### The ladder -/

/-- The common rates, highest first (R305). -/
def Link.rateList (l : Link) : List Nat := [2, 1, 0].filter (fun r => bitOf l.rates r)

/-- Entries of the ladder: common rates from the highest, lane counts 4, 3, 2 (R305). -/
def Link.ladderLen (l : Link) : Nat := if l.degrade then 3 * l.rateList.length else l.rateList.length

/-- The lane count of an entry. -/
def Link.entryLanes (l : Link) (a : Nat) : Nat := 4 - a / l.rateList.length

/-- The rate of an entry. -/
def Link.entryRate (l : Link) (a : Nat) : Nat := l.rateList.getD (a % l.rateList.length) 0

/-- The entry of a setting. -/
def Link.entryOf (l : Link) (lanes rate : Nat) : Nat := (4 - lanes) * l.rateList.length + l.rateList.findIdx (· == rate)

/-- The lanes an entry keeps: the lowest-numbered that passed, or all where fewer passed than it needs (R305). -/
def keepLanes (need passed : Nat) : Nat :=
  let p := lanesOf passed
  if need = 4 ∨ p.length < need then 15 else maskOf (p.take need)

/-- The link begins an attempt at CLOCK_LOCK (R304, R305). -/
def Link.beginAttempt (l : Link) (a tick : Nat) : Link :=
  let need := l.entryLanes a
  { l with state := 2, attempt := a, rate := l.entryRate a, txLanes := keepLanes need l.txPassed
           rxLanes := keepLanes need l.passed, ckLock := false, ownOk := false, okSent := false, partnerOk := false, lastSeen := false
           passed := 0, since := tick, rx := l.rx.map (fun x => { x with good := 0, aligned := false, blocks := [] })
           rxc := l.rxc.idle, txc := { l.txc with pos := 0 } }

/-- A full training from DETECT at 6.4 Gbit/s on four lanes (R304). -/
def Link.fullTraining (l : Link) (tick : Nat) : Link :=
  { l with state := 1, rate := 0, txLanes := 15, rxLanes := 15, attempt := 0, rates := 1, degrade := true, retrain := false
           stepped := false, ckLock := false, ownOk := false, okSent := false, partnerOk := false, lastSeen := false, capCount := 0
           capSent := 0, version := 0, passed := 0, txPassed := 0, since := tick, test := none, txCount := 0
           rx := l.rx.map (fun x => { x with good := 0, aligned := false, blocks := [] }), rxc := l.rxc.idle, txc := { l.txc with pos := 0 } }

/-- The link goes DARK (R307). -/
def Link.goDark (l : Link) (tick : Nat) : Link :=
  { l with state := 10, txLanes := 0, rxLanes := 0, ckLock := false, since := tick, next := tick + l.wait * 800000000
           txc := l.txc.idle }

/-- Points that a scan has finished: each takes 2^k bits (R311). -/
def EyeScan.pointsAt (e : EyeScan) (rate tick : Nat) : Nat :=
  min 4096 ((tick - e.from_) * 5 / 4 * 64 * 2 ^ rate / (10 * 2 ^ e.k))

/-- A change of one link. -/
def State.setLink (s : State) (i : Fin 12) (l : Link) : State := { s with links := vset s.links i l }

/-- A running eye scan of a link is aborted: its completion reports EYE_ABORTED (R312). -/
def State.abortEye (s : State) (i : Fin 12) : State :=
  let l := vget s.links i
  match l.eye with
  | none => s
  | some e =>
    let n := e.pointsAt l.rate s.time.fclk
    let s1 := (s.setLink i { l with eye := none }).finishLong e.mb (.refuse 0x0705 (leBytes 4 n))
    s1.raise (s.ev (632 + i) 0x0715 [(1, e.lanes), (4, n), (2, 0x0705)])

/-- An ACTIVE or HELD_IDLE link starts a retrain from its last ACTIVE setting (R306). Causes: 0 CK; 1 flits; 2 replay;
3 partner; 4 host. -/
def State.retrain (s : State) (i : Fin 12) (cause : Nat) : State :=
  let l := vget s.links i
  if l.state = 8 ∨ l.state = 9 then
    let s1 := s.abortEye i
    let l1 := { vget s1.links i with retrain := true, retrains := satAdd 32 l.retrains 1, badRun := 0
                                     passed := l.lastRx, txPassed := l.lastTx }
    let l2 := l1.beginAttempt (l1.entryOf (lanesOf l.lastTx).length l.lastRate) s.time.fclk
    (s1.setLink i { l2 with txLanes := l.lastTx, rxLanes := l.lastRx }).raise (s.ev (632 + i) 0x0711 [(1, cause)])
  else s

/-- The lanes that passed VERIFY in an attempt that fails on the lanes named: none before VERIFY (R305). -/
def Link.passedBut (l : Link) (lanes : List (Fin 4)) : Nat :=
  if l.state = 5 then maskOf ((lanesOf l.rxLanes).filter (fun n => !lanes.contains n)) else l.passed

/-- The attempt in progress fails in its state; the failing lanes are named (R305, R307). -/
def State.failAttempt (s : State) (i : Fin 12) (lanes : List (Fin 4)) : State :=
  let l := vget s.links i
  let tick := s.time.fclk
  let l1 := { l with rx := lanes.foldl (fun v n => vmod v n (fun x => { x with failed := true })) l.rx }
  let failed := lanes.map (fun n => s.ev (512 + 4 * i + n) 0x0702 [(1, l.attempt), (1, l.state)])
  let next := l.attempt + 1
  if l.state = 1 ∨ l.ladderLen ≤ next then
    (s.setLink i (l1.goDark tick)).raiseAll
      (failed ++ evIf (decide (l.state ≠ 1)) (s.ev (632 + i) 0x0714 [(1, l.attempt), (1, next)])
        ++ [s.ev (632 + i) 0x0713 [(2, l.wait)]])
  else
    (s.setLink i ({ l1 with passed := l.passedBut lanes }.beginAttempt next tick)).raiseAll
      (failed ++ [s.ev (632 + i) 0x0714 [(1, l.attempt), (1, next)]])

/-- The link follows its partner to a higher entry (R305). In VERIFY the partner's receiver has failed lanes that it has not
reported as verified, and those transmit lanes are named (R318). -/
def State.followAttempt (s : State) (i : Fin 12) (attempt : Nat) : State :=
  let l := vget s.links i
  let failed := if l.state = 5 then (lanesOf l.txLanes).filter (fun n => !bitOf l.txPassed n.val) else []
  (s.setLink i ({ l with passed := l.passedBut [] }.beginAttempt attempt s.time.fclk)).raiseAll
    (failed.map (fun n => s.ev (560 + 4 * i + n) 0x0702 [(1, l.attempt), (1, l.state)]))

/-- The shortest time, in FCLK ticks, that a training state's limit lets pass (R304); VERIFY's blocks are counted at
their shortest. -/
def limitTicks (state rate : Nat) : Nat :=
  match state with
  | 1 => 80000000
  | 2 => 40000
  | 3 => 16000
  | 4 => 1600000
  | 5 => 1048576 / 2 ^ rate + 40000
  | 6 => 80000
  | _ => 0

/-- The longest time that the limit lets pass before the exit fails: VERIFY's blocks at 149 line bits each (R296, R304). -/
def limitMost (state rate : Nat) : Nat := if state = 5 then 1220608 / 2 ^ rate + 40000 else limitTicks state rate

/-- A training state's exit comes before its limit (R304). -/
def Link.inLimit (l : Link) (tick : Nat) : Bool := decide (tick < l.since + limitMost l.state l.rate)

/-- Line bits of a lane in a number of ticks (R291). -/
def bitsIn (ticks rate : Nat) : Nat := 8 * 2 ^ rate * ticks

/-- A lane's skew behind the earliest, in UI, at a block count that all the lanes of a set have received (R302). -/
def Link.skew (l : Link) (lanes : List (Fin 4)) (n : Fin 4) : Option Nat :=
  let at_ := fun (m : Fin 4) (c : Nat) => ((vget l.rx m).blocks.find? (fun b => b.1 == c)).map (·.2)
  match (vget l.rx n).blocks.find? (fun b => lanes.all (fun m => (at_ m b.1).isSome)) with
  | none => none
  | some b => some (bitsIn (b.2 - (lanes.filterMap (fun m => at_ m b.1)).foldl min b.2) l.rate)

/-- A lane aligns within the 256 UI that the receiver absorbs (R302). -/
def Link.aligns (l : Link) (lanes : List (Fin 4)) (n : Fin 4) : Bool := ((l.skew lanes n).map (fun k => decide (k ≤ 256))).getD false

/-- A transmit direction that is named as held idle: an understudy's egress and preview transmitters (R310, R506). -/
def State.heldIdle (s : State) (i : Fin 12) : Bool :=
  s.twin.role == 2 && (i == 10 || (vget s.links i).role == 2)

/-! ### Running adaptation -/

/-- A lane's present value, trained value and guard of a coefficient: 0 CTLE, 1 to 5 the taps, 6 the phase (R308). -/
def RxLane.coeff (x : RxLane) (c : Nat) : Int × Int × Nat :=
  if c = 0 then (x.now.ctle, x.trained.ctle, x.guards.getD 0 0)
  else if c = 6 then (x.now.phase, x.trained.phase, x.guards.getD 3 0)
  else (x.now.taps.getD (c - 1) 0, x.trained.taps.getD (c - 1) 0, x.guards.getD (if c = 1 then 1 else 2) 0)

/-- A lane with a coefficient's present value set. -/
def RxLane.setCoeff (x : RxLane) (c : Nat) (v : Int) : RxLane :=
  if c = 0 then { x with now := { x.now with ctle := v } }
  else if c = 6 then { x with now := { x.now with phase := v } }
  else { x with now := { x.now with taps := x.now.taps.set (c - 1) v } }

/-- Codes in their ranges: CTLE 0 to 31, taps signed 7 bits (R303). -/
def inCode (c : Nat) (v : Int) : Int := if c = 0 then clampInt v 0 31 else if c = 6 then v else clampInt v (-64) 63

/-- Trained codes in their ranges. -/
def codesIn (x : LaneCoeffs) : LaneCoeffs := { x with ctle := inCode 0 x.ctle, taps := x.taps.map (inCode 1) }

/-- A coefficient stands at an edge of its guard band (R309). -/
def RxLane.atEdge (x : RxLane) (c : Nat) : Bool :=
  let k := x.coeff c
  decide (0 < k.2.2 ∧ (k.1 = k.2.1 - k.2.2 ∨ k.1 = k.2.1 + k.2.2))

/-- A value asked for is held to the guard band; reaching an edge, at which `was` says it did not stand, sets DRIFT (R303, R308,
R309). The second part says that LANE_DRIFT is due. -/
def RxLane.adapt (x : RxLane) (c : Nat) (v : Int) (was : Bool) : RxLane × Bool :=
  let k := x.coeff c
  let y := x.setCoeff c (inCode c (clampInt v (k.2.1 - k.2.2) (k.2.1 + k.2.2)))
  let due := y.atEdge c && !was
  (if due then { y with drift := true } else y, due)

/-- One adaptation step of a link's lanes, with the LANE_DRIFT it is due. -/
def State.adaptStep (s : State) (i : Fin 12) (a : State) (n : Fin 4) (c : Nat) (v : Int) (was : Bool) : State :=
  let l := vget a.links i
  let r := (vget l.rx n).adapt c v was
  (a.setLink i { l with rx := vset l.rx n r.1 }).raiseAll
    (evIf r.2 (s.ev (512 + 4 * i + n) 0x0701 [(1, (c : Int)), (1, (r.1.coeff c).1), (1, (r.1.coeff c).2.1)]))

/-! ### Flits, retry and credits -/

/-- The bytes of a flit (R319). -/
def flitBytes (f : BitVec 512) : List Byte := (List.range 64).map (fun i => f.extractLsb' (8 * i) 8)

/-- A flit from its header fields and its 56 payload bytes (R319). -/
def mkFlit (seq ack vc : Nat) (data nak : Bool) (payload : List Byte) : BitVec 512 :=
  let h := seq + 4096 * ack + 2 ^ 24 * vc + 2 ^ 27 * boolNat data + 2 ^ 28 * boolNat nak
  let b := leBytes 4 h ++ slice payload 0 56
  BitVec.ofNat 512 (leNat (b ++ leBytes 4 (crc32c b)))

/-- A link takes an ACK (R322): the acknowledged flits leave the replay buffer. -/
def Link.takeAck (l : Link) (ack tick : Nat) : Link :=
  let d := (ack + 4096 - l.una) % 4096
  if (l.seq + 4096 - l.una) % 4096 < d then { l with protoErr := satAdd 32 l.protoErr 1 }
  else if d = 0 then l
  else
    { l with una := ack, replay := l.replay.drop d, ackTick := tick, replays4 := 0
             replayAt := l.replayAt.bind (fun p => if l.replay.drop d = [] then none else some (p - d)) }

/-- Four replays from the oldest unacknowledged flit have been made: another exhausts the replay (R324). -/
def Link.exhausted (l : Link) : Bool := decide (4 ≤ l.replays4 ∧ l.replayFrom = l.una)

/-- A replay begins at the oldest unacknowledged flit (R324). -/
def Link.startReplay (l : Link) (tick : Nat) : Link :=
  if l.replay = [] then l
  else
    { l with replayAt := some 0, replaysN := satAdd 32 l.replaysN 1, replayFrom := l.una, ackTick := tick
             replays4 := if l.replayFrom = l.una then l.replays4 + 1 else 1 }

/-- A NAK asks for a replay; one equal to a replay in progress is ignored (R324). -/
def Link.nakAsks (l : Link) (ack : Nat) : Bool := !(l.replayAt.isSome && l.replayFrom == ack) && l.una == ack && l.replay != []

/-- A NAK is taken (R324). -/
def Link.takeNak (l : Link) (ack tick : Nat) : Link := if l.nakAsks ack then l.startReplay tick else l

/-- The version carries a channel: VC6 and VC7 need 2.0 (R333). -/
def Link.carries (l : Link) (vc : Fin 8) : Bool := decide (vc.val < 6) || decide (0x20 ≤ l.version)

/-- The partner's credit grants are taken (R330, R333). -/
def Link.takeCredits (l : Link) (payload : List Byte) : Link :=
  ((List.finRange 8).filter l.carries).foldl (fun l vc =>
    let g := field payload (2 * vc.val) 2
    if (g + 65536 - vget l.held vc) % 65536 < 32768 ∧ (g + 65536 - vget l.spent vc) % 65536 ≤ 32767 then
      { l with held := vset l.held vc g, creditOk := vset l.creditOk vc true }
    else { l with protoErr := satAdd 32 l.protoErr 1 }) l

/-- The whole messages of a receive byte stream, and the rest (R327). -/
def splitMsgs : Nat → List Byte → List (Nat × List Byte) × List Byte
  | 0, bs => ([], bs)
  | n + 1, bs =>
    let len := field bs 2 2
    if bs.length < 4 ∨ bs.length < msgBytes len then ([], bs)
    else
      let r := splitMsgs n (bs.drop (msgBytes len))
      ((field bs 0 1, slice bs 4 len) :: r.1, r.2)

/-- One message delivered at a tick: PAD is dropped; its credits are freed; a wrong channel, or one that the version lacks, is
a protocol error; one outside the role is counted (R326 to R328, R331, R333, R338). The second part says that VC_UNEXPECTED is
due. -/
def Link.deliver (vc : Fin 8) (second tick : Nat) (a : Link × List (Nat × Nat)) (m : Nat × List Byte) : Link × List (Nat × Nat) :=
  if m.1 = 0 then a
  else
    let l := { a.1 with granted := vmod a.1.granted vc (fun g => (g + msgCredits m.2.length) % 65536) }
    if typeVc m.1 ≠ some vc ∨ l.carries vc = false then ({ l with protoErr := satAdd 32 l.protoErr 1 }, a.2)
    else if roleTakes l.role m.1 = false then
      let l := { l with unexpected := satAdd 32 l.unexpected 1 }
      if l.unexpAt = some second then (l, a.2) else ({ l with unexpAt := some second }, a.2 ++ [(m.1, l.unexpected)])
    else ({ l with inbox := vmod l.inbox vc (· ++ [⟨m.1, m.2, tick, l.role, l.tod⟩]) }, a.2)

/-- The receiver asks for a replay when no NAK is outstanding (R323). -/
def Link.askReplay (l : Link) : Link :=
  if l.nakOut then l else { l with nakOut := true, nakDue := true, naks := satAdd 32 l.naks 1 }

/-- The oldest message of a channel leaves the inbox when its handling begins. -/
def State.popInbox (s : State) (i : Fin 12) (vc : Fin 8) : State :=
  s.setLink i (let l := vget s.links i; { l with inbox := vmod l.inbox vc (·.drop 1) })

/-- A message queued for sending (R321). -/
def State.send (s : State) (i : Fin 12) (vc : Fin 8) (type : Nat) (body : List Byte) : State :=
  let l := vget s.links i
  if l.state = 8 ∨ 1 ≤ l.state ∧ l.state ≤ 7 then
    s.setLink i { l with txQueue := vmod l.txQueue vc (· ++ [(type, body)]) }
  else s

/-- Bytes of a channel for a flit: the message being sent, then new messages as credits allow (R321, R329). -/
def Link.gather (vc : Fin 8) : Nat → Link → Link
  | 0, l => l
  | n + 1, l =>
    if 56 ≤ (vget l.txBytes vc).length then l
    else
      match vget l.txQueue vc with
      | [] => l
      | (t, b) :: rest =>
        if msgCredits b.length ≤ (vget l.held vc + 65536 - vget l.spent vc) % 65536 ∧ vget l.creditOk vc = true then
          Link.gather vc n
            { l with txQueue := vset l.txQueue vc rest, txBytes := vmod l.txBytes vc (· ++ msgEncode t b)
                     spent := vmod l.spent vc (fun c => (c + msgCredits b.length) % 65536)
                     waitFrom := vset l.waitFrom vc none, starved := vset l.starved vc false }
        else l

/-- The channels in the order a DATA flit is picked (R321). -/
def Link.order (l : Link) : List (Fin 8) :=
  [1, 0] ++ (List.range 6).filterMap (fun k => finOf 8 (2 + (l.robin - 2 + k) % 6))

/-- A message of the channel waits for credits (R331). -/
def Link.noteWait (l : Link) (vc : Fin 8) (tick : Nat) : Link :=
  if vget l.txQueue vc ≠ [] ∧ vget l.txBytes vc = [] ∧ vget l.waitFrom vc = none then
    { l with waitFrom := vset l.waitFrom vc (some tick), waits := vmod l.waits vc (satAdd 32 · 1) }
  else l

/-- A link makes a fresh start (R336). -/
def Link.freshStart (l : Link) : Link :=
  { l with seq := 0, una := 0, x := 0, replay := [], replayAt := none, nakOut := false, nakDue := false, replays4 := 0
           rxBytes := Vector.replicate 8 [], txBytes := Vector.replicate 8 []
           granted := Vector.ofFn (fun vc => if l.carries vc then vcCredits vc else 0), held := Vector.replicate 8 0, spent := Vector.replicate 8 0
           creditOk := Vector.replicate 8 false, idleDue := true, fresh := satAdd 32 l.fresh 1 }

/-- The guaranteed payload of a direction, in units of 100 Mbit/s (R299): 0.75 × rate × lanes. -/
def payload100 (rate lanes : Nat) : Nat := 48 * 2 ^ rate * lanes

/-- The link of the session's route, while a session is open on VC0 (R315, R465). -/
def State.sessionLink (s : State) : Option Nat :=
  if s.host.sess.isSome ∧ 0 < s.host.sessRoute then some (s.host.sessRoute - 1) else none

end Sys2Proof.Machine
end

