-- ==== Sys2Proof/Machine/Paths.lean ====
section
/-! DEFINITION. The paths of a slot's cue program, which the path checks of admission walk (R46, R63, R77, R78, R168): a
path is a sequence of normal and floor blocks that the late checks can choose. Distances are sums of cue-word waits
(R46). -/

namespace Sys2Proof.Machine

/-- One issued cue word of a path. -/
structure Issue where
  time  : Nat          -- sum of the waits since the slot's first word
  early  : Nat         -- the earliest cycle, from the slot's start, at which it issues (R45, R67)
  latest : Nat         -- the latest one
  addr  : Nat
  ctu   : Nat
  row   : Nat
  block : Nat          -- 0 outside a block; 1 normal; 2 floor
  count : Nat          -- blocks begun before and with this word
  word  : CueWord
  deriving DecidableEq, Repr

/-- The sequencer as a walk sees it. -/
structure Walk where
  pc    : Nat
  calls : List Nat := []
  loops : List (Nat × Nat) := []
  ctu   : Nat := 0
  row   : Nat := 0
  time  : Nat := 0
  nom   : Nat := 0              -- cycle of the slot's cue timeline; it issues lateness cycles behind it (R45)
  floor : Bool := false
  lo    : Nat := 0              -- lateness lies in [lo, hi]
  hi    : Nat := 0
  block : Nat := 0
  depth : Nat := 0              -- calls open when the block began
  outer : List (Nat × Nat) := []  -- the blocks that have called this one's LATE, innermost first: block and depth
  turn  : Bool := false         -- the row ended in this block
  count : Nat := 0
  deriving DecidableEq, Repr

/-- A path: its issues in order, its length in waits, and whether it stays inside the limits of R65 and the cue words. -/
structure Trace where
  issues : List Issue
  total  : Nat
  ok     : Bool
  deriving DecidableEq, Repr

/-- The walk after the block of a LATE returns: lateness grows by at most Φ in a normal block and falls by b - 384 in a
floor block, whose place on the timeline is a normal block's (R45, R66). R29 bounds the freezes of a block; a word that
freezes outside every block raises the lateness by no bound that a rule gives, and the walk counts none there (DESIGN CHOICE,
notes/assumptions/73). -/
def Walk.leave (w : Walk) (s : Slot) (b : Nat) : Walk :=
  let o := w.outer.headD (0, 0)
  { w with ctu := if w.turn then 0 else w.ctu + 1, block := o.1, depth := o.2, outer := w.outer.drop 1, turn := false
           nom := if w.block = 2 then w.nom + (b - 384) else w.nom
           lo := if w.block = 2 then w.lo - (b - 384) else w.lo
           hi := if w.block = 2 then w.hi - (b - 384) else w.hi + s.phi }

/-- A walk enters the block that LATE calls. -/
def Walk.enter (w : Walk) (target : Nat) (floor : Bool) (ret lo hi : Nat) : Walk :=
  { w with pc := target, calls := ret :: w.calls, floor := floor, lo := lo, hi := hi, block := if floor then 2 else 1
           outer := if w.block = 0 then w.outer else (w.block, w.depth) :: w.outer
           depth := w.calls.length, count := w.count + 1 }

/-- What follows a control word (R64 to R67): the walks it can continue as; none where a limit of R65 is broken or an
address lies outside the cue words. An END gives no walk; a MARK leaves as lateness what its target was passed by. A LATE
inside a block calls a block of its own, which returns into the first. -/
def Walk.next (w : Walk) (t : EngineTab) (s : Slot) (b : Nat) (word : CueWord) : Option (List Walk) :=
  let d := t.sq.getD word.sq.2 {}
  let here := { w with pc := w.pc + 1 }
  let inside := fun a => decide (a < t.words.length)
  match word.sq.1 with
  | 1 => if w.calls.length < 8 ∧ inside d.target then some [{ here with pc := d.target, calls := here.pc :: w.calls }] else none
  | 2 =>
    match w.calls with
    | [] => none
    | a :: rest =>
      let w1 := { here with pc := a, calls := rest }
      some [if w.block ≠ 0 ∧ rest.length = w.depth then w1.leave s b else w1]
  | 3 => if w.loops.length < 4 ∧ inside here.pc then
        some [{ here with loops := ((if d.count = 0 then s.nCtu else d.count), here.pc) :: w.loops }] else none
  | 4 =>
    match w.loops with
    | [] => none
    | (n, a) :: rest => if 1 < n then some [{ here with pc := a, loops := (n - 1, a) :: rest }] else some [{ here with loops := rest }]
  | 5 =>
    if inside here.pc then some [{ here with lo := w.nom + w.lo - d.mark, hi := w.nom + w.hi - d.mark, nom := d.mark }] else none
  | 7 =>
    if w.calls.length < 8 ∧ inside d.target ∧ inside d.alt then
      let limit := if w.floor then s.thetaR else s.thetaF
      let hi := if w.block = 1 then w.hi + s.phi else w.hi
      let normal := if w.lo < limit then [here.enter d.target false here.pc w.lo (min hi (limit - 1))] else []
      let floor := if limit ≤ hi then [here.enter d.alt true here.pc (max w.lo limit) hi] else []
      some (normal ++ floor)
    else none
  | 8 => some []
  | _ => if inside here.pc then some [here] else none

/-- The paths from a walk. Each word waits at least one cycle, so a path of a slot that fits issues fewer words than its
duration has cycles; a longer one is not ok. -/
def paths (t : EngineTab) (s : Slot) (b : Nat) : Nat → Walk → List Issue → List Trace
  | 0, w, acc => [⟨acc.reverse, w.time, false⟩]
  | n + 1, w, acc =>
    match t.words[w.pc]? with
    | none => [⟨acc.reverse, w.time, false⟩]
    | some word =>
      -- BN.EOS advances the row index of a frame-shared program (R73)
      let eos := (word.units.getD 10 (0, 0)).1 == 4
      let acc := ⟨w.time, w.nom + w.lo, w.nom + w.hi + (if w.block = 1 then s.phi else 0), w.pc, w.ctu, w.row, w.block, w.count, word⟩ :: acc
      let w1 := { w with time := w.time + word.wait, nom := w.nom + word.wait }
      let w2 := if eos ∧ t.kind = 2 then
          { w1 with row := w.row + 1, ctu := if w.block = 0 then 0 else w.ctu, turn := decide (w.block ≠ 0) } else w1
      match w2.next t s b word with
      | none => [⟨acc.reverse, w2.time, false⟩]
      | some [] => [⟨acc.reverse, w2.time, word.sq.1 == 8⟩]
      | some ws => ws.flatMap (fun x => paths t s b n x acc)

/-- The chroma class of a slot's program, as b (R69). -/
def EngineTab.slotB (t : EngineTab) (s : Slot) : Nat := if (t.programs.getD s.program {}).chroma = 1 then 8192 else 6144

/-- The paths of a slot (R68). -/
def EngineTab.slotPaths (t : EngineTab) (s : Slot) : List Trace :=
  paths t s (t.slotB s) (s.duration + 1) { pc := (t.programs.getD s.program {}).entry, row := s.row } []

/-- The path of normal blocks only (R69). -/
def EngineTab.normalPath (t : EngineTab) (s : Slot) : Option Trace :=
  (t.slotPaths s).find? (fun p => p.issues.all (fun i => i.block ≠ 2))

/-- A path followed by one of the next slot, which starts `gap` cycles after the first's: the sum of waits goes on (R46), and
the cycles count from the first slot's start. -/
def Trace.then_ (a b : Trace) (gap : Nat) : List Issue :=
  a.issues ++ b.issues.map (fun i => { i with
    time := i.time + a.total, early := i.early + gap, latest := i.latest + gap, count := i.count + 1000000 })

/-- The least number of cycles from one issue of a path to a later one: the waits between them, or more where a MARK, a floor
block's idling or the next slot's offset holds the later one (R45, R67, R68). -/
def Issue.gap (i j : Issue) : Nat := max (j.time - i.time) (j.early - i.latest)

/-- Time of a slot's start after another's, in the engine's shortest cycle. -/
def EngineTab.after (t : EngineTab) (a b : Slot) : Nat := if a.offset < b.offset then b.offset - a.offset else b.offset + t.cMin - a.offset

/-! ### Operations -/

/-- The operation of unit u in a word: opcode and operand, 0 = NOP. -/
def CueWord.op (w : CueWord) (u : Nat) : Nat × Nat := w.units.getD u (0, 0)

/-- The opcodes defined for a slot (R64, R75). -/
def opcodes (u : Nat) : Nat :=
  match u with
  | 0 => 3
  | 1 => 2
  | 5 | 6 | 7 | 8 | 9 => 2
  | 10 => 4
  | _ => 1

/-- Latency and occupancy of an operation (R75), 1.5 times in 4:4:4 where R76 says so. -/
def opTiming (u op chroma : Nat) : Nat × Nat :=
  let slow := fun (x : Nat × Nat) => if chroma = 1 then (x.1 * 3 / 2, x.2 * 3 / 2) else x
  match u, op with
  | 0, 1 => slow (96, 64)
  | 0, 2 => slow (96, 64)
  | 0, _ => (128, 128)
  | 1, 1 => (64, 64)
  | 1, _ => (32, 64)
  | 2, _ => (480, 480)
  | 3, _ => (224, 256)
  | 4, _ => slow (256, 256)
  | 5, 1 => (160, 128)
  | 5, _ => (32, 32)
  | 6, 1 => slow (224, 224)
  | 6, _ => (96, 96)
  | 7, 1 => slow (160, 160)
  | 7, _ => (64, 64)
  | 8, 1 => slow (192, 128)
  | 8, _ => slow (96, 64)
  | 9, 1 => slow (224, 192)
  | 9, _ => (49152, 0)
  | 10, 1 => slow (128, 128)
  | 10, 2 => (64, 64)
  | 10, 3 => (96, 96)
  | 10, _ => (32, 32)
  | 11, _ => slow (128, 96)
  | 13, _ => (64, 8)
  | _, _ => (0, 8)

/-- The tags that a word's operations consume (R74). -/
def EngineTab.consumed (t : EngineTab) (w : CueWord) : List Nat :=
  (List.range 12).flatMap (fun u => if (w.op u).1 = 0 then [] else (((t.units.getD u []).getD (w.op u).2 {}).tags))

/-- The tag that CHG reads the record under: the tag of the engine's first class 4 DR descriptor into the record store
(R89, notes/assumptions/31). -/
def EngineTab.recordTag (t : EngineTab) : Option Nat := (t.dr.find? (fun d => d.cls == 4 && d.dest == 5)).map (·.tag)

/-- The tag that a word issues a read under: DR.RD's, and CHG's. -/
def EngineTab.issued (t : EngineTab) (w : CueWord) : List Nat :=
  (if (w.op 12).1 = 1 then [(t.dr.getD (w.op 12).2 {}).tag] else []) ++ (if w.sq.1 = 6 then t.recordTag.toList else [])

/-! ### Checks over issues -/

/-- The DMA leads of a path: for each read, the waits to the first word that consumes its tag before a reissue (R46);
each with the time of the consumer. -/
def leads (t : EngineTab) : List Issue → List (Nat × Nat)
  | [] => []
  | i :: rest =>
    (t.issued i.word).filterMap (fun tag =>
      match rest.find? (fun j => (t.consumed j.word).contains tag || (t.issued j.word).contains tag) with
      | some j => if (t.consumed j.word).contains tag then some (j.time - i.time, j.time) else none
      | none => none) ++ leads t rest

/-- No operation reaches a unit before its previous one's occupancy (R63). -/
def occupancyOk (chroma : Nat) : List Issue → Bool
  | [] => true
  | i :: rest =>
    (List.range 14).all (fun u =>
      (i.word.op u).1 == 0 ||
        (match rest.find? (fun j => (j.word.op u).1 != 0) with
         | some j => decide ((opTiming u (i.word.op u).1 chroma).2 ≤ i.gap j)
         | none => true)) && occupancyOk chroma rest

/-- The same across the start of the next slot, which begins `gap` cycles after the first (R63, R68). -/
def occupancyNext (chroma gap : Nat) (a b : List Issue) : Bool :=
  (List.range 14).all (fun u =>
    match a.reverse.find? (fun i => (i.word.op u).1 != 0), b.find? (fun j => (j.word.op u).1 != 0) with
    | some i, some j => decide (i.latest + (opTiming u (i.word.op u).1 chroma).2 ≤ gap + j.early)
    | _, _ => true)

/-- The quad that a descriptor's parameters name. R74 lists quad x and quad y without their places: they are taken to be
the bytes 0x0C and 0x0D, each modulo 4, for every unit (DESIGN CHOICE, notes/assumptions/63). -/
def UnitDesc.quad (d : UnitDesc) : Nat := (d.params.getD 0 0).toNat % 4 + 4 * ((d.params.getD 1 0).toNat % 4)

/-- The quad that an operation of a unit works on. -/
def EngineTab.quadOf (t : EngineTab) (i : Issue) (u : Nat) : Nat := ((t.units.getD u []).getD (i.word.op u).2 {}).quad

/-- The units and opcodes whose result of a quad a quad operation reads: alternatives, the nearest first (R60, R75; the order
of R62's example). -/
def sourcesOf (u op : Nat) : List (List (Nat × Nat)) :=
  match u, op with
  | 3, 1 | 4, 1 => [[(0, 1), (0, 2)]]
  | 5, 1 => [[(3, 1)], [(4, 1)]]
  | 6, 1 => [[(5, 1)]]
  | 7, 1 | 10, 1 => [[(6, 1)]]
  | 8, 1 => [[(7, 1)]]
  | 8, 2 => [[(8, 1)]]
  | 9, 1 => [[(8, 2), (8, 1)]]
  | 11, 1 => [[(9, 1), (8, 2), (8, 1), (7, 1)]]
  | _, _ => []

/-- BK2 for a consumer: `past` are the issues before it, newest first, and `rest` those after it. Of the results that it reads,
each was ready, and its producer has not come to another quad of the same half, in the consumer's own word either; a result
that its block has still to produce has not been ready (R78). -/
def resultsOk (t : EngineTab) (chroma : Nat) (past : List Issue) (j : Issue) (rest : List Issue) : Bool :=
  (List.range 12).all (fun u =>
    let q := t.quadOf j u
    (sourcesOf u (j.word.op u).1).all (fun from_ =>
      let mine := past.filter (fun i => i.count == j.count)
      let does := fun (x : Nat × Nat) (i : Issue) => (i.word.op x.1).1 == x.2
      let makes := fun (x : Nat × Nat) (i : Issue) => does x i && t.quadOf i x.1 == q
      match from_.find? (fun x => mine.any (makes x)) with
      | none => !(from_.any (fun x => ((j :: rest).filter (fun i => i.count == j.count)).any (makes x)))
      | some x =>
        !(does x j && t.quadOf j x.1 % 2 == q % 2 && t.quadOf j x.1 != q) &&
        (match (mine.filter (does x)).find? (fun i => t.quadOf i x.1 % 2 == q % 2) with
        | some i => t.quadOf i x.1 == q && decide ((opTiming x.1 x.2 chroma).1 ≤ i.gap j)
        | none => true)))

/-- BK2 on a path (R78). -/
def buffersOk (t : EngineTab) (chroma : Nat) : List Issue → List Issue → Bool
  | _, [] => true
  | past, j :: rest => resultsOk t chroma past j rest && buffersOk t chroma (j :: past) rest

/-- BK3: landing regions of tags in flight do not overlap, and lie in the 128 KiB buffer (R78, R97). A tag is in flight from
its issue to its last consumer before its reissue. -/
def landingOk (t : EngineTab) : List Issue → Bool
  | [] => true
  | i :: rest =>
    let d := t.dr.getD (i.word.op 12).2 {}
    ((i.word.op 12).1 != 1 || d.dest != 0 ||
      decide (d.destAddr + 64 * d.length ≤ 131072) && (let life := rest.takeWhile (fun j => !(t.issued j.word).contains d.tag)
       let uses := life.zipIdx.filter (fun x => (t.consumed x.1.word).contains d.tag)
       let last := (uses.getLast?.map (·.2)).getD 0
       (life.take last).all (fun j =>
         let k := t.dr.getD (j.word.op 12).2 {}
         (j.word.op 12).1 != 1 || k.dest != 0 || k.tag == d.tag
           || decide (k.destAddr + 64 * k.length ≤ d.destAddr) || decide (d.destAddr + 64 * d.length ≤ k.destAddr))))
      && landingOk t rest

/-- The fine set that a search-cache address lies in (R161). -/
def fineSet (chroma addr : Nat) : Option Nat :=
  let s0 := 0x24200
  let s1 := if chroma = 1 then 0x30600 else 0x2C8C0
  let size := s1 - s0
  if s0 ≤ addr ∧ addr < s1 then some 0 else if s1 ≤ addr ∧ addr < s1 + size then some 1 else none

/-- The level of a fine set's address: 0 the 1/2 level, 1 full-resolution (R161). -/
def fineLevel (chroma addr : Nat) : Nat :=
  if (addr - 0x24200) % ((if chroma = 1 then 0x30600 else 0x2C8C0) - 0x24200) < 3136 then 0 else 1

/-- Parity of a CTU's index within its slot, of an issue in its block (R161). -/
def Issue.parity (i : Issue) : Nat := (i.count + 1) % 2

/-- BK4: between a fine-window read's issue and its first consumer, and within the 256 cycles before the issue, no MF
operation reads its set (R78, R161). -/
def searchOk (t : EngineTab) (chroma : Nat) : List Issue → Bool
  | [] => true
  | i :: rest =>
    let d := t.dr.getD (i.word.op 12).2 {}
    ((i.word.op 3).1 == 0 || (rest.takeWhile (fun j => decide (i.gap j < 256))).all (fun j =>
        let k := t.dr.getD (j.word.op 12).2 {}
        (j.word.op 12).1 != 1 || !(k.dest == 1 || k.dest == 2) || fineSet chroma k.destAddr != some i.parity))
    && ((i.word.op 12).1 != 1 || !(d.dest == 1 || d.dest == 2) ||
      (match fineSet chroma d.destAddr with
       | none => true
       | some set =>
         (rest.takeWhile (fun j => !(t.consumed j.word).contains d.tag)).all (fun j =>
           (j.word.op 3).1 == 0 || j.parity != set))) && searchOk t chroma rest

/-- BK6: no operation addresses the incoming record-store half before the first LATE of the slot (R78). -/
def recordOk (t : EngineTab) (p : Trace) : Bool :=
  (p.issues.takeWhile (fun i => i.word.sq.1 != 7)).all (fun i =>
    ((i.word.op 12).1 == 0 || (t.dr.getD (i.word.op 12).2 {}).dest != 5 || i.word.sq.1 == 6)
      && ((i.word.op 13).1 == 0 || (t.dw.getD (i.word.op 13).2 {}).dest != 5 || i.word.sq.1 == 6))

/-! ### Coarse column fills -/

/-- Bytes of a CTU's CRF and levels. -/
def ctuBytes (chroma : Nat) : Nat := ctuReservation chroma + 1280

/-- Byte offset of the 1/4-level plane in a tile's part. -/
def Ctx.quarterPlane (c : Ctx) (t : Nat) : Nat := c.tileW t * c.rows * ctuReservation c.chroma

/-- Byte offset of the 1/2-level plane. -/
def Ctx.halfPlane (c : Ctx) (t : Nat) : Nat := c.quarterPlane t + c.tileW t * c.rows * 256

/-- The first row of a coarse column for CTU row k (R152). -/
def columnRow (rows k : Nat) : Nat := min (k - 8) (rows - 17)

/-- What a coarse column fill brings (R152): the picture column, which may lie outside the picture, and the CTU row that it
serves. Its descriptor's offset, from the tile's part of the buffer, is that of the column's block in row k − 8, before the
hardware clamps the first row: a fill for the next row lies one block further (notes/assumptions/35). -/
def fillPlace (c : Ctx) (t ctu row : Nat) (d : DrDesc) : Int × Nat :=
  let m : Int := (d.offset + ctu * d.strideCtu + row * d.strideRow - c.quarterPlane t : Int) / 256 + 8 - row
  (c.tileX t + m / c.rows, row + (m % c.rows).toNat)

/-- A read is a coarse column fill (R152, R161). -/
def DrDesc.isFill (d : DrDesc) : Bool := d.cls == 1 && (d.dest == 1 || d.dest == 2) && Nat.blt d.destAddr 0x24200

/-- What a fill has brought, or a search reads: a picture column, and the first of the CTU rows (R152). -/
structure ColUse where
  col  : Int
  row  : Nat
  at_  : Issue
  deriving DecidableEq, Repr

/-- A search reads a held column: one within 16 of its own, from the same first row (R152). -/
def ColUse.reads (m h : ColUse) : Bool := decide (m.col - 16 ≤ h.col) && decide (h.col ≤ m.col + 16) && m.row == h.row

/-- The columns that a path's coarse windows hold, at 64 × cache + slot, and the searches so far. -/
structure FillWalk where
  held : Cells (Option ColUse) := []
  seen : List ColUse := []
  ok   : Bool := true
  deriving DecidableEq, Repr

/-- The search of an issue's MC operation: of the CTU after the one in work, in its slot (R160). -/
def Ctx.searchAt (c : Ctx) (tile : Nat) (i : Issue) : Option ColUse :=
  let one := fun (x k : Nat) => some ⟨(c.tileX tile + x : Nat), columnRow c.rows k, i⟩
  if (i.word.op 2).1 = 0 then none
  else if i.ctu + 1 < c.tileW tile then one (i.ctu + 1) i.row
  else if c.mode = 1 ∧ i.row + 1 < c.rows then one 0 (i.row + 1)
  else none

/-- R153 at one issue: an MC operation reads columns that were filled 2,400 cycles ago; a fill replaces no column that an MC
operation reads in the 480 cycles before it. A fill outside the picture takes no slot (R152). -/
def FillWalk.step (t : EngineTab) (c : Ctx) (tile : Nat) (w : FillWalk) (i : Issue) : FillWalk :=
  let w1 := match c.searchAt tile i with
    | none => w
    | some m => { w with
        seen := m :: w.seen
        ok := w.ok && w.held.all (fun y => match y.2 with | some h => !m.reads h || decide (2400 ≤ h.at_.gap i) | none => true) }
  let d := t.dr.getD (i.word.op 12).2 {}
  let p := fillPlace c tile i.ctu i.row d
  if (i.word.op 12).1 ≠ 1 ∨ d.isFill = false ∨ p.1 < 0 ∨ (c.cols : Int) ≤ p.1 then w1
  else
    let key := 64 * (d.dest - 1) + d.destAddr / 4352
    let free := match cget none w1.held key with
      | some h => w1.seen.all (fun m => !m.reads h || decide (480 ≤ m.at_.gap i))
      | none => true
    { w1 with held := cset none w1.held key (some ⟨p.1, columnRow c.rows p.2, i⟩), ok := w1.ok && free }

/-- R153 on a path of one context's tile. -/
def fillsOk (t : EngineTab) (c : Ctx) (tile : Nat) (is : List Issue) : Bool := (is.foldl (FillWalk.step t c tile) {}).ok

/-- BOX_ORDER: the first MD operation of each block issues after the last BN result of the block before (R168). -/
def boxOrderOk (chroma : Nat) (is : List Issue) : Bool :=
  is.all (fun i => i.block == 0 || (i.word.op 5).1 == 0
    || is.any (fun j => j.count == i.count && (j.word.op 5).1 != 0 && decide (j.time < i.time))
    || is.all (fun j => !(j.count + 1 == i.count) || (j.word.op 10).1 == 0
        || decide ((opTiming 10 (j.word.op 10).1 chroma).1 ≤ j.gap i)))

/-- BOX_ORDER across the start of the next slot, `gap` cycles after the first's: the first MD operation of its first block
issues after the last BN result of the slot before (R168). -/
def boxOrderNext (chroma gap : Nat) (a b : List Issue) : Bool :=
  match b.find? (fun i => i.block != 0 && (i.word.op 5).1 != 0) with
  | none => true
  | some i => a.all (fun j => (j.word.op 10).1 == 0 || decide (j.latest + (opTiming 10 (j.word.op 10).1 chroma).1 ≤ gap + i.early))

/-- Pairs of consecutive slots of an engine, the last with the first of the next cycle. -/
def EngineTab.slotPairs (t : EngineTab) : List (Slot × Slot) := t.slots.zip (t.slots.drop 1 ++ t.slots.take 1)

/-- The issues of every pair of consecutive slots' paths. -/
def EngineTab.pairPaths (t : EngineTab) (x : Slot × Slot) : List (Trace × Trace) :=
  (t.slotPaths x.1).flatMap (fun a => (t.slotPaths x.2).map (fun b => (a, b)))

/-- The least DMA lead of a slot: of the reads whose consumer the slot holds, on any path (R43, R46). -/
def EngineTab.minLead (t : EngineTab) (x : Slot × Slot) : Option Nat :=
  ((t.pairPaths x).flatMap (fun p =>
    (leads t (p.1.then_ p.2 (t.after x.1 x.2))).filterMap (fun l => if p.1.total ≤ l.2 then some l.1 else none))).min?

end Sys2Proof.Machine
end

