-- ==== Sys2Proof/Machine/Production.lean ====
section
/-! DEFINITION. The production image (R36 to R40): its directory, the form check IMAGE_FORMAT (R584), and the decoding
of every section of R38 into the entries of Machine/StProduction.lean. -/

namespace Sys2Proof.Machine

/-- A section directory entry (R37). -/
structure Sect where
  type   : Nat
  index  : Nat
  offset : Nat
  size   : Nat
  crc    : Nat
  deriving DecidableEq, Repr

/-- `n` entries of `size` bytes from place `o`. -/
def entriesAt (bs : List Byte) (o size n : Nat) : List (List Byte) := (List.range n).map (fun i => slice bs (o + size * i) size)

/-- The section directory (R37). -/
def directory (img : List Byte) : List Sect :=
  (entriesAt img (field img 0x28 4) 16 (field img 0x0C 4)).map (fun e =>
    ⟨field e 0 2, field e 2 2, field e 4 4, field e 8 4, field e 12 4⟩)

/-- A section's bytes. -/
def Sect.bytes (img : List Byte) (d : Sect) : List Byte := (img.drop d.offset).take d.size

/-- The bytes of the section of a type and index; none present reads as empty. -/
def sectionOf (img : List Byte) (dir : List Sect) (type index : Nat) : List Byte :=
  match dir.find? (fun d => d.type == type && d.index == index) with
  | none => []
  | some d => d.bytes img

/-- Entries of `size` bytes that fill a section without a header. -/
def wholeEntries (bs : List Byte) (size : Nat) : List (List Byte) := entriesAt bs 0 size (bs.length / size)

/-! ### Entries -/

/-- The production descriptor (R39). -/
def parseDescr (b : List Byte) : Descr :=
  ⟨field b 0 2, field b 2 2, field b 4 2, field b 6 1, field b 7 1, field b 8 1, field b 9 1, field b 10 1, field b 11 1,
    field b 12 4, field b 16 1⟩

/-- A context-table entry (R40); a 1.0 image's last two fields read as 0 (R41). -/
def parseCtx (minor : Nat) (b : List Byte) : Ctx :=
  ⟨field b 0 2, field b 2 2, field b 4 1, field b 5 1, field b 6 1, field b 8 2, field b 10 2, field b 12 2, field b 14 2,
    field b 0x10 4, field b 0x14 4, field b 0x18 4, field b 0x1C 4, field b 0x20 4, field b 0x24 4, field b 0x28 4,
    field b 0x2C 4, if minor = 0 then 0 else field b 0x30 4, if minor = 0 then 0 else field b 0x34 4⟩

/-- A source entry (R342). -/
def parseSource (b : List Byte) : Source :=
  ⟨field b 0 2, field b 2 1, field b 3 1, (List.range 4).map (fun i => field b (4 + i) 1),
    (List.range 4).map (fun i => field b (8 + 2 * i) 2), field b 0x10 2, field b 0x12 2, field b 0x14 2, field b 0x18 4,
    field b 0x1C 4, field b 0x20 4⟩

/-- A link-channel entry (R342). -/
def parseChan (b : List Byte) : Chan := ⟨field b 0 2, field b 2 1, field b 3 1⟩

/-- A slot entry (R43). -/
def parseSlot (b : List Byte) : Slot :=
  ⟨field b 0 2, field b 2 2, field b 4 4, field b 8 4, field b 12 4, bitOf (field b 0x10 1) 0, bitOf (field b 0x10 1) 1,
    field b 0x11 1, field b 0x12 2, field b 0x14 4, field b 0x18 4, field b 0x1C 4, field b 0x20 4, field b 0x24 4⟩

/-- A cue program directory entry (R69). -/
def parseProgram (b : List Byte) : Program :=
  ⟨field b 0 2, field b 2 1, field b 3 1, field b 4 4, field b 8 4, field b 12 4, field b 0x10 4, field b 0x14 4⟩

/-- A cue word (R61). -/
def parseWord (b : List Byte) : CueWord :=
  let op := fun o => let x := field b o 2; (x / 1024, x % 1024)
  ⟨field b 30 2, op 28, (List.range 14).map (fun u => op (2 * u))⟩

/-- A data-path unit descriptor (R74). -/
def parseUnit (b : List Byte) : UnitDesc :=
  ⟨((List.range 4).map (fun i => field b i 1)).filter (fun t => t != 0xFF), field b 4 4, field b 8 4, slice b 12 20⟩

/-- A DR or DW descriptor (R73). -/
def parseDr (b : List Byte) : DrDesc :=
  ⟨field b 0 1, field b 1 1, field b 2 2, field b 4 1, field b 5 1, field b 8 8, field b 0x10 4, field b 0x14 4, field b 0x18 4⟩

/-- A sequencer descriptor (R72). -/
def parseSq (b : List Byte) : SqDesc := ⟨field b 0 4, field b 4 4, field b 8 4, field b 12 4⟩

/-- The descriptor count of table t (R71). -/
def unitCount (b : List Byte) (t : Nat) : Nat := field b (4 * t) 4

/-- The entries of descriptor table t (R71). -/
def unitTable (b : List Byte) (t : Nat) : List (List Byte) :=
  entriesAt b (64 + 32 * ((List.range t).map (unitCount b)).sum) 32 (unitCount b t)

/-- One engine's tables from its four sections (R42, R43, R69 to R73). -/
def parseEngine (ro dir words units : List Byte) : EngineTab :=
  { kind := field ro 1 1, family := field ro 2 1, cycleNum := field ro 8 4, cycleDen := field ro 12 4, cycleMin := field ro 16 4
    guard := field ro 20 4
    slots := (entriesAt ro 32 40 (field ro 4 4)).map parseSlot
    programs := (wholeEntries dir 32).map parseProgram
    words := (wholeEntries words 32).map parseWord
    units := (List.range 12).map (fun t => (unitTable units t).map parseUnit)
    dr := (unitTable units 12).map parseDr
    dw := (unitTable units 13).map parseDr
    sq := (unitTable units 14).map parseSq }

/-- A coding entry (R137) with its templates. -/
def parseCoding (sec b : List Byte) : Coding :=
  { codec := field b 2 1, profile := field b 3 1, tier := field b 4 1, level := field b 5 1, bitDepth := field b 6 1
    structure_ := field b 7 1, tileCols := field b 8 1, tools := field b 12 4, bandB := field b 16 2, sweepN := field b 18 2
    period := field b 20 2, psRepeat := field b 22 2, lossInv := field b 24 1
    colour := (List.range 7).map (fun i => field b (25 + i) 1)
    raw := b
    templates := (List.range 8).map (fun i => slice sec (field b (0x40 + 8 * i) 4) (field b (0x44 + 8 * i) 4)) }

/-- A box office entry (R174). -/
def parseBox (b : List Byte) : BoxEntry :=
  { mode := field b 2 1, schedCount := field b 3 1, schedInit := field b 4 1, qpLoMin := signed8 (field b 5 1)
    qpHiMax := field b 6 1, qpLoInit := signed8 (field b 7 1), qpHiInit := field b 8 1, qpConst := signed8 (field b 9 1)
    hwStep := field b 10 1, tickDiv := field b 11 1, duInc := field b 12 2, lambda := field b 14 2, hwBins := field b 16 4
    rAvgInit := field b 20 4, rAvgMin := field b 24 4, lxInit := leSigned (slice b 28 2), fRow := field b 30 2
    scheds := (List.range (min 4 (field b 3 1))).map (fun i => (field b (0x20 + 8 * i) 4, field b (0x24 + 8 * i) 4)) }

/-- A λ table (R175). -/
def parseLambda (b : List Byte) : List (Nat × Nat × Nat) :=
  (entriesAt b 0 8 76).map (fun e => (field e 0 2, field e 2 2, field e 4 2))

/-- Four 2-byte fields as a rectangle. -/
def parseRect (b : List Byte) (o : Nat) : Rect := ⟨field b o 2, field b (o + 2) 2, field b (o + 4) 2, field b (o + 6) 2⟩

/-- A layer entry (R195). -/
def parseLayer (b : List Byte) : Layer :=
  let f := bitOf (field b 2 1)
  { kind := field b 0 1, z := field b 1 1, opaque_ := f 0, premult := f 1, argb2 := f 2, m2020 := f 3, srcFull := f 4
    source := field b 4 2, opacity := field b 6 2, dst := parseRect b 8, src := parseRect b 16, fill := field b 24 4
    stepMin := field b 28 4, stepMax := field b 32 4, spanMax := field b 36 2, stale := field b 38 2, env := parseRect b 40 }

/-- A layer set (R194). -/
def parseSet (b : List Byte) : LayerSet :=
  ⟨bitOf (field b 2 1) 0, bitOf (field b 2 1) 1, field b 3 1, field b 4 2, field b 8 4,
    (entriesAt b 16 64 8).map parseLayer⟩

/-- An audio port entry (R234). -/
def parseAPort (b : List Byte) : APort :=
  ⟨field b 1 1, field b 2 1, bitOf (field b 3 1) 0, bitOf (field b 3 1) 1, field b 4 2⟩

/-- A stream entry (R259). -/
def parseStrm (b : List Byte) : Strm :=
  { kind := field b 2 1, priority := field b 3 1, queue := field b 4 2, owner := field b 6 2, ssrc := field b 8 4
    payload := field b 12 1, rtp := bitOf (field b 13 1) 0, fixedSize := bitOf (field b 13 1) 1, maxPacket := field b 14 2
    fixed := field b 16 2, startSeq := field b 18 2, pidVideo := field b 20 2, pidPmt := field b 22 2, program := field b 24 2
    delay := field b 28 4, evBase := field b 32 4, evCount := field b 36 4 }

/-- A queue entry (R270). -/
def parseQueue (b : List Byte) : QEntry :=
  ⟨field b 0 2, field b 2 1 != 0, field b 3 1, field b 4 2, field b 8 8, field b 16 4, field b 20 4, field b 24 4⟩

/-- A scheduler entry (R283). -/
def parseSched (b : List Byte) : SchedEntry :=
  ⟨field b 0 2, field b 2 1, field b 3 1, field b 4 2, field b 8 4, field b 12 4, field b 16 4, field b 20 4⟩

/-- The production of an image whose form is right (R36 to R40). -/
def parseImage (img : List Byte) : Production :=
  let dir := directory img
  let sec := fun t => sectionOf img dir t 0
  let minor := field img 5 1
  let d := parseDescr (sec 1)
  let s2 := sec 2
  let c := sec 0x14
  let box := sec 0x15
  let lay := sec 0x20
  let au := sec 0x30
  let st := sec 0x40
  let q := sec 0x41
  let eg := sec 0x42
  let reg := sec 0x60
  let engines := (List.range 16).filter (fun e => bitOf d.engineMask e)
  { id := field img 0x14 4, signed := bitOf (field img 0x10 4) 0, part := field img 0x20 2, stepping := field img 0x22 1
    sigOffset := field img 0x2C 4, sha := []
    descr := d
    sources := (entriesAt s2 16 48 (field s2 0 2)).map parseSource
    channels := (entriesAt s2 (16 + 48 * field s2 0 2) 8 (field s2 2 2)).map parseChan
    contexts := (entriesAt (sec 3) 0 64 d.contexts).map (parseCtx minor)
    engines := engines.map (fun e => (e, parseEngine (sectionOf img dir 0x10 e) (sectionOf img dir 0x11 e)
      (sectionOf img dir 0x12 e) (sectionOf img dir 0x13 e)))
    coding := (entriesAt c 16 128 (field c 0 4)).map (parseCoding c)
    boxes := (entriesAt box 16 128 (field box 0 4)).map parseBox
    lambdas := (entriesAt box (16 + 128 * field box 0 4) 608 (field box 4 4)).map parseLambda
    sets := (entriesAt lay 16 528 (field lay 0 4)).map parseSet
    pairs := (entriesAt lay (16 + 528 * field lay 0 4) 16 (field lay 4 4)).map (fun b => ⟨field b 2 2, field b 4 2, field b 8 4⟩)
    groups := (entriesAt au 16 16 4).map (fun b => ⟨field b 1 1, field b 2 1, field b 3 1⟩)
    ports := (entriesAt au 80 16 32).map parseAPort
    astreams := (entriesAt au 592 32 (field au 0 2)).map (fun b =>
      ⟨field b 0 2, field b 2 2, field b 4 1, field b 5 1, field b 6 1, field b 8 4, field b 12 2⟩)
    routes := (entriesAt au (592 + 32 * field au 0 2) 16 (field au 2 2)).map (fun b =>
      ⟨field b 2 1, field b 3 1, field b 4 2, field b 6 2, field b 8 2, bitOf (field b 10 1) 0, field b 12 4⟩)
    ladleMask := field st 2 2, affinity := field st 4 2, minMicro := field st 6 2
    streams := (entriesAt st 16 48 (field st 0 2)).map parseStrm
    stockpot := field q 8 8
    queues := (entriesAt q 16 32 (field q 0 2)).map parseQueue
    packetMode := field eg 16 1 == 1, cycleNs := field eg 4 4, baseTime := field eg 8 8
    scheds := (entriesAt eg 32 24 (field eg 0 2)).map parseSched
    gcl := (entriesAt eg (32 + 24 * field eg 0 2) 8 (field eg 2 2)).map (fun b => (field b 0 4, field b 4 2 % 512))
    roles := (entriesAt (sec 0x50) 16 16 12).map (fun b =>
      ⟨field b 1 1, field b 2 1, bitOf (field b 3 1) 0, bitOf (field b 3 1) 1⟩)
    targets := (entriesAt reg 16 8 22).map (fun b => field b 0 4)
    regions := (entriesAt reg 192 24 (field reg 0 4)).map (fun b => ⟨field b 0 1, field b 2 2, field b 8 8, field b 16 8⟩)
    summary := sec 0x70 }

/-! ### IMAGE_FORMAT (R584) -/

/-- A condition, with the detail of its failure. -/
abbrev Check := Bool × Detail

/-- The first condition that does not hold. -/
def firstFail (l : List Check) : Option Detail := (l.find? (fun c => !c.1)).map (·.2)

/-- Both sides of a relation as whole 64-bit values (notes/assumptions/59). -/
def sides (d : Detail) (l r : ℚ) : Detail := { d with lhs := (Rat.ceil l % 2 ^ 64).toNat, rhs := (Rat.ceil r % 2 ^ 64).toNat }

/-- The condition l ≤ r: a failure gives l rounded up and r rounded down (R49). -/
def leCheck (d : Detail) (l r : ℚ) : Check := (decide (l ≤ r), sides d l r.floor)

/-- The condition l ≥ r: a failure gives l rounded down and r rounded up (R49). -/
def geCheck (d : Detail) (l r : ℚ) : Check := (decide (r ≤ l), sides d l.floor r)

/-- The first of several checks that fails. -/
def firstSome (l : List (Option Detail)) : Option Detail := (l.find? (fun x => x.isSome)).join

/-- An IMAGE_FORMAT detail. -/
def badForm (section_ entry : Nat) : Detail := { reason := 0x0201, section_ := section_, entry := entry }

/-- One condition for each entry of a section. -/
def each {α : Type} (d : Detail) (l : List α) (ok : α → Bool) : List Check :=
  l.zipIdx.map (fun x => (ok x.1, { d with entry := x.2 }))

/-- The 64-byte header is as R36 and R41 give (R481). -/
def headerOk (h : List Byte) : Bool :=
  slice h 0 4 == [0x4D, 0x55, 0x50, 0x49] && field h 4 1 == 1 && decide (field h 5 1 ≤ 1) && field h 6 2 == 64

/-- Header, directory and placement (R584). -/
def placementChecks (img : List Byte) : List Check :=
  let n := field img 0x0C 4
  let o := field img 0x28 4
  let signed := bitOf (field img 0x10 4) 0
  let sig := field img 0x2C 4
  let size := field img 8 4
  let end_ := if signed then sig else size
  let dir := directory img
  let blocks := (0, 64) :: (o, 16 * n) :: dir.map (fun d => (d.offset, d.size))
  let apart := fun (a b : Nat × Nat) => decide (a.1 + a.2 ≤ b.1) || decide (b.1 + b.2 ≤ a.1) || a.2 == 0 || b.2 == 0
  [(headerOk img && decide (1 ≤ n) && decide (n ≤ 4096) && (if signed then sig + 1024 == size else sig == 0)
      && size == img.length, badForm 0 0),
   (decide (64 ≤ o) && decide (o + 16 * n ≤ size), badForm 0 1)]
    ++ dir.zipIdx.map (fun x =>
      let d := x.1
      (d.offset % 64 == 0 && decide (d.offset + d.size ≤ end_)
        && (blocks.zipIdx.all (fun b => b.2 == x.2 + 2 || apart (d.offset, d.size) b.1)), badForm d.type d.index))

/-- The types that appear once, and those of each engine (R38). -/
def oneTypes : List Nat := [1, 2, 3, 0x14, 0x15, 0x20, 0x30, 0x40, 0x41, 0x42, 0x50, 0x60, 0x70]

/-- The per-engine types (R38). -/
def engineTypes : List Nat := [0x10, 0x11, 0x12, 0x13]

/-- The section set (R38). -/
def setChecks (img : List Byte) : List Check :=
  let dir := directory img
  let mask := field (sectionOf img dir 1 0) 4 2
  let count := fun t => (dir.filter (fun d => d.type == t)).length
  let countOf := fun t e => (dir.filter (fun d => d.type == t && d.index == e)).length
  dir.map (fun d => (oneTypes.contains d.type && d.index == 0
      || engineTypes.contains d.type && decide (d.index < 16) && bitOf mask d.index, badForm d.type d.index))
    ++ oneTypes.map (fun t => (count t == 1, badForm t 0))
    ++ engineTypes.flatMap (fun t => ((List.range 16).filter (bitOf mask)).map (fun e =>
        (countOf t e == 1, { badForm t e with engine := e })))

/-- Sizes that the counts give (R584). -/
def sizeChecks (img : List Byte) : List Check :=
  let dir := directory img
  let sec := fun t => sectionOf img dir t 0
  let at_ := fun t o n => field (sec t) o n
  let d := parseDescr (sec 1)
  let is := fun t n => ((sec t).length == n, badForm t 0)
  let engines := (List.range 16).filter (bitOf d.engineMask)
  let coding := sec 0x14
  let nc := at_ 0x14 0 4
  [is 1 64, is 2 (16 + 48 * at_ 2 0 2 + 8 * at_ 2 2 2), is 3 (64 * d.contexts), is 0x14 (16 + 128 * nc + at_ 0x14 4 4),
   is 0x15 (16 + 128 * at_ 0x15 0 4 + 608 * at_ 0x15 4 4), is 0x20 (16 + 528 * at_ 0x20 0 4 + 16 * at_ 0x20 4 4),
   is 0x30 (592 + 32 * at_ 0x30 0 2 + 16 * at_ 0x30 2 2), is 0x40 (16 + 48 * at_ 0x40 0 2), is 0x41 (16 + 32 * at_ 0x41 0 2),
   is 0x42 (32 + 24 * at_ 0x42 0 2 + 8 * at_ 0x42 2 2), is 0x50 208, is 0x60 (192 + 24 * at_ 0x60 0 4),
   is 0x70 (16 + 32 * at_ 0x70 0 2 + 16 * at_ 0x70 2 2)]
    ++ engines.flatMap (fun e =>
      let f := fun t => sectionOf img dir t e
      let bad := fun t => { badForm t e with engine := e }
      [((f 0x10).length == 32 + 40 * field (f 0x10) 4 4, bad 0x10), ((f 0x11).length % 32 == 0, bad 0x11),
       ((f 0x12).length % 32 == 0, bad 0x12),
       ((f 0x13).length == 64 + 32 * ((List.range 15).map (unitCount (f 0x13))).sum, bad 0x13)])
    ++ each (badForm 0x14 0) (entriesAt coding 16 128 nc) (fun b => (List.range 6).all (fun i =>
        decide (field b (0x40 + 8 * i) 4 + field b (0x44 + 8 * i) 4 ≤ coding.length)))

/-- A number lies between two bounds. -/
def within_ (lo x hi : Nat) : Bool := decide (lo ≤ x) && decide (x ≤ hi)

/-- Counts (R584), and the order of the context table (R40, notes/assumptions/60). -/
def countChecks (img : List Byte) (p : Production) : List Check :=
  let dir := directory img
  let at_ := fun t o n => field (sectionOf img dir t 0) o n
  let is := fun t (lo x hi : Nat) => if x < lo then geCheck (badForm t 0) x lo else leCheck (badForm t 0) x hi
  [is 1 1 p.descr.contexts 512, is 1 1 p.descr.sources 128, is 2 1 (at_ 2 0 2) 128, is 2 0 (at_ 2 2 2) 256,
   (at_ 2 0 2 == p.descr.sources, badForm 2 0), is 0x14 1 (at_ 0x14 0 4) 512, is 0x20 1 (at_ 0x20 0 4) 512,
   is 0x20 0 (at_ 0x20 4 4) 256, is 0x30 0 (at_ 0x30 0 2) 64, is 0x30 0 (at_ 0x30 2 2) 512, is 0x40 1 (at_ 0x40 0 2) 640,
   is 0x41 1 (at_ 0x41 0 2) 576, is 0x42 1 (at_ 0x42 0 2) 576, is 0x42 0 (at_ 0x42 2 2) 256, (at_ 0x50 0 2 == 12, badForm 0x50 0),
   is 0x60 1 (at_ 0x60 0 4) 16384]
    ++ p.engines.flatMap (fun x => [(decide (1 ≤ x.2.slots.length), { badForm 0x10 x.1 with engine := x.1 }),
        (decide (x.2.programs.length ≤ 1024), { badForm 0x11 x.1 with engine := x.1 })])
    ++ each (badForm 2 0) p.sources (fun s => within_ 1 s.linkCount 4)
    ++ each (badForm 3 0) p.contexts.zipIdx (fun c => decide (c.1.context ≤ 511)
        && ((p.contexts.take c.2).all (fun y => decide (y.context < c.1.context))))
    ++ each (badForm 0x14 0) p.coding (fun c => within_ 1 c.tileCols 4)
    ++ each (badForm 0x15 0) p.boxes (fun b => within_ 1 b.schedCount 4)

/-- The codes of a DR or DW descriptor (R73). -/
def drCodes (d : DrDesc) : Bool := decide (d.cls ≤ 5) && decide (d.base ≤ 15) && decide (d.dest ≤ 5)

/-- Codes (R584). -/
def codeChecks (img : List Byte) (p : Production) : List Check :=
  let dir := directory img
  let d := p.descr
  [((d.channels == 4 || d.channels == 6) && decide (d.rate ≤ 1) && decide (d.refresh ≤ 1) && decide (d.density ≤ 2)
      && within_ 1 d.ranks 2 && decide (d.twinMode ≤ 2), badForm 1 0),
   (decide (field (sectionOf img dir 0x42 0) 16 1 ≤ 1), badForm 0x42 0)]
    ++ each (badForm 2 0) p.sources (fun s => decide (s.format ≤ 2))
    ++ each (badForm 2 0) p.channels (fun c => decide (c.rate ≤ 1))
    ++ each (badForm 3 0) p.contexts (fun c => decide (c.mode ≤ 1) && decide (c.codec ≤ 1) && decide (c.chroma ≤ 2))
    ++ p.engines.flatMap (fun x =>
      let bad := fun t => { badForm t x.1 with engine := x.1 }
      [(within_ 1 x.2.kind 2 && decide (x.2.family ≤ 2), bad 0x10),
       (x.2.programs.all (fun g => within_ 1 g.kind 3 && decide (g.chroma ≤ 1)), bad 0x11),
       (x.2.dr.all drCodes && x.2.dw.all drCodes, bad 0x13)])
    ++ each (badForm 0x14 0) p.coding (fun c => decide (c.codec ≤ 1) && decide (c.tier ≤ 1)
        && (c.bitDepth == 8 || c.bitDepth == 10) && decide (c.structure_ ≤ 2) && decide (c.colour.getD 3 0 ≤ 1))
    ++ each (badForm 0x15 0) p.boxes (fun b => decide (b.mode ≤ 2))
    ++ each (badForm 0x20 0) p.sets (fun s => s.layers.all (fun l => decide (l.kind ≤ 2)))
    ++ each (badForm 0x30 0) p.groups (fun g => decide (g.enable ≤ 1) && decide (g.rate ≤ 1) && decide (g.framing ≤ 2))
    ++ each (badForm 0x30 0) p.ports (fun a => decide (a.direction ≤ 2)
        && (a.word == 16 || a.word == 20 || a.word == 24))
    ++ each (badForm 0x30 0) p.astreams (fun a => decide (a.ptime ≤ 1) && decide (a.rate ≤ 1))
    ++ each (badForm 0x30 0) p.routes (fun r => decide (r.srcKind ≤ 1) && decide (r.dstKind ≤ 1))
    ++ each (badForm 0x40 0) p.streams (fun t => decide (t.kind ≤ 4))
    ++ each (badForm 0x41 0) (entriesAt (sectionOf img dir 0x41 0) 16 32 p.queues.length) (fun b => decide (field b 2 1 ≤ 1)
        && decide (field b 3 1 ≤ 4))
    ++ each (badForm 0x50 0) p.roles (fun r => decide (r.role ≤ 5) && decide (r.target ≤ 2))
    ++ each (badForm 0x60 0) p.regions (fun r => within_ 1 r.kind 11)

/-- References and position fields (R584). -/
def referenceChecks (img : List Byte) (p : Production) : List Check :=
  let dir := directory img
  let sec := fun t => sectionOf img dir t 0
  let pos := fun t o size n w => each (badForm t 0) (entriesAt (sec t) o size n).zipIdx (fun x => field x.1 0 w == x.2)
  each (badForm 3 0) p.contexts (fun c => p.sources.any (fun s => s.source == c.source) && decide (c.coding < p.coding.length)
      && decide (c.box < p.boxes.length) && decide (c.stream < p.streams.length))
    ++ p.engines.flatMap (fun x => x.2.slots.zipIdx.map (fun s =>
        (p.contexts.any (fun c => c.context == s.1.context) && decide (s.1.program < x.2.programs.length),
          { badForm 0x10 s.2 with engine := x.1, slot := s.2 })))
    ++ p.engines.flatMap (fun x => each { badForm 0x11 x.1 with engine := x.1 } x.2.programs.zipIdx (fun g => g.1.index == g.2))
    ++ pos 0x14 16 128 p.coding.length 2 ++ pos 0x15 16 128 p.boxes.length 2 ++ pos 0x20 16 528 p.sets.length 2
    ++ pos 0x20 (16 + 528 * p.sets.length) 16 p.pairs.length 2 ++ pos 0x30 16 16 4 1 ++ pos 0x30 80 16 32 1
    ++ pos 0x30 (592 + 32 * p.astreams.length) 16 p.routes.length 2 ++ pos 0x40 16 48 p.streams.length 2
    ++ pos 0x50 16 16 12 1

/-- IMAGE_FORMAT (R584): the first failure, in the order of the rule's list. -/
def imageFormat (img : List Byte) (p : Production) : Option Detail :=
  firstSome [firstFail (placementChecks img), firstFail (setChecks img), firstFail (sizeChecks img),
    firstFail (countChecks img p), firstFail (codeChecks img p), firstFail (referenceChecks img p)]

/-- An image with the bytes of its image_crc taken as 0 (R36). -/
def crcBlank (img : List Byte) : List Byte := img.take 0x24 ++ [0, 0, 0, 0] ++ img.drop 0x28

/-- IMAGE_CRC (R48): image_crc, then every section's. -/
def imageCrc (img : List Byte) (p : Production) : Option Detail :=
  let n := if p.signed then p.sigOffset else img.length
  firstFail ((crc32c ((crcBlank img).take n) == field img 0x24 4, { reason := 0x0202 })
    :: (directory img).map (fun d => (crc32c (d.bytes img) == d.crc, { reason := 0x0202, section_ := d.type, entry := d.index })))

end Sys2Proof.Machine
end

