-- ==== Sys2Proof/Machine/Admission.lean ====
section
/-! DEFINITION. Admission: the checks of R48 from ENGINE_MIXED to DIMENSIONS and coding, in the order that R48 and the
owning chapters give. Each check answers the first failure's detail. Quantities in seconds, bits and cycles are exact
rationals. -/

namespace Sys2Proof.Machine

/-- A detail that names an engine, a slot and the section entry. -/
def atSlot (reason section_ e slot : Nat) : Detail :=
  { reason := reason, engine := e, slot := slot, section_ := section_, entry := slot }

/-- A detail that names an engine and a section of it. -/
def atEngine (reason section_ e : Nat) : Detail := { reason := reason, engine := e, section_ := section_ }

/-- A detail that names a section entry and an item. -/
def atEntry (reason section_ entry item : Nat) : Detail :=
  { reason := reason, section_ := section_, entry := entry, item := item }

/-- T_frame in seconds. -/
def Ctx.frame (c : Ctx) : ℚ := c.rateDen / c.rateNum

/-- T_row in seconds (R12). -/
def Ctx.rowTime (c : Ctx) : ℚ := 64 * c.frame / c.totalLines

/-- f_E in cycles a second. -/
def fE : ℚ := 1600000000

/-- A nanosecond in ECLK cycles. -/
def nsCycles (ns : ℚ) : ℚ := ns * 8 / 5

/-- The context that a slot names. -/
def Production.slotCtx (p : Production) (s : Slot) : Ctx := (p.ctx s.context).getD {}

/-- One condition for each slot of each engine. -/
def eachSlot (p : Production) (reason : Nat) (ok : Nat → EngineTab → Slot → Bool) : List Check :=
  p.engines.flatMap (fun x => x.2.slots.zipIdx.map (fun s => (ok x.1 x.2 s.1, atSlot reason 0x10 x.1 s.2)))

/-- One condition for each context, named by its place and number. -/
def eachCtx (p : Production) (reason : Nat) (ok : Ctx → Bool) : List Check :=
  p.contexts.zipIdx.map (fun c => (ok c.1, atEntry reason 3 c.2 c.1.context))

/-- IMAGE_SIGNATURE (R48, R517): a signed image verifies; an unsigned one only while the fuse is clear. -/
def imageSignature (o : Otp) (img : List Byte) (p : Production) : Option Detail :=
  let ok := if p.signed then signedOk o 2 1 (img.take p.sigOffset) (slice img p.sigOffset 1024) else !o.signedOnly
  firstFail [(ok, { reason := 0x0203 })]

/-- PART_MISMATCH: this part is 0x4816 at stepping 1 (R36, R48). -/
def partMismatch (p : Production) : Option Detail :=
  firstFail [(p.part == 0x4816, { reason := 0x0204 }), geCheck { reason := 0x0204 } 1 p.stepping]

/-- Contexts that an engine serves. -/
def Production.users (p : Production) (e : Nat) : List Ctx := p.contexts.filter (fun c => bitOf c.engineMask e)

/-- ENGINE_MIXED (R11, R585), in the order of R585's list. -/
def engineMixed (img : List Byte) (p : Production) : Option Detail :=
  let dir := directory img
  let locked := fun (s : Slot) => (p.slotCtx s).mode == 0
  let d := fun e => atEngine 0x0210 0x10 e
  firstFail
    (eachCtx p 0x0210 (fun c => decide (c.engineMask &&& p.descr.engineMask = c.engineMask))
    ++ eachCtx p 0x0210 (fun c => if c.mode = 1 then c.tiles == 1 else within_ 1 c.tiles 4)
    ++ p.engines.map (fun x => ((p.users x.1).all (fun c => c.mode == 1) || (p.users x.1).length == 1, d x.1))
    ++ p.engines.map (fun x =>
        (field (sectionOf img dir 0x10 x.1) 0 1 == x.1 && x.2.slots.all (fun s => (if locked s then 1 else 2) == x.2.kind), d x.1))
    ++ eachSlot p 0x0210 (fun e _ s => bitOf (p.slotCtx s).engineMask e)
    ++ eachCtx p 0x0210 (fun c => c.engines.all (fun e => ((p.engine e).map (fun t => decide (t.slotsOf c.context ≠ []))).getD false))
    ++ p.engines.flatMap (fun x => if x.2.kind = 1 then
        x.2.slots.zipIdx.map (fun s =>
            (s.1.row == s.2 && decide (s.2 = 0 ∨ (x.2.slots.getD (s.2 - 1) {}).offset < s.1.offset), atSlot 0x0210 0x10 x.1 s.2))
          ++ [(x.2.slots.length == (p.slotCtx (x.2.slots.headD {})).rows, d x.1)]
        else [])
    ++ eachSlot p 0x0210 (fun _ t s => t.kind == 1 || s.row == 0))

/-- RATE_FAMILY (R33, R35). The cycle is the least common multiple when the counts m_c have no common factor. -/
def rateFamily (p : Production) : Option Detail :=
  firstFail (p.engines.flatMap (fun x =>
    let t := x.2
    let cs := (t.slots.map (·.context)).dedup.map (fun n => (p.ctx n).getD {})
    let d := atEngine 0x0211 0x10 x.1
    let m := fun (c : Ctx) => c.slotsPerCycle t.cycleNum t.cycleDen
    cs.map (fun c => (decide (0 < c.rateNum) && decide (0 < c.rateDen)
        && (familyRates t.family).any (fun r => sameFrac r.1 r.2 c.rateNum c.rateDen),
        { atEntry 0x0211 3 (p.contexts.findIdx (fun y => y.context == c.context)) c.context with engine := x.1 }))
    ++ [(decide (0 < t.cycleDen), d), leCheck d (t.cycleNum / t.cycleDen * fE) (fE / 5),
      (cs.all (fun c => match m c with
            | none => false
            | some n => within_ 1 n 5
                && (c.mode == 0 || ((t.slotsOf c.context).map (·.index)).mergeSort == List.range n)
                && (c.mode == 1 || n == 1)), d),
     ((cs.filterMap m).foldl Nat.gcd 0 == 1, d)]))

/-- CUE_MEMORY_FULL (R48). -/
def cueMemoryFull (p : Production) : Option Detail :=
  firstFail (p.engines.flatMap (fun x =>
    let d := fun sec => atEngine 0x0212 sec x.1
    [leCheck (d 0x12) x.2.words.length 32768, leCheck (d 0x10) x.2.slots.length 1024]
      ++ (x.2.units.map (·.length) ++ [x.2.dr.length, x.2.dw.length, x.2.sq.length]).map (fun n => leCheck (d 0x13) n 1024)))

/-- SLOT_OVERLAP. -/
def slotOverlap (p : Production) : Option Detail :=
  firstFail (p.engines.flatMap (fun x => (x.2.slots.zip (x.2.slots.drop 1)).zipIdx.map (fun s =>
    leCheck (atSlot 0x0213 0x10 x.1 s.2) (s.1.1.offset + s.1.1.duration) s.1.2.offset)))

/-- SLOT_WRAP. -/
def slotWrap (p : Production) : Option Detail :=
  firstFail (p.engines.flatMap (fun x =>
    let t := x.2
    let a := t.slots.headD {}
    let z := (t.slots.getLast?).getD {}
    let d := atSlot 0x0214 0x10 x.1 (t.slots.length - 1)
    [geCheck d t.guard 64, leCheck d (z.offset + z.duration + t.guard) (t.cMin + a.offset)]))

/-- Firmware's own work of a slot (R31, R44). -/
def Production.work (p : Production) (s : Slot) : Nat := slotWork s (p.slotCtx s).chroma

/-- WINGS_SHORT, FLOOR_THRESHOLD and FREEZE_LIMIT. -/
def wings (p : Production) : Option Detail :=
  let all := fun (reason : Nat) (f : Detail → Slot → List Check) =>
    firstFail (p.engines.flatMap (fun x => x.2.slots.zipIdx.flatMap (fun s => f (atSlot reason 0x10 x.1 s.2) s.1)))
  let room := fun (s : Slot) => (s.duration : ℚ) - p.work s
  firstSome
    [all 0x0215 (fun d s => [geCheck d (room s) (ceilDiv s.duration 50)]),
     all 0x0216 (fun d s => [(decide (s.thetaR < s.thetaF), sides d s.thetaR s.thetaF),
       leCheck d (s.thetaF + s.phi) (room s)]),
     all 0x0217 (fun d s => [geCheck d s.phi 960])]

/-- One condition for each pair of consecutive slots, named by the second. -/
def eachPair (p : Production) (reason section_ : Nat) (ok : EngineTab → Slot × Slot → Bool) : List Check :=
  p.engines.flatMap (fun x => x.2.slotPairs.zipIdx.map (fun s =>
    (ok x.2 s.1, atSlot reason section_ x.1 ((s.2 + 1) % x.2.slots.length))))

/-- DMA_LEAD_SHORT (R46). -/
def dmaLeadShort (p : Production) : Option Detail :=
  firstFail (p.engines.flatMap (fun x => x.2.slotPairs.zipIdx.map (fun s =>
    geCheck (atSlot 0x0218 0x10 x.1 ((s.2 + 1) % x.2.slots.length)) ((x.2.minLead s.1).getD 2400) 2400)))

/-- A cue word has a defined form (R61 to R65). -/
def EngineTab.wordOk (t : EngineTab) (a : Nat) (w : CueWord) : Bool :=
  let n := t.words.length
  let d := t.sq.getD w.sq.2 {}
  let counts := t.units.map (·.length) ++ [t.dr.length, t.dw.length]
  decide (1 ≤ w.wait)
    && (List.range 14).all (fun u =>
      let o := w.op u
      if o.1 = 0 then o.2 == 0 else decide (o.1 ≤ opcodes u) && decide (o.2 < counts.getD u 0))
    && decide (w.sq.1 ≤ 8)
    && (if w.sq.1 = 0 ∨ w.sq.1 = 2 ∨ w.sq.1 = 8 then w.sq.2 == 0 else decide (w.sq.2 < t.sq.length))
    && (w.sq.1 != 1 || decide (d.target < n)) && (w.sq.1 != 7 || (decide (d.target < n) && decide (d.alt < n)))
    && (w.sq.1 != 3 || decide (a + 1 < n))

/-- CUE_ENCODING (R63, R68). -/
def cueEncoding (p : Production) : Option Detail :=
  firstFail (p.engines.flatMap (fun x =>
      x.2.words.zipIdx.map (fun w => (x.2.wordOk w.2 w.1, { atEntry 0x0220 0x12 w.2 0xFFFF with engine := x.1 })))
    ++ p.engines.flatMap (fun x => x.2.slots.zipIdx.map (fun s =>
      ((x.2.slotPaths s.1).all (fun t => t.ok && t.issues.zipIdx.all (fun i =>
          (i.1.word.sq.1 == 6) == (s.1.chg && i.2 == 0))), atSlot 0x0220 0x12 x.1 s.2))))

/-- The chroma class of the issues of a pair of slots' paths. -/
def EngineTab.classOf (t : EngineTab) (s : Slot) : Nat := (t.programs.getD s.program {}).chroma

/-- Occupancy on the paths of a slot, and across the start of the next (R63). -/
def EngineTab.pairOccupancy (t : EngineTab) (x : Slot × Slot) (a b : Trace) : Bool :=
  occupancyOk (t.classOf x.1) a.issues && occupancyNext (t.classOf x.1) (t.after x.1 x.2) a.issues b.issues

/-- The derivations of a path (R77). -/
def derIssues (t : Trace) : List Issue := t.issues.filter (fun i => (i.word.op 9).1 == 2)

/-- R77: a derivation ends before the first ALF of the context's next frame, and before the next derivation. -/
def EngineTab.derOk (t : EngineTab) (s : Slot) : Bool :=
  let mine := t.slotsOf s.context
  let next := if t.kind = 1 then t.slots.headD {} else ((mine.find? (fun x => decide (s.offset < x.offset))).getD (mine.headD {}))
  (t.slotPaths s).all (fun a => (derIssues a).all (fun x =>
    (t.slotPaths next).all (fun b =>
      match b.issues.find? (fun i => (i.word.op 9).1 == 1) with
      | none => true
      | some i => decide (x.latest + 49152 ≤ t.after s next + i.early))
    && (derIssues a).all (fun y => decide (y.time ≤ x.time) || decide (49152 ≤ x.gap y))
    && t.slots.all (fun u => u == s || (t.slotPaths u).all (fun b => (derIssues b).all (fun y =>
        decide (x.latest + 49152 ≤ t.after s u + y.early))))))

/-- UNIT_HAZARD (R63, R77). -/
def unitHazard (p : Production) : Option Detail :=
  firstSome
    [firstFail (eachPair p 0x0221 0x12 (fun t x => (t.pairPaths x).all (fun q => t.pairOccupancy x q.1 q.2))),
     firstFail (eachSlot p 0x0221 (fun _ t s => t.derOk s))]

/-- BANK_RULE (R78). BK1: a row-locked slot's IN reads issue before the next slot starts. What BK5 rests on, the banks that a
unit's operation accesses in each cycle, the spec does not give (notes/assumptions/54). -/
def bankRule (img : List Byte) (p : Production) : Option Detail :=
  let dir := directory img
  firstFail (eachPair p 0x0219 0x12 (fun t x =>
      let c := t.classOf x.1
      (t.pairPaths x).all (fun q =>
        (t.kind == 2 || q.1.issues.all (fun i => (i.word.op 0).1 == 0 || decide (i.latest < t.after x.1 x.2)))
          && buffersOk t c [] q.1.issues && landingOk t (q.1.then_ q.2 (t.after x.1 x.2))
          && searchOk t c (if t.classOf x.2 = c then q.1.then_ q.2 (t.after x.1 x.2) else q.1.issues) && recordOk t q.2))
    ++ p.engines.map (fun x =>
      let w := sectionOf img dir 0x12 x.1
      let u := sectionOf img dir 0x13 x.1
      (Config.pathRule 5 w u, atEngine 0x0219 0x12 x.1)))

/-- TILE_TOO_WIDE (R97). -/
def tileTooWide (p : Production) : Option Detail :=
  firstFail (p.contexts.zipIdx.flatMap (fun c => (List.range c.1.tiles).map (fun t =>
    let w : ℕ := (c.1.tilePx t).2 - (c.1.tilePx t).1
    let d := { atEntry 0x0222 3 c.2 c.1.context with engine := c.1.engines.getD t 0xFF }
    if c.1.mode = 1 then (true, d) else leCheck d w 4096)))

/-- PICTURE_SIZE (R103), in the order of the rule. -/
def pictureSize (p : Production) : Option Detail :=
  firstFail (p.contexts.zipIdx.flatMap (fun x =>
    let c := x.1
    let s := (p.source c.source).getD {}
    let d := atEntry 0x0223 3 x.2 c.context
    let tile := fun t => { d with engine := c.engines.getD t 0xFF }
    [(c.width % 8 == 0 && c.height % 8 == 0, d)]
      ++ (List.range c.tiles).map (fun t => geCheck (tile t) (((c.tilePx t).2 - (c.tilePx t).1 : ℕ) : ℚ) 256)
      ++ (List.range c.tiles).map (fun t => leCheck (tile t) (c.tileW t * c.rows) 2048)
      ++ [leCheck d c.height 8192, geCheck d c.totalLines c.height,
        (s.width == c.width && s.height == c.height && s.totalLines == c.totalLines
          && sameFrac s.rateNum s.rateDen c.rateNum c.rateDen, d)]))

/-- The profile that R100 gives; none where the combination is not in its table. -/
def profileOf (codec chroma depth : Nat) : Option Nat :=
  match codec, chroma, depth with
  | 0, 0, 8 => some 1
  | 0, 0, 10 => some 2
  | 0, 1, 10 => some 4
  | 1, 0, 10 => some 1
  | 1, 1, 10 => some 33
  | 1, 2, 10 => some 33
  | _, _, _ => none

/-- The colour rows of R134, and the chroma location of a 4:2:0 context. -/
def colourOk (k : Coding) (chroma : Nat) : Bool :=
  match k.colour with
  | [prim, xfer, mat, _, loc, hdr, atc] =>
    let atcOn := bitOf hdr 2
    let row := (prim == 1 && xfer == 1 && mat == 1 && !atcOn) || (prim == 9 && mat == 9
      && ((xfer == 14 && (if atcOn then k.codec == 0 && atc == 18 else k.bitDepth == 10))
          || ((xfer == 16 || xfer == 18) && !atcOn)))
    row && (chroma != 0 || loc == (if prim = 1 then 0 else 2))
  | _ => false

/-- A source format may feed a chroma format (R102). -/
def feeds (format chroma : Nat) : Bool :=
  match format, chroma with
  | 0, 1 => true
  | 1, 0 => true
  | 0, 0 => true
  | 2, 2 => true
  | _, _ => false

/-- The coding entry of a context. -/
def Production.codingOf (p : Production) (c : Ctx) : Coding := p.coding.getD c.coding {}

/-- The box office entry of a context. -/
def Production.boxOf (p : Production) (c : Ctx) : BoxEntry := p.boxes.getD c.box {}

/-- The highest schedule rate and the greatest buffer of a context (R184, R272). -/
def Production.rMax (p : Production) (c : Ctx) : Nat := ((p.boxOf c).scheds.map (·.1)).foldl max 0

/-- The greatest buffer of a context. -/
def Production.bMax (p : Production) (c : Ctx) : Nat := ((p.boxOf c).scheds.map (·.2)).foldl max 0

/-- The level that R101 yields is the entry's: 255 where no level up to 6.2 at High tier takes the context, as where the tiles of
several engines are more than such a level allows (R110); else the lowest level that does, at its lower tier. -/
def Production.levelOk (p : Production) (c : Ctx) (k : Coding) : Bool :=
  let wide := decide (2 ≤ c.tiles) && decide ((if c.codec = 0 then 22 else 440) < (if c.codec = 0 then c.rows else c.rows * c.tiles))
  match if wide then none
    else Config.levelOf c.codec [c.width, c.height, c.rateNum, c.rateDen, p.rMax c, p.bMax c, c.tiles, c.rows] with
  | some l => k.level == l.1 && k.tier == l.2
  | none => k.level == 255

/-- What the SPS and PPS templates are held to beside their entry (R103, R108, R109, R134): the picture, its frame rate, and
the tile columns. -/
def Ctx.setFields (c : Ctx) : List Nat :=
  [c.codec, c.chroma, c.width, c.height, c.rateNum, c.rateDen, c.rows, c.tiles] ++ (List.range c.tiles).map c.tileW

/-- CODING_PROFILE (R100 to R102, R109, R110, R134, R138), which also takes in R146's range and the entry's agreement with its
context (DEDUCED, notes/assumptions/60). -/
def codingProfile (p : Production) : Option Detail :=
  firstFail (p.contexts.map (fun c =>
    let k := p.codingOf c
    let s := (p.source c.source).getD {}
    (k.codec == c.codec && profileOf c.codec c.chroma k.bitDepth == some k.profile && k.tileCols == c.tiles
      && p.levelOk c k && feeds s.format c.chroma
      && colourOk k c.chroma && within_ 100 k.psRepeat 1000 && Config.templatesAgree k.raw c.setFields k.templates,
     atEntry 0x0224 0x14 c.coding c.context)))

/-- CODING_TOOL (R106). -/
def codingTool (p : Production) : Option Detail :=
  firstFail (each (atEntry 0x0225 0x14 0 0xFFFF) p.coding (fun k =>
    if k.codec = 0 then decide (k.tools &&& 0x111 = k.tools)
    else decide (k.tools < 256) && (!bitOf k.tools 2 || bitOf k.tools 1)))

/-- REFRESH_GEOMETRY (R127), in the order of the rule. -/
def refreshGeometry (p : Production) : Option Detail :=
  firstFail (p.contexts.flatMap (fun c =>
    let k := p.codingOf c
    let d := atEntry 0x0226 0x14 c.coding c.context
    [geCheck d k.bandB (ceilDiv c.cols k.sweepN), leCheck d k.sweepN k.period, leCheck d k.period 1024,
      geCheck d k.sweepN 1, leCheck d k.sweepN 256]))

/-- BACKDROP_PERIOD (R114). -/
def backdropPeriod (p : Production) : Option Detail :=
  firstFail (p.contexts.zipIdx.flatMap (fun c =>
    let k := p.codingOf c.1
    let d := atEntry 0x0227 3 c.2 c.1.context
    let n := c.1.backdrop / k.period
    if k.structure_ = 2 then [(c.1.backdrop % k.period == 0, d), geCheck d n 1, leCheck d n 255] else []))

/-- INGEST_WINDOW (R141). -/
def ingestWindow (p : Production) : Option Detail :=
  firstFail (p.contexts.zipIdx.flatMap (fun x =>
    let c := x.1
    let d := { atEntry 0x0228 3 x.2 c.context with engine := c.firstEngine }
    let e := nsCycles c.slotEnd
    let frame := c.frame * fE
    let close := frame + e - ((((p.engine c.firstEngine).getD {}).slotsOf c.context).headD {}).duration
    let last := c.height * frame / c.totalLines
    if c.mode = 0 then [] else [leCheck d e frame, (decide (last < close), sides d close last)]))

/-- SEARCH_WINDOW (R153, R164): an issue start is 64,000 cycles or more after the slot it follows. -/
def searchWindow (p : Production) : Option Detail :=
  firstFail (p.engines.flatMap (fun x => x.2.slotPairs.zipIdx.map (fun s =>
      let c := p.slotCtx s.1.1
      let fills := fillsOk x.2 c (c.tileOf x.1)
      ((x.2.pairPaths s.1).all (fun q => fills (if x.2.kind = 1 then q.1.then_ q.2 (x.2.after s.1.1 s.1.2) else q.1.issues)),
        { atSlot 0x0229 0x12 x.1 s.2 with item := c.context })))
    ++ p.contexts.flatMap (fun c => c.engines.flatMap (fun e =>
      let t := (p.engine e).getD {}
      let ss := t.slotsOf c.context
      let gap := fun (i : Nat) (start stop : ℚ) =>
        geCheck { atSlot 0x0229 0x10 e (t.slots.findIdx (fun u => u == ss.getD i {})) with item := c.context } (start - stop) 64000
      let cycle : ℚ := c.frame * fE
      let k := c.rows
      if c.mode = 0 then
        (List.range k).map (fun r =>
          let w := ss.getD (min (r + 10) (k - 1)) {}
          let start : ℚ := if r = 0 then (ss.getD (k - 1) {}).offset - cycle else (ss.getD (r - 1) {}).offset
          gap r start (w.offset + w.duration - cycle))
      else
        ss.zipIdx.map (fun s =>
          let prev := if s.2 = 0 then (ss.getLast?).getD {} else ss.getD (s.2 - 1) {}
          let back : ℚ := if s.2 = 0 then t.cycleNum / t.cycleDen * fE else 0
          gap s.2 s.1.offset (prev.offset + prev.duration - back)))))

/-- The schedules of a box office entry that BOX_OFFICE_RANGE checks, each with its conditions (R190). -/
def scheduleChecks (c : Ctx) (b : BoxEntry) (d : Detail) : List Check :=
  b.scheds.zipIdx.flatMap (fun x =>
    let r := x.1.1
    let size := x.1.2
    let d := { d with item := x.2 }
    let next := b.scheds.drop (x.2 + 1)
    [(next.all (fun y => decide (r < y.1) && decide (y.2 ≤ size)), d), (r % 64 == 0 && size % 16 == 0, d),
      leCheck d ((r : ℚ) * c.rowTime / 8) ((size : ℚ) / 8), leCheck d ((size : ℚ) / 8) ((r : ℚ) / 8)]
      ++ (if b.mode = 0 then
            [geCheck d ((size : ℚ) / 8) (((max (drainRow c b r) (drainGap c b r) + 64 : ℕ) : ℚ) / 8)] else []))

/-- The other conditions of BOX_OFFICE_RANGE (R169, R173, R187, R190): the schedules are those that the SPS template signals. -/
def boxRangeOk (c : Ctx) (k : Coding) (b : BoxEntry) : Bool :=
  let q := fun (x : Int) => decide (k.qpMin ≤ x) && decide (x ≤ k.qpMax)
  (b.duInc, b.d) == duFraction c.totalLines
    && decide (b.qpLoMin ≤ b.qpLoInit) && decide (b.qpLoInit ≤ b.qpHiInit) && decide (b.qpHiInit ≤ b.qpHiMax)
    && q b.qpLoMin && q b.qpHiMax && (b.mode != 2 || q b.qpConst) && within_ 1 b.hwStep 12 && within_ 1 b.hwBins 262144
    && Config.templatesAgree k.raw (c.setFields ++ [b.mode, b.tickDiv, b.duInc]) k.templates
    && Config.signalledSchedules k.codec (k.templates.getD 1 []) == b.scheds

/-- BOX_OFFICE_RANGE: the context is the entry and the schedule the item (R190). -/
def boxOfficeRange (p : Production) : Option Detail :=
  firstFail (p.contexts.zipIdx.flatMap (fun x =>
    let c := x.1
    let b := p.boxOf c
    let d := atEntry 0x022A 3 x.2 0xFFFF
    [((b.mode != 0 || b.schedCount == 1) && decide (b.schedInit < b.schedCount), d)]
      ++ scheduleChecks c b d
      ++ [(boxRangeOk c (p.codingOf c) b && decide (b.lambda < p.lambdas.length), d)]))

/-- ENGINE_BIT_CAP (R184). -/
def engineBitCap (p : Production) : Option Detail :=
  firstFail (p.engines.map (fun x =>
    let cs := (x.2.slots.map (·.context)).dedup.map (fun n => (p.ctx n).getD {})
    leCheck (atEngine 0x022B 0x15 x.1) (cs.map (fun c => (p.rMax c : ℚ) / c.tiles)).sum 2500000000))

/-- FLOOR_FIT for a context, schedule and tile (R181, R190). -/
def floorFitChecks (c : Ctx) (k : Coding) (b : BoxEntry) (d : Detail) (i t : Nat) : List Check :=
  let s := b.tileSched c.tiles i
  let phi := b.fRow + floorEnd + c.tileW t * floorIntraBits c.chroma
  let phi0 := phi + (if t = 0 then fAu c k else 0)
  let rows := (List.range c.rows).map (fun j => (if j = 0 then phi0 else phi, drainBefore c b s.1 j))
  let d := { d with engine := c.engines.getD t 0xFF, item := i }
  [leCheck d ((phi : ℚ) / 8) ((s.2 : ℚ) / 8), leCheck d ((reserve (rows ++ rows) : ℚ) / 8) ((s.2 : ℚ) / 8)]

/-- FLOOR_FIT: the context is the entry and the schedule the item (R190). -/
def floorFit (p : Production) : Option Detail :=
  firstFail (p.contexts.zipIdx.flatMap (fun x => (List.range (p.boxOf x.1).schedCount).flatMap (fun i =>
    (List.range x.1.tiles).flatMap (fun t =>
      floorFitChecks x.1 (p.codingOf x.1) (p.boxOf x.1) (atEntry 0x022C 3 x.2 0xFFFF) i t))))

/-- BOX_ORDER (R168, R190): within each slot, and from each to the next on its engine; the item is the context. -/
def boxOrder (p : Production) : Option Detail :=
  firstFail (p.engines.flatMap (fun x => x.2.slotPairs.zipIdx.flatMap (fun s =>
    let t := x.2
    let d := fun (i : Nat) (u : Slot) => { atSlot 0x022D 0x10 x.1 i with item := u.context }
    [((t.slotPaths s.1.1).all (fun q => boxOrderOk (t.classOf s.1.1) q.issues), d s.2 s.1.1),
     ((t.pairPaths s.1).all (fun q => boxOrderNext (t.classOf s.1.1) (t.after s.1.1 s.1.2) q.1.issues q.2.issues),
      d ((s.2 + 1) % t.slots.length) s.1.2)])))

/-- CHANGEOVER_MISSING. -/
def changeoverMissing (p : Production) : Option Detail :=
  firstFail (eachPair p 0x021A 0x10 (fun t x => t.kind == 1 || x.1.context == x.2.context || x.2.chg))

/-- ROW_EARLY (R143). -/
def rowEarly (p : Production) : Option Detail :=
  firstFail (p.engines.flatMap (fun x => x.2.slots.zipIdx.map (fun s =>
    let c := p.slotCtx s.1
    let lag : ℚ := ((p.source c.source).getD {}).lag / 1000000000
    let bound := Rat.ceil (fE * ((min (64 * s.1.row + 64) c.height : ℕ) * c.frame / c.totalLines + lag))
    let d := { atSlot 0x021B 0x10 x.1 s.2 with item := c.context }
    if c.mode = 1 then (true, d) else geCheck d s.1.offset bound)))

/-- SLOT_END (R35). -/
def slotEndCheck (p : Production) : Option Detail :=
  firstFail (p.engines.flatMap (fun x => x.2.slots.zipIdx.map (fun s =>
    let c := p.slotCtx s.1
    let z := ((x.2.slotsOf c.context).find? (fun u => u.index == 0)).getD {}
    let step : ℚ := s.1.index * c.frame * fE
    let e : ℚ := c.slotEnd * 8 / 5
    let near := fun (a b : ℚ) => decide (a - b ≤ 1) && decide (b - a ≤ 1)
    (c.mode == 0 || (near s.1.offset (z.offset + step) && near (s.1.offset + s.1.duration) (e + step)
        && s.1.duration == z.duration), sides (atSlot 0x021C 0x10 x.1 s.2) (s.1.offset + s.1.duration) (e + step)))))

/-- The right side of DELAY_SHORT in nanoseconds (R13, R14, R143). -/
def Production.delayMin (p : Production) (c : Ctx) : ℚ :=
  let margin : ℚ := if p.descr.twinMode = 1 then c.twinMargin else 0
  if c.mode = 1 then 32000 + margin
  else
    let ends := c.engines.flatMap (fun e => (((p.engine e).getD {}).slotsOf c.context).map (fun s =>
      (s.offset + s.duration : ℚ) * 5 / 8 - s.row * c.rowTime * 1000000000))
    ends.foldl max 0 + 32000 + margin

/-- DELAY_SHORT. -/
def delayShort (p : Production) : Option Detail :=
  firstFail (p.contexts.zipIdx.map (fun c =>
    geCheck (atEntry 0x021D 3 c.2 c.1.context) (nsCycles c.1.delayD) (nsCycles (p.delayMin c.1))))

/-- DDR_DEMAND. -/
def ddrDemand (p : Production) : Option Detail :=
  let d := p.descr
  firstFail [leCheck (atEntry 0x021E 1 0 0xFFFF) d.demand (176000 * d.channels / 6 / (if d.rate = 0 then 1 else 2))]

/-! ### SUMMARY_MISMATCH -/

/-- Firmware's least lead of each slot, in slot order (R31). -/
def EngineTab.leadOf (t : EngineTab) (i : Nat) : Nat :=
  let n := t.slots.length
  match t.slotPairs[(i + n - 1) % n]? with
  | none => Config.noLead
  | some x => (t.minLead x).getD Config.noLead

/-- Firmware's nominal cycles of a program (R69): of its slots' path without floor blocks, or of a block's words. -/
def EngineTab.nominalOf (t : EngineTab) (g : Program) : Nat :=
  match t.slots.find? (fun s => s.program == g.index) with
  | some s => ((t.normalPath s).map (·.total)).getD 0
  | none => (((paths t {} 6144 (g.nominal + 1) { pc := g.entry } []).head?).map (·.total)).getD 0

/-- A field of the image against firmware's own figure. -/
def figure (d : Detail) (own img : Nat) : Check := (own == img, { d with lhs := own, rhs := img })

/-- The summary section's engine entry (R586). -/
def summaryEngine (p : Production) (b : List Byte) (x : Nat × EngineTab) (entry : Nat) : List Check :=
  let t := x.2
  let d := { atEntry 0x021F 0x70 entry 0xFFFF with engine := x.1 }
  let z := (t.slots.getLast?).getD {}
  [figure d x.1 (field b 0 1), figure d t.kind (field b 1 1), figure d t.slots.length (field b 4 4),
   figure d t.cMin (field b 8 4), figure d (t.slots.map p.work).sum (field b 12 4), figure d (z.offset + z.duration) (field b 16 4),
   figure d (((t.slots.map (fun s => s.duration - p.work s)).min?).getD 0) (field b 20 4),
   figure d ((((List.range t.slots.length).map t.leadOf).min?).getD 0) (field b 24 4)]

/-- The summary section's context entry (R586). -/
def summaryCtx (p : Production) (b : List Byte) (c : Ctx) (entry : Nat) : List Check :=
  let d := atEntry 0x021F 0x70 entry c.context
  let z := ((((p.engine c.firstEngine).getD {}).slotsOf c.context).find? (fun u => u.index == 0)).getD {}
  [figure d c.context (field b 0 2), figure d (Rat.ceil (p.delayMin c)).toNat (field b 4 4),
   figure d (if c.mode = 0 then 0 else ceilDiv (5 * (z.offset + z.duration)) 8) (field b 8 4)]

/-- SUMMARY_MISMATCH (R31, R69, R586). -/
def summaryMismatch (p : Production) : Option Detail :=
  let b := p.summary
  let n := p.engines.length
  let total := (p.engines.map (fun x => x.2.slots.length)).sum
  let d := atEntry 0x021F 0x70 0 0xFFFF
  firstFail (p.engines.flatMap (fun x =>
      figure (atEngine 0x021F 0x10 x.1) x.2.cMin x.2.cycleMin
        :: x.2.slots.zipIdx.flatMap (fun s =>
          let d := atSlot 0x021F 0x10 x.1 s.2
          [figure d (p.work s.1) s.1.work, figure d (x.2.leadOf s.2) s.1.minLead,
           figure { d with section_ := 0x11, entry := s.1.program } (p.work s.1) (x.2.programs.getD s.1.program {}).nominal])
        ++ x.2.programs.zipIdx.map (fun g =>
          figure { atEntry 0x021F 0x11 g.2 0xFFFF with engine := x.1 } (x.2.nominalOf g.1) g.1.nominal))
    ++ [figure d n (field b 0 2), figure d p.contexts.length (field b 2 2), figure d total (field b 4 4)]
    ++ p.engines.zipIdx.flatMap (fun x => summaryEngine p (slice b (16 + 32 * x.2) 32) x.1 x.2)
    ++ p.contexts.zipIdx.flatMap (fun c => summaryCtx p (slice b (16 + 32 * n + 16 * c.2) 16) c.1 (n + c.2)))

end Sys2Proof.Machine
end

