-- ==== Sys2Proof/Machine/Tables.lean ====
section
/-! DEFINITION. Admission of the tables of composition, audio, streams, queues, egress, links, DDR5 and the twin (R226, R242,
R272, R289, R356, R436, R510), and the whole admission of R48. -/

namespace Sys2Proof.Machine

/-! ### Composition (R226) -/

/-- Contexts that use a layer set. -/
def Production.usersOf (p : Production) (set : Nat) : List Ctx := p.contexts.filter (fun c => c.layers == set)

/-- One condition for each used layer of each set, the set as entry and the layer as item. -/
def eachLayer (p : Production) (reason : Nat) (ok : Nat → Layer → Bool) : List Check :=
  p.sets.zipIdx.flatMap (fun s => s.1.layers.zipIdx.map (fun l => (l.1.kind == 0 || ok s.2 l.1, atEntry reason 0x20 s.2 l.2)))

/-- A set has used layers. -/
def LayerSet.used (s : LayerSet) : Bool := s.layers.any (fun l => l.kind != 0)

/-- LAYER_TABLE. -/
def layerTable (p : Production) : Option Detail :=
  firstFail (p.sets.zipIdx.map (fun s =>
      let zs := (s.1.layers.filter (fun l => l.kind != 0)).map (·.z)
      (zs.dedup.length == zs.length && zs.all (fun z => decide (z ≤ 7)) && (!s.1.preview || decide (s.1.prevLink ≤ 9))
        && decide (s.1.prevSource ≤ 127), atEntry 0x022E 0x20 s.2 0xFFFF))
    ++ eachLayer p 0x022E (fun set l =>
      decide (l.opacity ≤ 256) && (!l.opaque_ || l.opacity == 256) && evenRect l.dst && evenRect l.src && evenRect l.env
        && (if l.kind = 1 then
              (match p.source l.source with
               | none => false
               | some s => (p.usersOf set).all (fun c => feeds s.format c.chroma))
            else decide (l.source < p.pairs.length) && l.stepMin == 0x10000 && l.stepMax == 0x10000
              && l.src.w == l.dst.w && l.src.h == l.dst.h
              && (p.usersOf set).all (fun c => (p.codingOf c).colour.getD 3 0 == 0)))
    ++ p.pairs.zipIdx.map (fun x => (x.1.stride % 64 == 0 && decide (4 * x.1.width ≤ x.1.stride),
        { atEntry 0x022E 0x20 (p.sets.length + x.2) 0xFFFF with item := 0xFFFF }))
    ++ eachCtx p 0x022E (fun c => decide (c.layers < p.sets.length))
    ++ p.engines.map (fun x =>
        (decide (((x.2.slots.map (·.context)).dedup.filter (fun n =>
            (p.sets.getD ((p.ctx n).getD {}).layers {}).used)).length ≤ 64),
          { atEntry 0x022E 0x20 0 0xFFFF with engine := x.1 })))

/-- Bits of a pixel in a frame buffer or line packet (R226, R587). -/
def pixelBits (chroma : Nat) : Nat := if chroma = 2 then 36 else 20

/-- SCALER_LIMIT. A class 3 descriptor covers a source line of span_max pixels (notes/assumptions/32). -/
def scalerLimit (p : Production) : Option Detail :=
  firstFail (p.sets.zipIdx.flatMap (fun x => x.1.layers.zipIdx.flatMap (fun y =>
    let l := y.1
    let d := atEntry 0x022F 0x20 x.2 y.2
    let users := p.usersOf x.2
    let tiles := users.flatMap (fun c => (List.range c.tiles).map c.tilePx)
    if l.kind = 0 then [] else
      [leCheck d l.spanMax 4096, geCheck d l.stepMin 0x2000, leCheck d l.stepMin l.stepMax, leCheck d l.stepMax 0x80000,
       (l.fits p.pairs tiles l.dst l.src, d)]
        ++ users.flatMap (fun c => c.engines.flatMap (fun e => ((p.engine e).getD {}).dr.map (fun r =>
          if r.cls = 3 ∧ r.base = y.2 + 6 then geCheck { d with engine := e } (64 * r.length) (ceilDiv (l.spanMax * (if l.kind = 2 then 32 else pixelBits c.chroma)) 8)
          else (true, d)))))))

/-- A link's guaranteed payload in bit/s at its target rate on four lanes (R299). -/
def Production.linkRate (p : Production) (l : Nat) : ℚ := payload100 ((p.roles.getD l {}).target) 4 * 100000000

/-- PREVIEW_RATE. -/
def previewRate (p : Production) : Option Detail :=
  firstFail ((List.range 10).map (fun l =>
    let cs := p.contexts.filter (fun c => ((p.sets[c.layers]?).map (fun s => s.preview && s.prevLink == l)).getD false)
    let bits : ℚ := (cs.map (fun c =>
      (c.width * c.height : ℚ) * c.rateNum / c.rateDen * (if c.chroma = 0 then 15 else pixelBits c.chroma))).sum
    leCheck (atEntry 0x0230 0x20 0 l) (105 / 100 * bits) (p.linkRate l)))

/-! ### Audio (R242) -/

/-- Sample rate of a rate code (R229). -/
def rateHz (code : Nat) : Nat := if code = 0 then 48000 else 96000

/-- A port moves data: it has a direction and its group's clocks run. -/
def Production.portOn (p : Production) (port dir : Nat) : Bool :=
  decide (port < 32) && (p.ports.getD port {}).direction == dir && (p.groups.getD (port / 8) {}).enable == 1

/-- The audio stream entry of a number. -/
def Production.astream (p : Production) (n : Nat) : Option AStream := p.astreams.find? (fun a => a.stream == n)

/-- The rate code of a route's source; none where it is not an enabled port or a declared channel (R233, R242). -/
def Production.routeSrc (p : Production) (r : ARoute) : Option Nat :=
  if r.srcKind = 0 then (if p.portOn (r.src / 2) 1 then some (p.groups.getD (r.src / 16) {}).rate else none)
  else (p.channels.find? (fun c => c.channel == r.src)).map (·.rate)

/-- The rate code of a route's destination. -/
def Production.routeDst (p : Production) (r : ARoute) : Option Nat :=
  if r.dstKind = 0 then (p.astream (r.dst / 64)).bind (fun a => if r.dst % 64 < a.channels then some a.rate else none)
  else if p.portOn (r.dst / 2) 2 then some (p.groups.getD (r.dst / 16) {}).rate else none

/-- AUDIO_ROUTE. -/
def audioRoute (p : Production) : Option Detail :=
  firstFail (p.ports.zipIdx.map (fun x => (!x.1.detect || x.1.direction == 1, atEntry 0x0231 0x30 x.2 0xFFFF))
    ++ p.astreams.zipIdx.map (fun a => (decide (a.1.stream ≤ 63), atEntry 0x0231 0x30 a.2 0xFFFF))
    ++ p.routes.zipIdx.flatMap (fun r =>
    let x := r.1
    let d := atEntry 0x0231 0x30 r.2 0xFFFF
    match p.routeSrc x, p.routeDst x with
    | some a, some b =>
      let least := if x.srcKind = 0 then 4 else ceilDiv (x.lag * rateHz a) 1000000000 + 4
      [(a == b && (p.routes.filter (fun y => y.dstKind == x.dstKind && y.dst == x.dst)).length == 1, d)]
        ++ (if x.dstKind = 0 then [] else [geCheck { d with item := x.dst / 2 } (p.ports.getD (x.dst / 2) {}).outDelay least])
    | _, _ => [(false, d)]))

/-- The channel limit of R240. -/
def channelLimit (ptime rate : Nat) : Nat :=
  match ptime, rate with
  | 0, 0 => 64
  | 0, _ => 32
  | _, 0 => 8
  | _, _ => 4

/-- AUDIO_PACKET. -/
def audioPacket (p : Production) : Option Detail :=
  firstFail (p.astreams.zipIdx.flatMap (fun a =>
    let d := atEntry 0x0232 0x30 a.2 0xFFFF
    [geCheck d a.1.channels 1, leCheck d a.1.channels (channelLimit a.1.ptime a.1.rate),
     (within_ 512 a.1.queue 575
      && (p.astreams.filter (fun b => b.queue == a.1.queue)).length == 1, d)]))

/-- AUDIO_DELAY (R241). -/
def audioDelay (p : Production) : Option Detail :=
  firstFail (p.astreams.zipIdx.flatMap (fun a =>
    let d := atEntry 0x0233 0x30 a.2 0xFFFF
    let fed := p.routes.filter (fun r => r.srcKind != 0 && r.dstKind == 0 && r.dst / 64 == a.1.stream)
    geCheck d (nsCycles a.1.delayDa) (nsCycles 50000)
      :: fed.map (fun r => geCheck d (nsCycles a.1.delayDa) (nsCycles (r.lag + 50000)))))

/-- A queue entry that agrees with the stream table: its stream writes it and has its kind (R259, R270). -/
def Production.queueAgrees (p : Production) (q : QEntry) : Bool :=
  match p.streams[q.stream]? with
  | none => false
  | some t => decide (q.queue ≤ 575) && t.queue == q.queue && t.kind == q.kind

/-! ### Streams and queues (R272) -/

/-- Enabled queues. -/
def Production.enabled (p : Production) : List QEntry := p.queues.filter (·.enable)

/-- STREAM_TABLE (R272, notes/assumptions/60). -/
def streamTable (ladle : Nat) (p : Production) : Option Detail :=
  let head := atEntry 0x0234 0x40 0 0xFFFF
  firstFail ([geCheck head ladle p.minMicro, (within_ 1 p.ladleMask 65535, head), leCheck head (nsCycles p.affinity) (nsCycles 2000)]
    ++ p.streams.zipIdx.flatMap (fun t =>
      let x := t.1
      let d := atEntry 0x0234 0x40 t.2 0xFFFF
      [(decide (x.priority ≤ 3) && (if x.kind ≤ 1 then x.queue == x.owner else within_ 512 x.queue 575)
        && (x.kind != 2 || (p.astream x.owner).map (·.queue) == some x.queue) && (x.kind != 3 || decide (x.owner ≤ 63))
        && (x.kind != 4 || x.owner == 0xFFFF) && (decide (1 < x.kind) || (p.ctx x.owner).isSome)
        && (if x.kind = 1 then (!x.rtp || x.payload == 33) else within_ 96 x.payload 127), d),
       geCheck d x.maxPacket 256, leCheck d x.maxPacket 8972,
       (if x.fixedSize then x.fixed == x.maxPacket else decide (p.enabled.length ≤ 256), d)])
    ++ p.queues.zipIdx.map (fun q => (p.queueAgrees q.1 && (p.queues.filter (fun y => y.queue == q.1.queue)).length == 1,
        atEntry 0x0234 0x41 q.2 0xFFFF))
    ++ eachCtx p 0x0234 (fun c =>
      let t := p.streams.getD c.stream {}
      decide (t.kind ≤ 1) && t.queue == c.context && t.owner == c.context
        && p.enabled.any (fun q => q.queue == c.context && q.stream == c.stream))
    ++ p.astreams.zipIdx.map (fun a =>
      (p.streams.any (fun t => t.kind == 2 && t.owner == a.1.stream && t.queue == a.1.queue), atEntry 0x0234 0x30 a.2 0xFFFF)))

/-- The stream entry of a queue. -/
def Production.qstream (p : Production) (q : QEntry) : Strm := p.streams.getD q.stream {}

/-- ptime in seconds. -/
def AStream.ptimeS (a : AStream) : ℚ := if a.ptime = 0 then 1 / 8000 else 1 / 1000

/-- h, r and b of R272 for a queue, in seconds, bit/s and bits; zero for ancillary and event queues. -/
def Production.load (p : Production) (q : QEntry) : ℚ × ℚ × ℚ :=
  let t := p.qstream q
  if t.kind ≤ 1 then
    match p.ctx t.owner with
    | none => (0, 0, 0)
    | some c =>
      ((if c.mode = 0 then (c.delayD : ℚ) / 1000000000 + c.rowTime else c.frame + ((c.slotEnd + c.delayD : ℕ) : ℚ) / 1000000000),
        p.rMax c, p.bMax c)
  else if t.kind = 2 then
    match p.astream t.owner with
    | none => (0, 0, 0)
    | some a => ((a.delayDa : ℚ) / 1000000000 + a.ptimeS, a.channels * rateHz a.rate * 24, 0)
  else (0, 0, 0)

/-- Short packets of a video stream's access unit: 10 + 2 × K × n_t (R272). -/
def Ctx.shortPackets (c : Ctx) : Nat := 10 + 2 * c.rows * c.tiles

/-- a of R272. -/
def Production.shortIn (p : Production) (t : Strm) (span : ℚ) : Nat :=
  if t.kind ≤ 1 ∧ t.fixedSize = false then
    match p.ctx t.owner with
    | none => 0
    | some c => c.shortPackets * ((Rat.ceil (span / c.frame)).toNat + 1)
  else 0

/-- n_q of R272, packets a second. -/
def Production.packetRate (p : Production) (t : Strm) : ℚ :=
  if t.kind ≤ 1 then
    match p.ctx t.owner with
    | none => 0
    | some c => (p.rMax c : ℚ) / (8 * (t.maxPacket - 15)) + c.shortPackets / c.frame
  else if t.kind = 2 then ((p.astream t.owner).map (fun a => 1 / a.ptimeS)).getD 0
  else 0

/-- The least capacity of a queue (R272). -/
def Production.queueNeed (p : Production) (q : QEntry) : Nat :=
  let t := p.qstream q
  let l := p.load q
  let hold : ℚ := if p.descr.twinMode = 0 then 0 else q.ackHold / 1000000000
  let full : ℚ := if t.fixedSize then t.fixed else t.maxPacket
  (Rat.ceil ((l.2.1 * (l.1 + hold) + l.2.2) / 8 * (1 + 28 / full))).toNat + 32 * p.shortIn t (l.1 + hold) + 64

/-- QUEUE_SIZE (R270, R272, notes/assumptions/60). -/
def queueSize (p : Production) : Option Detail :=
  let stop := fun (q : QEntry) => q.offset + 19456 + q.middle
  let head := atEntry 0x0235 0x41 0 0xFFFF
  firstFail ([leCheck head p.stockpot (2 ^ 30), (p.stockpot % 4096 == 0, head)]
    ++ p.queues.zipIdx.flatMap (fun x =>
      let q := x.1
      let d := atEntry 0x0235 0x41 x.2 0xFFFF
      (if q.enable then [geCheck d (18432 + q.middle) (p.queueNeed q)] else [])
        ++ [(q.middle % 65536 == 0 && q.offset % 4096 == 0, d), leCheck d (stop q) p.stockpot]
        ++ p.queues.zipIdx.map (fun y => if y.2 < x.2 ∧ y.1.offset ≤ q.offset then leCheck d (stop y.1) q.offset
            else if y.2 < x.2 then leCheck d (stop q) y.1.offset else (true, d))))

/-- LADLE_LOAD. -/
def ladleLoad (p : Production) : Option Detail :=
  let cost := (p.streams.map (fun t => ((Rat.ceil (p.packetRate t / 100000)).toNat + 2) * (72 + ceilDiv t.maxPacket 16) + 2 * 96)).sum
  let ladles := ((List.range 16).filter (bitOf p.ladleMask)).length
  firstFail [leCheck (atEntry 0x0236 0x40 0 0xFFFF) cost (4000 * ladles)]

/-! ### Egress (R289) -/

/-- EGRESS_TABLE. -/
def egressTable (p : Production) : Option Detail :=
  let head := atEntry 0x0237 0x42 0 0xFFFF
  firstFail ([(p.scheds.map (·.queue) == p.enabled.map (·.queue) && p.packetMode == decide (256 < p.enabled.length), head)]
    ++ (if p.gcl = [] then [(p.cycleNs == 0, head)]
        else [geCheck head (nsCycles p.cycleNs) (nsCycles 10000), leCheck head (nsCycles p.cycleNs) (nsCycles 1000000000),
          ((p.gcl.map (·.1)).sum == p.cycleNs, head)])
    ++ p.scheds.zipIdx.flatMap (fun x =>
      let e := x.1
      let d := atEntry 0x0237 0x42 x.2 0xFFFF
      let t := ((p.queues.find? (fun q => q.queue == e.queue)).map p.qstream).getD {}
      [(decide (e.cls ≤ 8) && (if e.cls = 8 then within_ 1 e.weight 1024 else e.weight == 0), d)]
        ++ (if e.rate = 0 ∧ e.rateMin = 0 ∧ e.rateMax = 0 then [] else [leCheck d e.rateMin e.rate, leCheck d e.rate e.rateMax])
        ++ [geCheck d e.burst (if p.packetMode then 1 else t.maxPacket + e.overhead)])
    ++ p.gcl.zipIdx.flatMap (fun g =>
      let d := atEntry 0x0237 0x42 (p.scheds.length + g.2) 0xFFFF
      [geCheck d (nsCycles g.1.1) (nsCycles 1000)]))

/-- The runs of open entries of a class, their lengths in nanoseconds, continued across the cycle boundary (R282). -/
def openRuns (gcl : List (Nat × Nat)) (cls : Nat) : List Nat :=
  let i := gcl.findIdx (fun g => !bitOf g.2 cls)
  let turned := gcl.drop i ++ gcl.take i
  let step := fun (a : List Nat × Nat) (g : Nat × Nat) =>
    if bitOf g.2 cls then (a.1, a.2 + g.1) else if a.2 = 0 then a else (a.1 ++ [a.2], 0)
  let r := turned.foldl step ([], 0)
  if r.2 = 0 then r.1 else r.1 ++ [r.2]

/-- A class's gate never closes (R281, R282). -/
def neverCloses (gcl : List (Nat × Nat)) (cls : Nat) : Bool := gcl.all (fun g => bitOf g.2 cls)

/-- GATE_FIT. -/
def gateFit (p : Production) : Option Detail :=
  firstFail (p.scheds.zipIdx.map (fun x =>
    let t := ((p.queues.find? (fun q => q.queue == x.1.queue)).map p.qstream).getD {}
    let need : ℚ := (t.maxPacket + 24 : ℚ) * 8 * 1000000000 / p.linkRate 10
    let d := atEntry 0x0238 0x42 x.2 0xFFFF
    if neverCloses p.gcl x.1.cls then (true, d) else leCheck d (nsCycles need) (nsCycles (((openRuns p.gcl x.1.cls).min?).getD 0))))

/-- r_q of R289 in bit/s; packets of a FIXED_SIZE stream are fixed_packet bytes (R256). -/
def Production.egressRate (p : Production) (e : SchedEntry) : ℚ :=
  match p.queues.find? (fun q => q.queue == e.queue) with
  | none => 0
  | some q =>
    let t := p.qstream q
    let n := p.packetRate t
    if p.packetMode then 8 * n * t.fixed
    else if t.kind ≤ 1 then (p.load q).2.1 + 8 * n * (15 + e.overhead)
    else if t.kind = 2 then
      8 * n * ((if t.fixedSize then (t.fixed : ℚ)
        else ((p.astream t.owner).map (fun a => 12 + 3 * (a.channels : ℚ) * a.ptimeS * rateHz a.rate)).getD 0) + e.overhead)
    else 0

/-- A class's open fraction of the cycle. -/
def openFraction (p : Production) (cls : Nat) : ℚ :=
  if p.gcl = [] then 1 else (((p.gcl.filter (fun g => bitOf g.2 cls)).map (·.1)).sum : ℕ) / (p.cycleNs : ℚ)

/-- EGRESS_RATE. -/
def egressRateCheck (p : Production) : Option Detail :=
  let r := p.linkRate 10
  let sumOf := fun (l : List SchedEntry) => (l.map p.egressRate).sum
  let head := atEntry 0x0239 0x42 0 0xFFFF
  firstFail (p.scheds.zipIdx.map (fun x =>
      let e := x.1
      let d := atEntry 0x0239 0x42 x.2 0xFFFF
      let t := ((p.queues.find? (fun q => q.queue == e.queue)).map p.qstream).getD {}
      if e.rate = 0 then (true, d)
      else if p.packetMode then geCheck d e.rateMin (p.packetRate t)
      else geCheck d e.rateMin (p.egressRate e / 1000))
    ++ (List.range 9).map (fun c => leCheck head (sumOf (p.scheds.filter (fun e => e.cls == c))) (openFraction p c * r))
    ++ [leCheck head (sumOf p.scheds) (95 / 100 * r)])

/-! ### Links and sources (R356) -/

/-- A link may take a role (R338). -/
def roleAllowed (link role : Nat) : Bool :=
  if link = 10 then role == 4
  else if link = 11 then role == 0 || role == 1 || role == 5
  else role == 0 || role == 1 || role == 2 || role == 3

/-- LINK_ROLE; `session` is the link that carries the open session (R356). -/
def linkRole (session : Option Nat) (p : Production) : Option Detail :=
  firstFail (p.roles.zipIdx.map (fun r =>
    (roleAllowed r.2 r.1.role && (r.1.role == 3 || (!r.1.notify && !r.1.tod)) && (r.2 != 11 || p.descr.twinMode == 0 || r.1.role == 5)
      && (session != some r.2 || r.1.role == 3) && p.sets.all (fun s => !s.preview || s.prevLink != r.2 || r.1.role == 2),
      atEntry 0x023A 0x50 r.2 r.2)))

/-- The column ranges of a source: link, first pixel and end (R342). -/
def Source.ranges (s : Source) : List (Nat × Nat × Nat) :=
  (List.range s.linkCount).map (fun i =>
    (s.links.getD i 0, s.xStart.getD i 0, if i + 1 < s.linkCount then s.xStart.getD (i + 1) 0 else s.width))

/-- BEAT messages, one in 10 µs each way on a link in the twin role (R338, R489). -/
def Production.beatBytes (p : Production) (link : Nat) : ℚ :=
  if (p.roles.getD link {}).role = 5 then 100000 * (msgBytes 40 : ℕ) else 0

/-- Message bytes a second that arrive on a link at peak rate: LINE at the line rate, and 4-byte audio samples (R355,
notes/assumptions/32). -/
def Production.inBytes (p : Production) (link : Nat) : ℚ :=
  ((p.sources.flatMap (fun s => (s.ranges.filter (fun r => r.1 == link)).map (fun r =>
      (msgBytes (16 + ceilDiv (lineBits s.format 0 (r.2.2 - r.2.1)) 8) : ℚ) * s.totalLines * s.rateNum / s.rateDen))).sum
    + (((p.channels.filter (fun c => c.link == link)).map (fun c => 4 * rateHz c.rate)).sum : ℕ)) + p.beatBytes link

/-- Bytes a second of EGRESS_ITEM messages (R285, R352, R355): what R289 gives a queue's packets, with each item's header,
message header and, where the item's length is one, its padding (notes/assumptions/32). -/
def Production.itemBytes (p : Production) (e : SchedEntry) : ℚ :=
  match p.queues.find? (fun q => q.queue == e.queue) with
  | none => 0
  | some q =>
    let t := p.qstream q
    let n := p.packetRate t
    if p.packetMode ∨ t.fixedSize then n * msgBytes (24 + t.fixed)
    else if t.kind ≤ 1 then (p.load q).2.1 / 8 + n * (15 + 28)
    else if t.kind = 2 then
      n * ((p.astream t.owner).map (fun a =>
        ((msgBytes (24 + (12 + 3 * (a.channels : ℚ) * a.ptimeS * rateHz a.rate).ceil.toNat) : ℕ) : ℚ))).getD 0
    else 0

/-- Message bytes a second that leave on a link: FRAME_MARK of each source, preview lines, the items of L10, an
EVENT_NOTIFY in each millisecond where the link's flag asks for them (R347), and BEAT. -/
def Production.outBytes (p : Production) (link : Nat) : ℚ :=
  (if link = 10 then (p.scheds.map p.itemBytes).sum else 0)
    + (if (p.roles.getD link {}).notify then 1000 * (msgBytes 8 : ℕ) else 0) + p.beatBytes link +
  ((p.sources.filter (fun s => s.ranges.any (fun r => r.1 == link))).map (fun s => (24 : ℚ) * s.rateNum / s.rateDen)).sum
    + ((p.contexts.filter (fun c => ((p.sets[c.layers]?).map (fun s => s.preview && s.prevLink == link)).getD false)).flatMap
        (fun c => (List.range c.tiles).map (fun t =>
          (msgBytes (16 + ceilDiv (lineBits (if c.chroma = 0 then 1 else if c.chroma = 1 then 0 else 2) 0
            ((c.tilePx t).2 - (c.tilePx t).1)) 8) : ℚ) * c.height * c.rateNum / c.rateDen))).sum

/-- SOURCE_TABLE. -/
def sourceTable (p : Production) : Option Detail :=
  let carries := fun l => (p.roles.getD l {}).role == 1 || (p.roles.getD l {}).role == 3
  firstFail (p.sources.zipIdx.flatMap (fun x =>
      let s := x.1
      let xs : List Nat := s.ranges.map (·.2.1)
      let d := atEntry 0x023B 2 x.2 0xFFFF
      [(decide (s.source ≤ 127) && (p.sources.filter (fun y => y.source == s.source)).length == 1 && decide (0 < s.rateNum)
        && decide (0 < s.rateDen), d), leCheck d s.height s.totalLines,
       (s.ranges.all (fun r => decide (r.1 < 12) && carries r.1) && (s.links.drop s.linkCount).all (· == 0xFF)
        && xs.headD 1 == 0 && xs.all (fun v => v % 2 == 0) && s.ranges.all (fun r => decide (r.2.1 < r.2.2))
        && decide ((xs.getLast?).getD 0 < s.width), d)])
    ++ p.channels.zipIdx.map (fun x => (decide (x.1.channel ≤ 255) && decide (x.1.link < 12) && carries x.1.link
        && (p.channels.filter (fun y => y.channel == x.1.channel)).length == 1,
        atEntry 0x023B 2 (p.sources.length + x.2) x.1.link))
    ++ (List.range 12).flatMap (fun l =>
        [leCheck (atEntry 0x023B 2 0 l) (8 * p.inBytes l) (p.linkRate l), leCheck (atEntry 0x023B 2 0 l) (8 * p.outBytes l) (p.linkRate l)]))

/-! ### DDR5 and the twin (R436, R510) -/

/-- A line length L of R587. -/
def lineBytes (width bits : Nat) : Nat := 64 * ceilDiv (ceilDiv (width * bits) 8) 64

/-- The regions that a production requires, with their least sizes (R434, R587). -/
def Production.needs (p : Production) : List (Nat × Nat × Nat) :=
  let srcBytes := fun (s : Source) => s.height * lineBytes s.width (if s.format = 2 then 36 else 20)
  let src := fun n => (p.source n).getD {}
  let shared := ((p.contexts.filter (fun c => c.mode == 1)).map (·.source)).dedup
  let used := p.contexts.map (·.layers)
  let layered := ((p.sets.zipIdx.filter (fun s => used.contains s.2)).flatMap (fun s =>
    (s.1.layers.filter (fun l => l.kind == 1)).map (·.source))).dedup
  p.contexts.map (fun c => (1, c.context, 65536))
    ++ p.contexts.flatMap (fun c => (List.range ((p.codingOf c).structure_ + 2)).map (fun b =>
        (2, 4 * c.context + b, c.rows * c.cols * (ctuReservation c.chroma + 1280))))
    ++ shared.flatMap (fun n => (List.range 2).map (fun i =>
        (3, 2 * n + i, srcBytes (src n) + ceilDiv (src n).width 64 * ceilDiv (src n).height 64 * 1280 + 4096)))
    ++ layered.flatMap (fun n => (List.range 3).map (fun i => (4, 3 * n + i, srcBytes (src n) + 4096)))
    ++ p.pairs.zipIdx.flatMap (fun x => (List.range 2).map (fun i => (5, 2 * x.2 + i, x.1.stride * x.1.height)))
    ++ (p.contexts.filter (fun c => ((p.sets[c.layers]?).map (·.preview)).getD false)).map (fun c =>
        (6, c.context, 2 * (if c.mode = 0 then 64 else c.height) * lineBytes c.width (pixelBits c.chroma)))
    ++ [(7, 0, p.stockpot), (8, 0, 17 * 2 ^ 20), (10, 0, 64 * 2 ^ 20)]
    ++ (if p.routes = [] then [] else [(9, 0, 4 * 2 ^ 20)]) ++ (if p.descr.twinMode = 0 then [] else [(11, 0, 64 * 2 ^ 20)])

/-- A region may be present: it names a declared context, source or pair, or is a single one (R436). -/
def Production.mayHave (p : Production) (r : Region) : Bool :=
  match r.kind with
  | 1 | 6 => (p.ctx r.index).isSome
  | 2 => (p.ctx (r.index / 4)).isSome
  | 3 => (p.source (r.index / 2)).isSome
  | 4 => (p.source (r.index / 3)).isSome
  | 5 => decide (r.index / 2 < p.pairs.length)
  | _ => r.index == 0

/-- The capacity that the descriptor's topology gives (R415). -/
def Descr.capacity (d : Descr) : Nat := 2 * d.channels * d.ranks * rankBytes d.density

/-- DDR_REGION (R434, R435, R587). A region that is absent is named by the number of its kind. -/
def ddrRegion (p : Production) : Option Detail :=
  firstFail (p.regions.zipIdx.flatMap (fun x =>
      let r := x.1
      let d := atEntry 0x023C 0x60 x.2 0xFFFF
      let need := (p.needs.filter (fun n => n.1 == r.kind && n.2.1 == r.index)).map (·.2.2)
      [(r.base % 4096 == 0 && r.size % 4096 == 0 && p.mayHave r
        && (p.regions.filter (fun y => y.kind == r.kind && y.index == r.index)).length == 1, d)]
        ++ need.map (fun n => geCheck d r.size (4096 * ceilDiv n 4096))
        ++ [leCheck d (r.base + r.size) p.descr.capacity]
        ++ p.regions.zipIdx.map (fun y => if y.2 < x.2 ∧ y.1.base ≤ r.base then leCheck d (y.1.base + y.1.size) r.base
            else if y.2 < x.2 then leCheck d (r.base + r.size) y.1.base else (true, d)))
    ++ p.needs.map (fun n => (p.regions.any (fun r => r.kind == n.1 && r.index == n.2.1),
        atEntry 0x023C 0x60 p.regions.length n.1)))

/-- DDR_PORT (R436). -/
def ddrPort (d : Ddr) (p : Production) : Option Detail :=
  firstFail (p.targets.zipIdx.flatMap (fun t =>
      [geCheck (atEntry 0x023D 0x60 t.2 t.2) (nsCycles t.1) (nsCycles 100),
       leCheck (atEntry 0x023D 0x60 t.2 t.2) (nsCycles t.1) (nsCycles 100000)])
    ++ [(within_ 8 p.descr.interleave 14 && p.descr.channels == d.channels && p.descr.density == d.density
        && p.descr.ranks == d.ranks, atEntry 0x023D 1 0 0xFFFF)])

/-- TWIN_CONFIG (R510). -/
def twinConfig (p : Production) : Option Detail :=
  let m := (p.contexts.headD {}).twinMargin
  if p.descr.twinMode = 0 then none
  else firstFail (p.queues.zipIdx.map (fun q =>
        let d := atEntry 0x023E 0x41 q.2 0xFFFF
        if q.1.enable then geCheck d (nsCycles q.1.ackHold) (nsCycles 20000) else (true, d))
    ++ p.contexts.zipIdx.map (fun c =>
        let d := atEntry 0x023E 3 c.2 c.1.context
        if c.1.twinMargin = 0 then (true, d) else geCheck d (nsCycles c.1.twinMargin) (nsCycles 250000))
    ++ eachCtx p 0x023E (fun c => c.twinMargin == m))

/-! ### The whole admission -/

/-- The production of a staged image, with its SHA-256 (R489, R527). -/
def production (img : List Byte) : Production :=
  let p := parseImage img
  { p with sha := sha256 img }

/-- Admission: the first check that fails, in the order of R48. -/
def State.admission (s : State) (img : List Byte) : Option Detail :=
  let p := production img
  firstSome [imageFormat img p, imageCrc img p, imageSignature s.sec.otp img p, partMismatch p, engineMixed img p, rateFamily p,
    cueMemoryFull p, slotOverlap p, slotWrap p, wings p, dmaLeadShort p, cueEncoding p, unitHazard p, bankRule img p,
    tileTooWide p, pictureSize p, codingProfile p, codingTool p, refreshGeometry p, backdropPeriod p, ingestWindow p,
    searchWindow p, boxOfficeRange p, engineBitCap p, floorFit p, boxOrder p, layerTable p, scalerLimit p, previewRate p,
    audioRoute p, audioPacket p, audioDelay p, streamTable s.boot.fw.ladle p, queueSize p, ladleLoad p, egressTable p, gateFit p,
    egressRateCheck p, linkRole s.sessionLink p, sourceTable p, ddrRegion p, ddrPort s.ddr p, twinConfig p, changeoverMissing p,
    rowEarly p, slotEndCheck p, delayShort p, ddrDemand p, summaryMismatch p]

/-- The refusal detail's bytes (R483): 16 of them under a minor below 2. -/
def Detail.bytes (d : Detail) (minor : Nat) : List Byte :=
  leBytes 2 d.reason ++ leBytes 1 d.engine ++ [0] ++ leBytes 4 d.slot ++ leBytes 2 d.section_ ++ leBytes 2 d.entry
    ++ leBytes 2 d.item ++ [0, 0] ++ (if minor < 2 then [] else leBytes 8 d.lhs ++ leBytes 8 d.rhs)

end Sys2Proof.Machine
end

