-- ==== Sys2Proof/Machine/ClockOps.lean ====
section
/-! DEFINITION. The shared operations of the references and the DPLL (R359 to R387): candidate and DPLL state changes,
the holdover value, selection and switches. Units: frequencies in 10^-12, phases in ps, time in FCLK ticks. -/

namespace Sys2Proof.Machine

/-- The candidates, the DPLL and the events due, at one instant. -/
structure Ck where
  cands : Vector Candidate 16
  dpll  : Dpll
  tick  : Nat
  now   : Nat
  evs   : List Ev := []
  deriving DecidableEq, Repr

/-- House time in ns at the start of the XO cycle in progress, four FCLK ticks long: the stamp that its events share
(R359, R387). -/
def State.xoNow (s : State) : Nat := (s.time.tick - s.time.fclk % 4) * 5 / 4

/-- The clock part of a state. -/
def State.ck (s : State) : Ck := { cands := s.cands, dpll := s.dpll, tick := s.time.fclk, now := s.xoNow }

/-- The state with its clock part replaced, and the events raised in order. -/
def State.putCk (s : State) (k : Ck) : State := State.raiseAll { s with cands := k.cands, dpll := k.dpll } k.evs

/-- An event of the clock part, stamped now. -/
def Ck.say (k : Ck) (source type : Nat) (fs : List (Nat × Int)) : Ck :=
  { k with evs := k.evs ++ [⟨source, type, k.now, evData fs⟩] }

/-- A sticky bit set. -/
def setBit (x i : Nat) : Nat := if bitOf x i then x else x + 2 ^ i

/-- Sticky bit i set at a tick: the bits set in one XO cycle are kept, for a clear in that cycle (R386). -/
def Dpll.mark (d : Dpll) (tick i : Nat) : Dpll :=
  { d with sticky := setBit d.sticky i, freshXo := tick / 4, fresh := setBit (if d.freshXo = tick / 4 then d.fresh else 0) i }

/-- The same for a candidate. -/
def Candidate.mark (x : Candidate) (tick i : Nat) : Candidate :=
  { x with sticky := setBit x.sticky i, freshXo := tick / 4, fresh := setBit (if x.freshXo = tick / 4 then x.fresh else 0) i }

/-- The code of an optional candidate: 0xFF for none (R384). -/
def candCode (c : Option Nat) : Nat := c.getD 0xFF

/-- e^(-1/τ) in units of 2^-64, by its series (R379). -/
def expDecay (tau : Nat) : Nat :=
  let term := fun k => (2 ^ 64 : Int) / ((tau : Int) ^ k * (Nat.factorial k : Int)) * (if k % 2 = 0 then 1 else -1)
  ((List.range 24).map term).sum.toNat

/-- The holdover value and whether the history is valid (R379). -/
def Dpll.holdover (d : Dpll) : Int := if 16 ≤ d.samples ∧ 0 < d.holdDen then d.holdNum / d.holdDen else d.fixed

/-- A value moved toward a goal by at most `step`. -/
def approach (y goal step : Int) : Int := clampInt goal (y - step) (y + step)

/-- What y is drawn to: 0, the holdover value, or the host's word; the loop asks for its own in PHASE_COMPARISON. -/
def Dpll.goal (d : Dpll) : Int :=
  match d.state with
  | 3 => d.holdover
  | 4 => d.word
  | _ => d.y

/-- y moved toward a goal inside pull_range at no more than freq_rate, the part of a unit left over kept, and summed over
the ticks that passed, as a straight movement and then y held (R361, R379). -/
def Dpll.moveY (d : Dpll) (tick : Nat) (goal : Int) : Dpll :=
  let dt := tick - d.yTick
  let pull := (d.cfg.pullRange : Int) * 1000000
  let goalIn := clampInt goal (-pull) pull
  let room := d.yRem + dt * d.cfg.freqRate
  let y := approach d.y goalIn ((room / 800000 : Nat) : Int)
  let moving := min dt (ceilDiv ((y - d.y).natAbs * 800000 - d.yRem) d.cfg.freqRate)
  { d with y := y, yTick := tick, yRem := if y = goalIn then 0 else room % 800000
           ySum := d.ySum + (d.y + y) * moving / 2 + y * ((dt - moving : Nat) : Int) }

/-- The DPLL after the time since it was last looked at: y moved (R361), and phase movements made at no more than
phase_slew, the part of a picosecond left over kept (R375, R380). -/
def Dpll.settle (d : Dpll) (tick : Nat) (goal : Int) : Dpll :=
  let d1 := d.moveY tick goal
  if d.switching.isSome ∨ d.state = 0 then d1
  else
    let room := d.slewRem + (tick - d.yTick) * d.cfg.phaseSlew
    let slew : Int := (room / 800000 : Nat)
    let a := clampInt d.align (-slew) slew
    let left := slew - (if a < 0 then -a else a)
    let n := clampInt d.nudge (-left) left
    { d1 with align := d.align - a, nudge := d.nudge - n, slewRem := if d.align = a ∧ d.nudge = n then 0 else room % 800000
              buildOut := if d.state = 1 ∨ d.state = 2 then d.buildOut + a + n else d.buildOut }

/-- The DPLL brought up to the present. -/
def Ck.settle (k : Ck) : Ck := { k with dpll := k.dpll.settle k.tick k.dpll.goal }

/-- A DPLL state change, with DPLL_STATE (R376, R379, R387). -/
def Ck.setDpll (k : Ck) (new cause : Nat) : Ck :=
  let d := k.dpll
  if d.state = new then k
  else
    let d1 := if new = 3 then d.mark k.tick 0 else if new = 4 then d.mark k.tick 3 else d
    let fixed := if d.state = 0 ∨ d.state = 4 then d.y else d.fixed
    { k with dpll := { d1 with state := new, since := k.now, fixed := fixed, secFrom := none
                               lastY := if d.secMean.isSome then d.lastY else none
                               lockFrom := none, overRun := 0, error := if new = 1 ∨ new = 2 then d.error else 0
                               pull := d.pull && decide (new = 1 ∨ new = 2) } }.say
      788 0x0810 [(1, d.state), (1, new), (1, candCode d.active), (1, cause)]

/-- A candidate state change, with CANDIDATE_STATE (R366, R387). -/
def Ck.setCand (k : Ck) (c : Fin 16) (new cause : Nat) : Ck :=
  let x := vget k.cands c
  if x.state = new then k
  else
    let x1 := if new = 3 then x.mark k.tick 4 else if new = 2 then x.mark k.tick 5 else x
    { k with cands := vset k.cands c { x1 with state := new } }.say
      (724 + c) 0x0801 [(1, x.state), (1, new), (1, cause)]

/-- q(c) of R370. -/
def Ck.q (k : Ck) (c : Nat) : Bool :=
  match finOf 16 c with
  | none => false
  | some i => let x := vget k.cands i; (x.state == 2 || x.state == 3) && x.cfg.rank != 0

/-- Two candidates' measured frequencies disagree (R372). -/
def disagree (a b : Candidate) : Bool :=
  decide ((min a.cfg.window b.cfg.window : Int) * 1000000 < 2 * |a.offset - b.offset|)

/-- Whether candidate c is preferred to the present best b (R370, R372). -/
def Ck.beats (k : Ck) (c b : Fin 16) : Bool :=
  let x := vget k.cands c
  let y := vget k.cands b
  if x.cfg.rank ≠ y.cfg.rank then decide (x.cfg.rank < y.cfg.rank)
  else if disagree x y then
    (let dx := |x.offset - k.dpll.y|; let dy := |y.offset - k.dpll.y|
     if dx = dy then decide (c.val < b.val) else decide (dx < dy))
  else decide (c.val < b.val)

/-- The best qualified candidate (R370, R371). -/
def Ck.best (k : Ck) : Option (Fin 16) :=
  (List.finRange 16).foldl (fun (b : Option (Fin 16)) (c : Fin 16) =>
    if k.q c.val then (match b with | none => some c | some x => if k.beats c x then some c else b) else b) none

/-- The target that selection names (R370). -/
def Ck.target (k : Ck) (deliberate : Bool) : Option Nat :=
  let d := k.dpll
  let t : Option Nat :=
    if d.forceN = false then (if k.q d.refsel then some d.refsel else none)
    else if k.q d.refsel then some d.refsel
    else k.best.map (·.val)
  match d.active with
  | some a => if d.forceN ∧ k.q a ∧ d.cfg.revertive = 0 ∧ deliberate = false then some a else t
  | none => t

/-- RANK_CONFLICT: equal ranks that disagree, in the flags, the sticky history and an event on entry (R372). -/
def Ck.conflicts (k : Ck) : Ck :=
  (List.finRange 16).foldl (fun k c =>
    let x := vget k.cands c
    let other := (List.finRange 16).find? (fun d =>
      let y := vget k.cands d
      decide (d ≠ c) && k.q c && k.q d && decide (x.cfg.rank = y.cfg.rank) && disagree x y)
    match other with
    | none => { k with cands := vset k.cands c { x with conflict := false } }
    | some d =>
      let k1 := { k with cands := vset k.cands c { x.mark k.tick 3 with conflict := true } }
      if x.conflict then k1
      else k1.say (724 + c) 0x0803 [(1, d.val), (4, x.offset), (4, (vget k.cands d).offset)]) k

/-- The ticks that a switch to a candidate measures for: max(4 comparison periods, 10 µs) (R365, R373). -/
def measureTicks (nominal : Nat) : Nat := max 8000 (ceilDiv (4 * ceilDiv nominal 1000000 * 800000000) nominal)

/-- A switch begins (R373). One to holdover ends in the same cycle. -/
def Ck.startSwitch (k : Ck) (t : Option Nat) : Ck :=
  let from_ := k.dpll.active
  let k1 := (List.finRange 16).foldl (fun k c =>
    if (vget k.cands c).state = 3 ∧ t ≠ some c.val then k.setCand c 2 6 else k) k
  let k2 := { k1 with dpll := { k1.dpll with active := none, switches := satAdd 32 k1.dpll.switches 1 } }
  match t.bind (finOf 16) with
  | none => k2.setDpll 3 0
  | some c =>
    let k3 := (k2.setCand c 3 5).setDpll 3 0
    { k3 with dpll := { k3.dpll with switching := some (some c.val), switchFrom := from_
                                     switchEnd := k.tick + measureTicks (vget k.cands c).cfg.nominal } }

/-- A cause of selection, deliberate or not (R370): those of one XO cycle start one selection, which runs at its end. -/
def Ck.select (k : Ck) (deliberate : Bool) : Ck :=
  { k with dpll := { k.dpll with due := some (k.dpll.due.getD false || deliberate) } }

/-- Selection (R370 to R373): not in SOFTWARE; recorded during a switch. -/
def Ck.choose (k0 : Ck) (deliberate : Bool) : Ck :=
  let k := k0.conflicts
  let d := k.dpll
  if d.state = 4 then k
  else if d.switching.isSome then
    { k with dpll := { d with deferred := true, deliberate := d.deliberate || deliberate } }
  else
    let t := k.target deliberate
    if t = d.active then k else k.startSwitch t

/-- A candidate goes to DISQUALIFIED; the DPLL leaves it for HOLDOVER in the same XO cycle where it is the active one
(R366, R376). -/
def Ck.dropCand (k : Ck) (c : Fin 16) (cause : Nat) : Ck :=
  if (vget k.cands c).state = 0 then k
  else
    let k1 := k.setCand c 0 cause
    if k1.dpll.active = some c.val then { k1 with dpll := { k1.dpll with lostDue := true } } else k1

/-- The DPLL leaves its reference for HOLDOVER, for a cause (R376, R378). -/
def Ck.leave (k : Ck) (cause : Nat) : Ck :=
  let k1 := k.setDpll 3 cause
  { k1 with dpll := { k1.dpll with active := none, lostDue := false } }

/-- The end of an XO cycle: the active candidate lost in it is left, and the one selection of its causes runs (R370, R376,
R378). -/
def Ck.endXo (k : Ck) : Ck :=
  let k1 := if k.dpll.lostDue then k.settle.leave 1 else k
  match k1.dpll.due with
  | none => k1
  | some b => Ck.choose { k1 with dpll := { k1.dpll with due := none } } b

/-- The settings of one candidate take effect (R364, R366); the selection that follows is the
command's. -/
def Ck.applyCand (k : Ck) (c : Fin 16) (f : CandSet) : Ck :=
  let x := vget k.cands c
  let changed := decide (f.nominal ≠ x.cfg.nominal ∨ f.window ≠ x.cfg.window)
  let x1 := { x with cfg := f, gateFrom := if changed then k.tick else x.gateFrom
                     hitInGate := x.hitInGate && !changed, hitNext := x.hitNext && !changed
                     freqOk := x.freqOk && !changed, phases := if f.nominal ≠ x.cfg.nominal then [] else x.phases
                     cmpAt := if f.nominal ≠ x.cfg.nominal then none else x.cmpAt }
  let k1 := { k with cands := vset k.cands c x1 }
  if changed then k1.dropCand c 3 else k1

/-- Sticky bits cleared by mask (R386). -/
def clearBits (x mask : Nat) : Nat := ((List.range 16).map (fun i => if bitOf x i && !bitOf mask i then 2 ^ i else 0)).sum

/-- The sticky bits set in the XO cycle of a tick. -/
def freshBits (fresh freshXo tick : Nat) : Nat := if freshXo = tick / 4 then fresh else 0

/-- CLOCK_HISTORY_CLEAR's effect: DPLL bits by mask, all sticky bits of the candidates named; a bit whose condition occurs
in the XO cycle of the clear stays set (R383, R386). -/
def Ck.applyClear (k : Ck) (m : Nat × Nat) : Ck :=
  let d := k.dpll
  { k with dpll := { d with sticky := clearBits d.sticky (clearBits m.1 (freshBits d.fresh d.freshXo k.tick)) }
           cands := Vector.ofFn (fun c =>
             let x := vget k.cands c
             if bitOf m.2 c then { x with sticky := freshBits x.fresh x.freshXo k.tick } else x) }

/-- DPLL_SOFTWARE's effect: the loop opens, and no candidate is ACTIVE (R380). -/
def Ck.applySoft (k : Ck) (word : Int) : Ck :=
  let k1 := (List.finRange 16).foldl (fun k c => if (vget k.cands c).state = 3 then k.setCand c 2 6 else k) k
  let k2 := k1.setDpll 4 5
  { k2 with dpll := { k2.dpll with active := none, lostDue := false, word := word } }

/-- A switch whose target is disqualified ends in HOLDOVER: what it recorded takes effect, and selection runs (R373). -/
def Ck.endSwitch (k : Ck) : Ck :=
  let d := k.dpll
  let k1 : Ck := { k with dpll := { d with
    switching := none, cfg := d.nextCfg.getD d.cfg, nextCfg := none, softDue := none, nextCand := [], nextClear := (0, 0)
    deferred := false, deliberate := false } }
  let k2 := d.nextCand.foldl (fun k p => match finOf 16 p.1 with | none => k | some i => k.applyCand i p.2)
    (k1.applyClear d.nextClear)
  match d.softDue with
  | some w => k2.applySoft w
  | none => k2.select d.deliberate

/-- A candidate is disqualified (R366, R373, R376): a switch to it ends, the DPLL leaves it for HOLDOVER, and selection
runs. -/
def Ck.disqualify (k : Ck) (c : Fin 16) (cause : Nat) : Ck :=
  if (vget k.cands c).state = 0 then k
  else if k.dpll.switching = some (some c.val) then (k.setCand c 0 cause).endSwitch
  else (k.dropCand c cause).select false

/-- An activity loss (R365, R366, R385). -/
def Ck.lose (k : Ck) (c : Fin 16) : Ck :=
  let x := vget k.cands c
  Ck.disqualify { k with cands := vset k.cands c { x.mark k.tick 0 with actOk := false, losses := satAdd 32 x.losses 1 } } c 0

/-- The bandwidth code the loop uses for a candidate: the highest code no greater than the configured one and than
nominal / 20 (R377). -/
def loopCode (bandwidth nominal : Nat) : Nat :=
  (List.range (bandwidth + 1)).foldl (fun b code => if 10 ^ code ≤ 5 * nominal then code else b) 0

/-- The loop's bandwidth code in effect. -/
def Ck.code (k : Ck) : Nat :=
  match k.dpll.active.bind (finOf 16) with
  | none => k.dpll.cfg.bandwidth
  | some c => loopCode k.dpll.cfg.bandwidth (vget k.cands c).cfg.nominal

/-- The least ticks from one phase comparison to the next, at nominal / ceil(nominal / 1 MHz) (R365). -/
def compareTicks (nominal : Nat) : Nat := ceilDiv nominal 1000000 * 800000000 / nominal

/-- The gate of a candidate in ticks: at least two nominal periods (R364). -/
def gateTicks (c : CandSet) : Nat := max (c.gate * 800000) (ceilDiv 1600000000 c.nominal)

/-- A time error steers the phase, in every state but SOFTWARE and FREERUN (R380, R394). -/
def Dpll.steer (d : Dpll) (ps : Int) : Dpll :=
  if d.state = 0 ∨ d.state = 4 then d else { d with nudge := d.nudge + ps }

/-- A candidate can have activity: a link's only from CLOCK_LOCK on (R292, R367). -/
def State.canBeActive (s : State) (c : Fin 16) : Bool :=
  match finOf 12 (c.val - 4) with
  | some i => decide (c.val < 4) || (let l := vget s.links i; decide (2 ≤ l.state) && decide (l.state ≤ 9))
  | none => false

/-- The candidates that have activity and whose link no longer lets them (R367). -/
def State.darkCands (s : State) : List (Fin 16) :=
  (List.finRange 16).filter (fun c => (vget s.cands c).actOk && !s.canBeActive c)

/-- The XO domain at the end of an XO cycle: link candidates lose their activity with their link, and the DPLL's transition
and selection follow (R367, R370). -/
def State.xoEnds (s : State) : State :=
  let k := s.darkCands.foldl Ck.lose s.ck
  if s.darkCands = [] ∧ s.dpll.due = none ∧ s.dpll.lostDue = false then s else s.putCk k.endXo

/-- A whole second of house time ends: y's average over it stands ready for the history when the DPLL was LOCKED for all of
it (R379). -/
def State.secondEnds (s : State) : State :=
  let d := s.ck.settle.dpll
  { s with dpll := { d with
      ySum := 0, secFrom := if d.state = 2 then some s.time.fclk else none
      secMean := match d.secFrom with
        | some f => if f + 800000000 = s.time.fclk then some (d.ySum / 800000000) else none
        | none => none } }

end Sys2Proof.Machine
end

