-- ==== Sys2Proof/Machine/Readiness.lean ====
section
/-! DEFINITION. The twin's mode, the device's readiness, and the pins that follow it (R486, R487, R490, R491, R502). -/

namespace Sys2Proof.Machine

/-- Whether a sequence number lies before another. -/
def seqBefore (a b : U32) : Bool := decide (0 < U32.dist b a) && decide (U32.dist b a < 2 ^ 31)

/-- Exact mode is in force on this device. -/
def State.exact (s : State) : Bool := s.twin.mode == 1

/-- The running production's twin_mode; 0 without one (R487). -/
def State.twinMode (s : State) : Nat := (s.running.map (fun p => p.descr.twinMode)).getD 0

/-- L11 is in the twin role at version 2.0 (R334, R485). -/
def State.twinLink (s : State) : Bool := (vget s.links 11).role == 5 && decide (0x20 ≤ (vget s.links 11).version)

/-- This device's HELLO (R489). -/
def State.ownHello (s : State) : HelloMsg :=
  { fingerprint := fingerprint, serial := s.sec.otp.serial, stepping := 1, engineUcode := s.boot.fw.engine
    ladleUcode := s.boot.fw.ladle, imageSha := (s.running.map (·.sha)).getD (List.replicate 32 0)
    version := (vget s.links 11).version }

/-- The pair's mode (R491): 0 unpaired, 1 exact, 2 warm. -/
def State.pairMode (s : State) : Nat :=
  match s.twin.expected, s.twin.peer with
  | none, _ => 0
  | some _, none => 2
  | some _, some h =>
    let o := s.ownHello
    if s.twinMode = 1 ∧ slice o.imageSha 0 32 = slice h.imageSha 0 32 ∧ o.engineUcode = h.engineUcode ∧ o.stepping = h.stepping
    then 1 else 2

/-- The median of the last offsets exceeds 1 µs in magnitude (R490). -/
def Twin.offsetBad (w : Twin) : Bool :=
  let l := w.offsets.mergeSort (fun a b => decide (a ≤ b))
  let m := l.getD (l.length / 2) 0
  decide (1000 < m.natAbs)

/-- A queue holds an item that the lead released unconfirmed and that acked_seq has not passed (R502): as this device's
own releases say, or, on an understudy, as the lead's POSITIONS say. -/
def Queue.holdsUnconfirmed (x : Queue) (role : Nat) : Bool :=
  (role == 2 && seqBefore x.confirmed x.reported.2.1 && seqBefore x.acked x.reported.2.1)
    || (match x.unconf with
      | some u => seqBefore x.acked u
      | none => false)

/-- Some queue holds such an item. -/
def State.unconfirmedOut (s : State) : Bool := s.flow.queues.any (fun y => y.2.holdsUnconfirmed s.twin.role)

/-- The heartbeat has been missing for 5 ms (R502). -/
def State.lostLong (s : State) : Bool := s.twin.lost && decide (s.twin.beatAt + 80000 + 4000000 ≤ s.time.fclk)

/-- The causes of UNFIT that hold (R502, R512), in the order of their codes. -/
def State.unfit (s : State) : Option Nat :=
  let twinned := decide (s.twinMode ≠ 0)
  let other := match s.twin.beat with
    | some b => some b.production != s.running.map (·.id)
    | none => false
  if s.running.isNone || twinned && other then some 4
  else if !s.time.valid || twinned && s.twin.offsetBad then some 5
  else if s.ddrFailed then some 6
  else if s.engines.toList.any (·.failed) then some 7
  else if !s.boot.vcoreOk then some 8
  else if twinned && !s.twinLink then some 9
  else if twinned && s.twin.expected.isNone then some 10
  else none

/-- The readiness and its cause (R502): the first matching row from the bottom. Where no row matches it stays, but an
unpaired production of twin_mode 0 leaves UNFIT for READY (notes/assumptions/43). -/
def State.readinessNow (s : State) : Nat × Nat :=
  let w := s.twin
  let repairing := w.unrepaired.any (·.2) || !w.itemAsk.isEmpty || !w.rowAsk.isEmpty
  let adopted := w.adoptions.all (·.adopted)
  match s.unfit with
  | some c => (3, c)
  | none =>
    if s.twinMode = 0 then (0, 0)
    else if s.lostLong && !w.cast then (2, 2)
    else if s.unconfirmedOut then (2, 3)
    else if w.mode = 2 then (2, 2)
    else if s.exact && !w.lost && repairing then (1, 1)
    else if s.exact && !w.lost && adopted then (0, 0)
    else (w.readiness, 0)

/-- The mode, the readiness and the pins follow the state (R487, R491, R502); READINESS at each change. -/
def State.review (s : State) : State :=
  let w := s.twin
  let s1 := { s with twin := { w with mode := s.pairMode } }
  let r := s1.readinessNow
  State.raiseAll
    { s1 with twin := { s1.twin with
        readiness := r.1, fault := r.1 == 3 || w.fenced
        req := decide (s.twinMode ≠ 0) && w.expected.isSome && w.lost && !w.tookOver } }
    (evIf (decide (r.1 ≠ w.readiness)) (s.ev 772 0x0A03 [(1, w.readiness), (1, r.1), (1, r.2)]))

end Sys2Proof.Machine
end

