-- ==== Sys2Proof/Machine/TimeOps.lean ====
section
/-! DEFINITION. The shared operations of house time, of delivered messages, of event indices and of CUE pulses (R347,
R392 to R412). -/

namespace Sys2Proof.Machine

/-- A production is running or cued (R393, R394). -/
def State.busyWithProduction (s : State) : Bool :=
  s.running.isSome || decide (s.green.state = 4) || decide (s.green.state = 5)

/-- House time stepped to a value in ns, on the grid of R392, with TIME_SET (R393, R414). -/
def State.setTime (s : State) (ns cause : Nat) : State :=
  let s1 := { s with time := { s.time with tick := tickOf ns, valid := true } }
  let s2 := s1.raise (s1.ev 799 0x0901 [(8, ns), (1, cause)])
  if s.up then s2.review else s2

/-- The reserved bits of a message's body, by byte: those of whole byte ranges (offset, count). -/
def reserved (l : List (Nat × Nat)) : Cells Byte := l.flatMap (fun x => (List.range x.2).map (fun i => (x.1 + i, 0xFF)))

/-- Two bodies say the same: they differ in reserved bits at most (R5). -/
def sayAlike (r : Cells Byte) (a b : List Byte) : Bool :=
  a.length == b.length && (a.zip b).zipIdx.all (fun x => let keep := ~~~ cget 0 r x.2; x.1.1 &&& keep == x.1.2 &&& keep)

/-- The delivered message at the head of a channel, when it is this one (R326, R328); its reserved bits are ignored (R5). -/
def State.hasMsg (s : State) (link : Fin 12) (vc : Fin 8) (type : Nat) (body : List Byte) (r : Cells Byte := []) : Bool :=
  match (vget (vget s.links link).inbox vc).head? with
  | some m => m.type == type && sayAlike r m.body body
  | none => false

/-- The delivered message at the head of a channel: its delivery and the role in force then (R326, R341). -/
def State.headMsg (s : State) (link : Fin 12) (vc : Fin 8) : Msg := ((vget (vget s.links link).inbox vc).head?).getD { type := 0, body := [] }

/-- A body that is shorter than its type's header, the rest read as zeros (R350, R351). -/
def State.hasShort (s : State) (link : Fin 12) (vc : Fin 8) (type : Nat) (body : List Byte) (r : Cells Byte := []) : Bool :=
  let m := s.headMsg link vc
  m.type == type && decide (m.body.length < body.length) && sayAlike r (slice m.body 0 body.length) body

/-- A message is handled as at the time of its delivery (R326): `f` at that house time, and the present time again. -/
def State.atDelivery (s : State) (link : Fin 12) (vc : Fin 8) (f : State → State) : State :=
  let r := f { s with time := { s.time with tick := (s.headMsg link vc).at_ } }
  { r with time := s.time }

/-- A source's record is passed by the read index (R400, R401). What joined it in this very FCLK cycle starts a new record
instead, and the one passed stands without it. -/
def Events.pass (fclk : Nat) (copied : Nat → Bool) (u : Events × Memory) (k : Nat) : Events × Memory :=
  let x := cget {} u.1.sources k
  let fresh := x.fresh.filter (fun f => f.1 == fclk)
  match x.outstanding, fresh with
  | some (i, _), some (_, old, new) =>
    ({ u.1 with sources := cset {} u.1.sources k { x with outstanding := some (u.1.wr, new), fresh := none }, wr := u.1.wr + 1
                copies := if copied k then u.1.copies ++ [new] else u.1.copies },
      writeBytes (writeBytes u.2 (ringAt i) old.bytes) (ringAt u.1.wr) new.bytes)
  | _, _ => ({ u.1 with sources := cset {} u.1.sources k { x with outstanding := none, fresh := none } }, u.2)

/-- The event read index written (R400, R401): a write outside [read, write] is ignored; records passed are no longer
outstanding. -/
def State.writeRd (s : State) (value : U32) : State :=
  let u := s.evt
  let r :=
    if U32.dist u.wr u.rd < U32.dist value u.rd then (u, s.host.board)
    else
      let passed := fun (k : Nat) => match (cget {} u.sources k).outstanding with
        | some (i, _) => decide (U32.dist i u.rd < U32.dist value u.rd)
        | none => false
      ((ckeys u.sources).filter passed).foldl (Events.pass s.time.fclk (copiesSource s.running))
        ({ u with rd := value, notified := u.notified && decide (value ≠ u.wr) }, s.host.board)
  { s with evt := r.1, host := { s.host with board := r.2 } }

/-- The first frame mark at or after a tick (R32, R395). -/
def markFrom (num den tick : Nat) : Nat :=
  let k := markIndex num den tick
  if tick ≤ markTick num den k then markTick num den k else markTick num den (k + 1)

/-- The start in ns of a frame-mode pulse, from its mark's tick (R412). -/
def pulseAt (o : CueOut) (mark : Nat) : Nat := ((mark * 5 / 4 : Nat) + o.offset).toNat

/-- A level is the pin's active level (R408). -/
def CuePin.isActive (p : CuePin) (level : Bool) : Bool := level == decide (p.cfg.active = 1)

/-- An output that the device no longer drives is at its inactive level (R505, R508). -/
def CuePin.undriven (p : CuePin) : CuePin :=
  if p.cfg.direction = 2 then { p with level := !p.isActive true } else p

end Sys2Proof.Machine
end

