-- ==== Sys2Proof/Machine/CueOps.lean ====
section
/-! DEFINITION. Acceptance windows (R140, R141), affected contexts and cue points (R52 to R54), and slot collisions (R53).
Engine instants are ECLK cycles, two per house-time tick. -/

namespace Sys2Proof.Machine

/-! ### Windows -/

/-- The mark index of a tick. -/
def Ctx.indexAt (c : Ctx) (tick : Nat) : Nat := markIndex c.rateNum c.rateDen tick

/-- The acceptance window [open, close) of row k of frame n on one engine, in ECLK cycles (R140, R141). The instants F ±
T_frame are the marks of frames n ± 1, so that a window opens and closes with the slots that R140 and R141 name
(notes/assumptions/33). -/
def Ctx.window (c : Ctx) (t : EngineTab) (n k : Nat) : Nat × Nat :=
  let slots := t.slotsOf c.context
  if c.mode = 0 then
    let o := fun r => (slots.getD r {}).offset
    let here := 2 * c.markTick n
    (if k = 0 then 2 * c.markTick (n - 1) + o (c.rows - 1) else here + o (k - 1), here + o k)
  else
    let e := ceilDiv (8 * c.slotEnd) 5
    (2 * c.markTick (n - 1) + e, 2 * c.markTick (n + 1) + e - (slots.headD {}).duration)

/-- The earliest opening of a window of frame n, over its engines. -/
def Production.opening (p : Production) (c : Ctx) (n : Nat) : Nat :=
  ((c.engines.map (fun e => (c.window ((p.engine e).getD {}) n 0).1)).min?).getD 0

/-! ### Affected contexts -/

/-- What a context's slots run on an engine: its slots, program entries, their words, and the descriptor tables. -/
def EngineTab.runs (t : EngineTab) (context : Nat) :
    List Slot × List Program × List (List CueWord) × List (List UnitDesc) × List DrDesc × List DrDesc × List SqDesc :=
  let ss := t.slotsOf context
  let ps := (ss.map (·.program)).dedup.map (fun i => t.programs.getD i {})
  (ss, ps, ps.map (fun g => (t.words.drop g.entry).take g.words), t.units, t.dr, t.dw, t.sq)

/-- A context is affected by a swap (R52). -/
def affected (old new : Production) (c : Nat) : Bool :=
  match old.ctx c, new.ctx c with
  | some a, some b =>
    a != b || a.engines.any (fun e =>
      (((old.engine e).map (fun t => t.runs c)) != ((new.engine e).map (fun t => t.runs c))))
  | none, none => false
  | _, _ => true

/-- The contexts that a swap affects. -/
def affectedCtxs (old new : Production) : List Nat :=
  (((old.contexts ++ new.contexts).map (·.context)).dedup).filter (affected old new)

/-- The entries of the affected contexts in one production. -/
def Production.entries (p : Production) (cs : List Nat) : List Ctx := p.contexts.filter (fun c => cs.contains c.context)

/-- The rates, num/den marks a second, that a common mark must meet (R52): every affected context's, and the cycle of
every engine that runs one. -/
def markRates (old new : Production) (cs : List Nat) : List (Nat × Nat) :=
  let of := fun (p : Production) =>
    let es := p.entries cs
    es.map (fun c => (c.rateNum, c.rateDen))
      ++ (p.engines.filter (fun x => es.any (fun c => bitOf c.engineMask x.1))).map (fun x => (x.2.cycleDen, x.2.cycleNum))
  of old ++ of new

/-- A tick is a mark of a rate (R32). -/
def isMark (r : Nat × Nat) (tick : Nat) : Bool := markTick r.1 r.2 (markIndex r.1 r.2 tick) == tick

/-- The first tick at or after `from_` that meets `ok`, among marks n, n + 1, … of a rate; `fuel` marks are tried. -/
def searchMark (r : Nat × Nat) (ok : Nat → Bool) (from_ : Nat) : Nat → Nat → Option Nat
  | 0, _ => none
  | fuel + 1, n =>
    let t := markTick r.1 r.2 n
    if from_ ≤ t ∧ ok t then some t else searchMark r ok from_ fuel (n + 1)

/-- The first common mark at or after a tick that meets a condition, within 120 s (R52). -/
def commonMark (rates : List (Nat × Nat)) (ok : Nat → Bool) (from_ : Nat) : Option Nat :=
  match rates with
  | [] => none
  | r :: _ =>
    let limit := from_ + 120 * 800000000
    searchMark r (fun t => decide (t ≤ limit) && rates.all (fun q => isMark q t) && ok t) from_
      (120 * r.1 / r.2 + 2) (markIndex r.1 r.2 from_)

/-- Every acceptance window of an affected context's frames at or after a cue point opens at or after `cycle` (R52). -/
def windowsOk (old new : Production) (cs : List Nat) (cycle tick : Nat) : Bool :=
  [old, new].all (fun p => (p.entries cs).all (fun c => decide (cycle ≤ p.opening c (c.indexAt tick))))

/-! ### Collisions -/

/-- The intervals, in cycles from the engine mark of index `k`, of an engine's slots for frames before that mark (false)
or at or after it (true) (R34, R35, R53). The cycle before and the cycle after have the lengths that their marks give. -/
def slotIntervals (t : EngineTab) (k : Nat) (new : Bool) : List (Int × Int) :=
  let mark := fun n => (2 * markTick t.cycleDen t.cycleNum n : Int)
  let span := fun (base : Int) (s : Slot) => (base + s.offset, base + s.offset + s.duration)
  let late := t.slots.filter (fun s => t.kind == 2 && s.index == 0)   -- in the cycle at the cue point, they code an earlier frame
  let rest := t.slots.filter (fun s => !(t.kind == 2 && s.index == 0))
  if new then rest.map (span 0) ++ t.slots.map (span (mark (k + 1) - mark k))
  else t.slots.map (span (mark (k - 1) - mark k)) ++ late.map (span 0)

/-- SWAP_OVERLAP (R53): on some engine the slots of the two productions overlap at the cue point. -/
def collides (old new : Production) (tick : Nat) : Bool :=
  (List.range 16).any (fun e =>
    match old.engine e, new.engine e with
    | some a, some b =>
      let k := fun (t : EngineTab) => markIndex t.cycleDen t.cycleNum tick
      (slotIntervals a (k a) false).any (fun x => (slotIntervals b (k b) true).any (fun y =>
        decide (x.1 < y.2) && decide (y.1 < x.2)))
    | _, _ => false)

/-! ### Fixing a cue point -/

/-- The cue point in ns from a request, a ready time and the moment of fixing, or a refusal code (R52 to R54); and whether
the cue is deferred. When no context is affected, R52 names no common marks, and the cue point is a whole millisecond: the
first common mark at or after the request is then taken as the first whole millisecond (DESIGN CHOICE,
notes/assumptions/72). -/
def fixCue (old : Option Production) (new : Production) (request ready nowCycle : Nat) : Except Nat (Nat × Bool) :=
  let o := old.getD {}
  let cs := affectedCtxs o new
  let start := max request ready
  if cs = [] then
    let ms := fun t => ceilDiv t 1000000 * 1000000
    .ok (ms start, decide (request ≠ 0) && decide (ms request < ms start))
  else
    let rates := markRates o new cs
    match commonMark rates (windowsOk o new cs nowCycle) (tickOf start) with
    | none => .error 0x0242
    | some t =>
      if old.isSome ∧ collides o new t then .error 0x0244
      else
        let first := commonMark rates (fun _ => true) (tickOf request)
        .ok (t * 5 / 4, decide (request ≠ 0) && (match first with | none => false | some f => decide (f < t)))

end Sys2Proof.Machine
end

