-- ==== Sys2Proof/Machine/CtxOps.lean ====
section
/-! DEFINITION. Contexts while a production runs: which production a frame belongs to (R9, R52, R55), the device's
regions (R434), pictures and layer rings, acceptance of lines (R140 to R144, R199), and the latches of composition
(R197, R207, R218). -/

namespace Sys2Proof.Machine

/-! ### Productions and frames -/

/-- The productions whose work may be in hand: each with the first tick and the end tick of its frames' marks (R52,
R55); an end of none has no bound. -/
def State.prods (s : State) : List (Production × Nat × Option Nat) :=
  let next := if s.green.state = 4 ∨ s.green.state = 5 then s.green.prod.map (fun p => (p, tickOf s.green.cuePoint)) else none
  let cues := s.old.map (fun x => tickOf x.2)
  let from_ := cues.getLast?.getD 0
  (s.old.zipIdx.map (fun x => (x.1.1, if x.2 = 0 then 0 else cues.getD (x.2 - 1) 0, some (tickOf x.1.2))))
    ++ (match s.running with | some p => [(p, from_, next.map (·.2))] | none => [])
    ++ (match next with | some (p, t) => [(p, t, none)] | none => [])

/-- A tick lies in a production's range. -/
def inRange (x : Production × Nat × Option Nat) (tick : Nat) : Bool :=
  decide (x.2.1 ≤ tick) && (match x.2.2 with | some t => decide (tick < t) | none => true)

/-- The production that codes a frame whose mark falls at a tick. -/
def State.prodAt (s : State) (tick : Nat) : Option Production := (s.prods.find? (fun x => inRange x tick)).map (·.1)

/-- The mark index, at or next after the present one, whose low 16 bits are a frame count (R343). -/
def frameOf (index count : Nat) : Option Nat :=
  let top := index + 1
  let back := (top + 65536 - count % 65536) % 65536
  if back ≤ top then some (top - back) else none

/-- Engine e's tables in a production. -/
def Production.tab (p : Production) (e : Nat) : EngineTab := (p.engine e).getD {}

/-- Entries of a table whose numbers are at least `lo`. -/
def cdrop {α : Type} (lo : Nat) (m : Cells α) : Cells α := m.filter (fun x => decide (lo ≤ x.1))

/-- A context's run-time state. -/
def State.ctxSt (s : State) (c : Nat) : CtxState := cget {} s.ctxs c

/-- A context's run-time state replaced. -/
def State.setCtx (s : State) (c : Nat) (x : CtxState) : State := { s with ctxs := cset {} s.ctxs c x }

/-- Number of row k of tile t of frame n (CtxState). -/
def rowKey (n t k : Nat) : Nat := 512 * n + 128 * t + k

/-- A write of a port that finds its queue full (R424, R439): counted; port P21's is reported. -/
def State.portFull (s : State) (port : Fin 22) (bytes : Nat) : State :=
  let p := vget s.ddr.ports port
  let full := satAdd 32 p.full 1
  State.raiseAll { s with ddr := { s.ddr with ports := vset s.ddr.ports port { p with full := full } } }
    (evIf (port == 21) (s.ev 723 0x091C [(1, port.val), (4, full), (4, bytes)]))

/-- A source of a production is the running one's. -/
def State.sameSource (s : State) (p : Production) (source : Nat) : Bool := (s.running.bind (fun o => o.source source)) == p.source source

/-- A graphic pair of a production is the running one's. -/
def State.samePair (s : State) (p : Production) (pair : Nat) : Bool := (s.running.bind (fun o => o.pairs[pair]?)) == p.pairs[pair]?

/-- The ring of a source, as a production knows it: a source that a swap has changed keeps its ring for the frames of the
production before (R197). -/
def State.ringOf (s : State) (p : Production) (source : Nat) : Ring :=
  cget {} (if s.sameSource p source then s.rings else s.wasRings) source

/-- The graphic pair of a production. -/
def State.pairOf (s : State) (p : Production) (pair : Nat) : PairState :=
  cget {} (if s.samePair p pair then s.pairs else s.wasPairs) pair

/-- The kind under which a latch keeps a buffer of a ring: 1 the running production's, 3 a former one's. -/
def State.ringKind (s : State) (p : Production) (source : Nat) : Nat := if s.sameSource p source then 1 else 3

/-- The kind under which it keeps a graphic buffer: 2, or 4 for a former production's. -/
def State.pairKind (s : State) (p : Production) (pair : Nat) : Nat := if s.samePair p pair then 2 else 4

/-- The ring of a production's source replaced. -/
def State.setRing (s : State) (p : Production) (source : Nat) (r : Ring) : State :=
  if s.sameSource p source then { s with rings := cset {} s.rings source r }
  else { s with wasRings := cset {} s.wasRings source r }

/-! ### Pictures -/

/-- The picture of frame n of a context, and its number. -/
def picKey (context n : Nat) : Nat := 2 * context + n % 2

/-- The preview ring of frame n of a context. -/
def previewKey (context n : Nat) : Nat := 1024 + 2 * context + n % 2

/-- A picture for frame n: the one held, or an empty one. -/
def Picture.forFrame (p : Picture) (n : Nat) : Picture := if p.frame = some n then p else { frame := some n }

/-- A pixel has been accepted. -/
def Picture.has (p : Picture) (x y : Nat) : Bool := cget false p.got (8192 * y + x)

/-- Every pixel of [a, b) of line y has been accepted (R350). -/
def Picture.line (p : Picture) (y a b : Nat) : Bool := (List.range (b - a)).all (fun i => p.has (a + i) y)

/-- A sample; one that was never accepted has no stated value. -/
def Picture.at (p : Picture) (x y c : Nat) : Nat :=
  if p.has x y then cget 0 p.px (pxAt x y c) else Config.openSample (pxAt x y c) % 1024

/-- A line's new pixels enter a picture: those that `ok` admits and that are not there already (R142). -/
def Picture.take (p : Picture) (m : LineMsg) (ok : Nat → Bool) : Picture :=
  let fresh := fun x => ok x && !p.has x m.line
  let xs := (List.range m.pixelCount).map (m.firstPixel + ·)
  { p with
    px := ((lineSamples m).filter (fun q => fresh q.1)).foldl (fun a q => cset 0 a (pxAt q.1 m.line q.2.1) q.2.2) p.px
    got := (xs.filter fresh).foldl (fun a x => cset false a (8192 * m.line + x) true) p.got
    maxX := max p.maxX (m.firstPixel + m.pixelCount)
    maxY := max p.maxY (m.line + 1) }

/-- The source's sample in a context's chroma format (R102): component c at place (x, y) of that component's grid. -/
def Picture.sample (p : Picture) (format chroma c x y : Nat) : Nat :=
  if format = 2 then min 1023 ((p.at x y c + 2) / 4)
  else if c = 0 then p.at x y 0
  else if format = 1 then p.at (2 * x) (2 * y) c
  else if chroma = 0 then (p.at (2 * x) (2 * y) c + p.at (2 * x) (2 * y + 1) c + 1) / 2
  else p.at (2 * x) y c

/-- The tile of a picture column of CTUs. -/
def Ctx.tileAt (c : Ctx) (col : Nat) : Nat :=
  ((List.range c.tiles).find? (fun t => decide (c.tileX t ≤ col) && decide (col < c.tileX (t + 1)))).getD 0

/-! ### The sieve -/

/-- The source luma that the sieve works on (R148); a place below the picture, in a CTU that the bottom edge cuts, reads as
the last line (R151; DESIGN CHOICE, notes/assumptions/62). -/
def sieveLuma (c : Ctx) (format : Nat) (p : Picture) (x y : Nat) : Nat :=
  p.sample format c.chroma 0 (min x (c.width - 1)) (min y (c.height - 1))

/-- h of R148, an 8-bit sample: the formula gives 256 for luma of 1,022 and 1,023, which is left open
(notes/assumptions/62). -/
def sieveHalf (c : Ctx) (format : Nat) (p : Picture) (x y : Nat) : Nat :=
  let f := sieveLuma c format p
  let h := (f (2 * x) (2 * y) + f (2 * x + 1) (2 * y) + f (2 * x) (2 * y + 1) + f (2 * x + 1) (2 * y + 1) + 8) / 16
  if 255 < h then Config.sieveTop.toNat else h

/-- q of R148. -/
def sieveQuarter (c : Ctx) (format : Nat) (p : Picture) (x y : Nat) : Nat :=
  let h := sieveHalf c format p
  (h (2 * x) (2 * y) + h (2 * x + 1) (2 * y) + h (2 * x) (2 * y + 1) + h (2 * x + 1) (2 * y + 1) + 2) / 4

/-- A CTU's levels: the 1/4 level in raster order, the 1/2 level as 16 quad units in quad raster order, each 8×8 in
raster order (R148, R150). -/
def sieveCtu (c : Ctx) (format : Nat) (p : Picture) (col row : Nat) : Levels :=
  { quarter := (List.range 256).map (fun i => sieveQuarter c format p (16 * col + i % 16) (16 * row + i / 16))
    half := (List.range 1024).map (fun i =>
      let q := i / 64
      sieveHalf c format p (32 * col + 8 * (q % 4) + i % 8) (32 * row + 8 * (q / 4) + i % 64 / 8)) }

/-- Byte offset of CTU (cx, cy) in the 1/4-level plane of a tile Ht CTUs high (R150). -/
def quarterOffset (ht cx cy : Nat) : Nat := (cx * ht + cy) * 256

/-- Byte offset of CTU (cx, cy) in the 1/2-level plane of a tile Wt CTUs wide (R150). -/
def halfOffset (wt cx cy : Nat) : Nat := (cy * wt + cx) * 1024

/-- Place of a CTU in an engine's sieve row store, which keeps the current row and the one arriving (R149). -/
def sieveKey (x k : Nat) : Nat := 256 * (k % 2) + x

/-- Place of a frame-shared source's levels in DDR5: CTU t of a tile, for frame n (R149). -/
def levelKey (context n tile t : Nat) : Nat := ((2 * context + n % 2) * 4 + tile) * 2048 + t

/-- The levels of a row whose window has closed: a row-locked tile's engine keeps them in its row store, and frame-shared
ingest writes them through P21 beside the frame buffer, or drops them with PORT_WRITE_FULL (R149, R424). -/
def State.keepLevels (s : State) (p : Production) (c : Ctx) (n t k : Nat) : State :=
  let pic := (cget {} s.pictures (picKey c.context n)).forFrame n
  let format := ((p.source c.source).getD {}).format
  let one := fun x => sieveCtu c format pic (c.tileX t + x) k
  if c.mode = 1 then
    let levels := (List.range (c.tileW t)).foldl (fun m x => cset {} m (levelKey c.context n t (k * c.tileW t + x)) (one x))
      s.ddr.levels
    let bytes := 1280 * c.tileW t
    if s.ddr.hasRoom 21 bytes then
      { s with ddr := { s.ddr.writeRole 21 (p.region 3 (2 * c.source + n % 2)) bytes s.time.fclk with levels := levels } }
    else s.portFull 21 bytes
  else
    match finOf 16 (c.engines.getD t 16) with
    | none => s
    | some e =>
      let g := vget s.engines e
      { s with engines := vset s.engines e { g with
          sieve := (List.range (c.tileW t)).foldl (fun m x => cset {} m (sieveKey x k) (one x)) g.sieve } }

/-! ### Accepting lines -/

/-- Tiles of a context whose window for a row of frame n is open at a cycle (R140, R141). -/
def Production.openTiles (p : Production) (c : Ctx) (n k cycle : Nat) : List Nat :=
  (List.range c.tiles).filter (fun t =>
    let w := c.window (p.tab (c.engines.getD t 0)) n k
    decide (w.1 ≤ cycle) && decide (cycle < w.2))

/-- A pixel column of a line lies in a tile whose window is open (R140, R141). -/
def State.inWindow (s : State) (p : Production) (c : Ctx) (n row x : Nat) : Bool :=
  (p.openTiles c n row s.cycle).any (fun t => decide ((c.tilePx t).1 ≤ x) && decide (x < (c.tilePx t).2))

/-- What a line brings one context whose frame is n: nothing (0), only pixels that it has already accepted (1), or new ones
(2) (R139 to R142). -/
def State.lineBrings (s : State) (p : Production) (c : Ctx) (n : Nat) (m : LineMsg) : Nat :=
  let pic := (cget {} s.pictures (picKey c.context n)).forFrame n
  let xs := ((List.range m.pixelCount).map (m.firstPixel + ·)).filter (s.inWindow p c n (m.line / 64))
  if xs = [] ∨ c.height ≤ m.line then 0 else if xs.all (fun x => pic.has x m.line) then 1 else 2

/-- A line offered to one context of a production whose frame is n (R139 to R142). `room` says that port P21 takes the
write of a frame-shared line. A later copy is discarded and counted, once for each LINE message whose admitted pixels are
all there already; a message that brings a new pixel counts nothing (DESIGN CHOICE, notes/assumptions/72: R142 counts
copies of a line and does not say how copies in several packets, or partly new ones, count). -/
def State.ctxLine (s : State) (p : Production) (c : Ctx) (n : Nat) (m : LineMsg) (room : Bool) : State :=
  let pic := (cget {} s.pictures (picKey c.context n)).forFrame n
  match s.lineBrings p c n m with
  | 0 => s
  | 1 => s.setCtx c.context (let x := s.ctxSt c.context; { x with linesDup := satAdd 32 x.linesDup 1 })
  | _ =>
    if c.mode = 1 ∧ room = false then s
    else { s with pictures := cset {} s.pictures (picKey c.context n) (pic.take m (s.inWindow p c n (m.line / 64))) }

/-- A layer set's used video layers of a source. -/
def LayerSet.shows (l : LayerSet) (source : Nat) : Bool := l.layers.any (fun x => x.kind == 1 && x.source == source)

/-- The contexts of a production that show a source in a video layer. -/
def Production.shownBy (p : Production) (source : Nat) : List Ctx :=
  p.contexts.filter (fun c => (p.sets.getD c.layers {}).shows source)

/-- A latch is in composition. -/
def Latch.composing (l : Latch) : Bool := l.content && decide (0 < l.left)

/-- Some frame in composition holds a buffer: kind 1 a layer ring, 2 a graphic pair, 3 and 4 those of a former production. -/
def State.heldBy (s : State) (kind which buffer : Nat) : Bool :=
  s.ctxs.any (fun x => x.2.latches.any (fun l => l.composing && l.holds.contains (kind, which, buffer)))

/-- The window of a layer's source frame is open at a tick (R199). -/
def Source.ringOpen (q : Source) (n tick : Nat) : Bool :=
  decide (markTick q.rateNum q.rateDen n ≤ tick)
    && decide (tick < markTick q.rateNum q.rateDen (n + 1) + ceilDiv (4 * q.lag) 5)

/-- The ring buffer in which a frame is being written. -/
def Ring.bufferOf (r : Ring) (n : Nat) : Option (Fin 3) := (List.finRange 3).find? (fun i => (vget r.bufs i).frame == some n)

/-- A buffer that a new frame may take: neither the newest complete one nor held in composition (R199), rather one that
is not being written. -/
def Ring.free (r : Ring) (held : Nat → Bool) : Option (Fin 3) :=
  let ok := (List.finRange 3).filter (fun i => r.newest != some i.val && !held i.val)
  (ok.find? (fun i => (vget r.bufs i).complete || (vget r.bufs i).frame.isNone)).orElse (fun _ => ok.head?)

/-- Every active line of a picture has been accepted. -/
def Picture.whole (p : Picture) (width height : Nat) : Bool := (List.range height).all (fun y => p.line y 0 width)

/-- The frame of the newest complete buffer. -/
def Ring.newestFrame (r : Ring) : Option Nat := (r.newest.bind (finOf 3)).bind (fun i => (vget r.bufs i).frame)

/-- A line offered to the layer ring of its source (R199); the second part says that the frame found no buffer. -/
def Ring.line (r : Ring) (q : Source) (n : Nat) (m : LineMsg) (held : Nat → Bool) : Ring × Bool :=
  let put := fun (r : Ring) (i : Fin 3) =>
    let b := (vget r.bufs i).take m (fun _ => true)
    let done := b.whole q.width q.height
    let newer := match r.newestFrame with | some k => decide (k ≤ n) | none => true
    { r with
      bufs := vset r.bufs i { b with complete := done }
      newest := if done && newer then some i.val else r.newest
      whole := if done && !r.whole.contains n then (n :: r.whole).take 64 else r.whole }
  match r.bufferOf n with
  | some i => (put r i, false)
  | none =>
    if (match r.started with | some t => decide (n ≤ t) | none => false) then (r, false)
    else
      let r := { r with started := some n }
      match r.free held with
      | some i => (put { r with bufs := vset r.bufs i { frame := some n } } i, false)
      | none => (r, true)

/-- A line offered to its source's layer ring, with LAYER_RING_FULL from every engine whose composition unit shows the
source (R199, R227). -/
def State.ringLine (s : State) (p : Production) (q : Source) (n : Nat) (m : LineMsg) : State :=
  let r := (s.ringOf p m.source).line q n m (fun i => s.heldBy (s.ringKind p m.source) m.source i)
  let engines := ((p.shownBy m.source).flatMap Ctx.engines).dedup
  State.raiseAll (s.setRing p m.source r.1)
    (if r.2 then engines.map (fun e => s.ev (756 + e) 0x0011 [(2, m.source), (4, n)]) else [])

/-! ### Window closes -/

/-- A row's window closes (R142, R144, R147). -/
def State.closeRow (s : State) (p : Production) (c : Ctx) (n t k : Nat) : State :=
  let x := s.ctxSt c.context
  let key := rowKey n t k
  if cget false x.closed key then s
  else
    let pic := cget {} s.pictures (picKey c.context n)
    let held := decide (pic.frame = some n)
    let px := c.tilePx t
    let lines := (List.range (c.rowLines k)).map (64 * k + ·)
    let got := lines.filter (fun y => held && pic.line y px.1 px.2)
    let bad := decide (got.length < lines.length)
    let first := (lines.find? (fun y => !got.contains y)).getD 0
    -- the last window of the frame decides whether the frame is missing (R120)
    let last := decide (t + 1 = c.tiles ∧ k + 1 = c.rows)
    let some_ := held && decide (pic.got ≠ [])
    let loss := (p.codingOf c).lossInv
    -- a source that returns once its frame has begun clears what that frame still reads (R120)
    let long := some_ && decide (0 < loss ∧ loss ≤ x.missing)
    let back := long && decide ((x.decided.map (·.frame)) = some n)
    State.raiseAll
      ((s.keepLevels p c n t k).setCtx c.context { x with
        closed := cset false x.closed key true
        repeats := if bad then cset false x.repeats key true else x.repeats
        rowsRepeated := if bad then satAdd 32 x.rowsRepeated 1 else x.rowsRepeated
        backAt := if long && last && !back then some n else x.backAt
        missing := if back || (last && some_) then 0 else if last then x.missing + 1 else x.missing
        returned := if back then some (n, []) else x.returned })
      (evIf bad (s.ev c.context 0x0201 [(4, n), (2, k), (2, t), (4, got.length), (2, first)]))

/-! ### The geometry latch -/

/-- The geometry that a layer entry gives at first. -/
def Layer.geo (l : Layer) : Geo := ⟨l.dst, l.src, l.opacity⟩

/-- A change applied to a layer's geometry, and its mask: bit 0 dst and src, bit 1 opacity. -/
def LayerChange.apply (h : LayerChange) (g : Geo) : Geo :=
  let g := match h.geo with | some (d, r) => { g with dst := d, src := r } | none => g
  match h.opacity with | some o => { g with opacity := o } | none => g

/-- The fields that a change changes (R227). -/
def LayerChange.mask (h : LayerChange) : Nat := boolNat h.geo.isSome + 2 * boolNat h.opacity.isSome

/-- A list's element replaced. -/
def lset {α : Type} (d : α) (l : List α) (i : Nat) (x : α) : List α :=
  (List.range (max l.length (i + 1))).map (fun j => if j = i then x else l.getD j d)

/-- The geometry latch of frame n (R197, R207, R209, R227). -/
def State.geometryLatch (s : State) (p : Production) (c : Ctx) (n : Nat) : State :=
  let set := p.sets.getD c.layers {}
  let x := s.ctxSt c.context
  let base := if x.inForce = [] then set.layers.map Layer.geo else x.inForce
  let now := x.changes.filter (fun h => decide (h.frame ≤ n))
  let force := now.foldl (fun g h => lset {} g h.layer (h.apply (g.getD h.layer {}))) base
  -- an SRC_FULL layer takes the measured size of its source's newest complete frame (R207)
  let full := set.layers.zipIdx.map (fun l =>
    let g := force.getD l.2 {}
    if l.1.kind = 1 ∧ l.1.srcFull = true then
      let r := s.ringOf p l.1.source
      match r.newest.bind (finOf 3) with
      | some i => { g with src := ⟨0, 0, (vget r.bufs i).maxX, (vget r.bufs i).maxY⟩ }
      | none => g
    else g)
  let wide := set.layers.zipIdx.map (fun l =>
    if l.1.kind = 1 ∧ l.1.srcFull = true then
      let g := full.getD l.2 {}
      (List.range c.tiles).find? (fun t => decide (l.1.spanMax < layerSpan g.dst g.src (c.tilePx t)))
    else none)
  let was := fun (i : Nat) => x.tooWide.getD i false
  let evs := now.map (fun h => s.ev c.context 0x0405 [(4, n), (2, h.layer), (1, h.mask)])
    ++ wide.zipIdx.flatMap (fun w =>
      match w.1 with
      | some t => evIf (!was w.2)
          (s.ev c.context 0x0403 [(4, n), (2, w.2), (2, t), (4, layerSpan (full.getD w.2 {}).dst (full.getD w.2 {}).src (c.tilePx t))])
      | none => evIf (was w.2) (s.ev c.context 0x0404 [(4, n), (2, w.2)]))
  State.raiseAll
    (s.setCtx c.context { x with
      frame := n
      changes := x.changes.filter (fun h => decide (n < h.frame))
      inForce := force
      tooWide := wide.map (·.isSome)
      latches := { frame := n, geo := full, left := c.tiles, states := wide.map (fun w => if w.isSome then 3 else 0) }
        :: x.latches.take 1 })
    evs

/-! ### The content latch -/

/-- CURTAIN_N was low at some instant of [a, b), in ticks (R218). -/
def Curtain.lowIn (k : Curtain) (a b : Nat) : Bool :=
  k.lows.any (fun l => decide (l.1 < b) && (match l.2 with | some r => decide (a < r) | none => true))

/-- What a reset leaves of the curtain (R222): the pin and the generation. -/
def Curtain.cleared (k : Curtain) : Curtain := { pin := k.pin, lows := k.lows, gen := k.gen }

/-- The curtain state: DOWN when the command state is DOWN or the filtered pin is low (R219). -/
def Curtain.isDown (k : Curtain) : Bool := k.cmdDown || !k.pin

/-- The curtain changed, with its generation and events where the curtain state changes (R219, R227). -/
def State.moveCurtain (s : State) (k : Curtain) (cause : Nat) : State :=
  if k.isDown = s.curtain.isDown then { s with curtain := k }
  else
    let gen : Nat := (s.curtain.gen + 1) % 2 ^ 32
    let e := if k.isDown then s.ev 820 0x0410 [(1, (cause : Nat)), (4, (gen : Int))] else s.ev 820 0x0411 [(4, (gen : Int))]
    State.raise { s with curtain := { k with gen := gen } } { e with stamp := if cause = 0 then s.edgeNow else s.now }

/-- A layer at the content latch: its buffer, its state (0 shown, 1 not ready, 2 stale, 3 too wide), and whether the
not-ready and stale events are due (R207). -/
def State.layerLatch (s : State) (p : Production) (x : CtxState) (l : Layer) (i tick wide : Nat) :
    Option Nat × Nat × Bool × Bool :=
  if l.kind = 2 then
    let g := s.pairOf p l.source
    if g.committed then (some g.front, 0, false, false) else (none, 1, true, false)
  else if l.kind = 1 then
    let r := s.ringOf p l.source
    let q := (p.source l.source).getD {}
    -- the source frame whose window closed last before t_c
    let closed := markIndex q.rateNum q.rateDen (tick - ceilDiv (4 * q.lag) 5) - 1
    let ready := r.newest.isSome && r.whole.contains closed
    let run := x.notReady.getD i 0 + 1
    let stale := !ready && decide (0 < l.stale ∧ l.stale ≤ run)
    let shown := if wide = 3 then 3 else if ready then 0 else if stale ∨ r.newest = none then 2 else 1
    (if shown = 0 ∨ shown = 1 then r.newest else none, if ready then (if wide = 3 then 3 else 0) else if stale then 2 else if wide = 3 then 3 else 1,
      !ready, stale && !(x.stale.getD i false))
  else (none, 0, false, false)

/-- The content latch of frame n of a context, at a tick (R197, R207, R218, R221). -/
def State.contentLatchAt (s : State) (p : Production) (c : Ctx) (n tick : Nat) : State :=
  let x := s.ctxSt c.context
  match x.latches.find? (fun l => l.frame == n) with
  | none => s
  | some l =>
    if l.content then s
    else
      let set := p.sets.getD c.layers {}
      let rs := set.layers.zipIdx.map (fun y => s.layerLatch p x y.1 y.2 tick (l.states.getD y.2 0))
      -- a context's first latch has no previous one: the interval then spans one frame (notes/assumptions/37)
      let prev := if x.prevTc = 0 then tick - markTick c.rateNum c.rateDen 1 else x.prevTc
      let down := s.curtain.cmdDown || s.curtain.lowIn (prev - 80) (tick - 80)
      let l' := { l with
        content := true, down := down, image := s.curtain.valid, gen := s.curtain.gen, prev := x.lastGen
        bufs := rs.map (·.1), states := rs.map (·.2.1)
        holds := (set.layers.zip rs).filterMap (fun y => y.2.1.map (fun b =>
          (if y.1.kind = 1 then s.ringKind p y.1.source else s.pairKind p y.1.source, y.1.source, b))) }
      let miss : List Nat := rs.zipIdx.map (fun r => if r.1.2.2.1 then x.notReady.getD r.2 0 + 1 else 0)
      let evs := rs.zipIdx.flatMap (fun r =>
        evIf r.1.2.2.1 (s.ev c.context 0x0401 [(4, n), (2, r.2), (4, miss.getD r.2 0)])
          ++ evIf r.1.2.2.2 (s.ev c.context 0x0402 [(4, n), (2, r.2)]))
      State.raiseAll
        (s.setCtx c.context { x with
          latches := x.latches.map (fun y => if y.frame = n then l' else y)
          prevTc := tick, lastGen := s.curtain.gen, notReady := miss
          stale := rs.zipIdx.map (fun r => r.1.2.2.1 && (x.stale.getD r.2 false || r.1.2.2.2)) })
        evs

/-- A context's latch for a frame. -/
def CtxState.latch (x : CtxState) (n : Nat) : Latch := (x.latches.find? (fun l => l.frame == n)).getD {}

end Sys2Proof.Machine
end

