-- ==== Sys2Proof/Machine/BoxOps.lean ====
section
/-! DEFINITION. Context records and the box office: a record's first state (R91, R177), sweeps and the clean area (R127
to R130), buffers (R112 to R114), floor choices and their bounds (R165, R166), the frame target and the reserve (R178,
R181), and the decision of a CTU (R179). One box office works on one tile (R171). -/

namespace Sys2Proof.Machine

/-- What one box office works with: the context, its coding and box office entries, and the tile. -/
structure Tile where
  ctx : Ctx
  cod : Coding
  box : BoxEntry
  t   : Nat
  deriving DecidableEq, Repr

/-- A context's tile in a production. -/
def Production.tile (p : Production) (c : Ctx) (t : Nat) : Tile := ⟨c, p.codingOf c, p.boxOf c, t⟩

/-- CTU columns of the tile: n_k. -/
def Tile.w (a : Tile) : Nat := a.ctx.tileW a.t

/-- The tile's share of schedule i: rate and buffer (R171). -/
def Tile.sched (a : Tile) (i : Nat) : Nat × Nat := a.box.tileSched a.ctx.tiles i

/-- The drain before decoding unit k under schedule i (R169, R170). -/
def Tile.drain (a : Tile) (i k : Nat) : Nat := drainBefore a.ctx a.box (a.sched i).1 k

/-- Signalled schedules. -/
def Tile.scheds (a : Tile) : List Nat := List.range a.box.schedCount

/-- The tile of the lowest-numbered engine carries decoding unit 0's non-VCL bits (R171). -/
def Tile.first (a : Tile) : Bool := a.t == 0

/-! ### Records -/

/-- A number in a signed field of the record (R176); the spec does not say what the field takes of a number outside its
range (notes/assumptions/65). -/
def signedField (bits : Nat) (z : Int) : Int :=
  if -2 ^ (bits - 1) ≤ z ∧ z < 2 ^ (bits - 1) then z else (Config.narrow bits z).toInt

/-- The box office state of a stream start (R177). -/
def Tile.boxInit (a : Tile) : BoxState :=
  { core := ⟨List.replicate a.box.schedCount 0, 0, a.box.schedInit, a.box.qpLoInit, a.box.qpHiInit, false, a.box.rAvgInit,
      [], [], 0, 0, 0, 0, 0, 0, none⟩
    lx := (List.range a.ctx.rows).foldl (fun m k => cset 0 m k (signedField 16 (a.box.lxInit + q6 a.w))) [] }

/-- A context's first record, every reference invalid (R91, R112, R113). -/
def Tile.firstRec (a : Tile) (production : Nat) : CtxRec :=
  { production := production, box := a.boxInit, ref0 := 0
    ref1 := 1, write := if a.cod.structure_ = 1 then 2 else 1
    backdrop := if a.cod.structure_ = 1 then 3 else 2, spare := 3 }

/-- Number of CTU (x, k) within its tile (R116). -/
def Tile.ctu (a : Tile) (x k : Nat) : Nat := k * a.w + x

/-- The validity bit of CTU t of a buffer (R120). -/
def CtxRec.ok (r : CtxRec) (buffer t : Nat) : Bool := cget false r.valid (2048 * buffer + t)

/-- A buffer's bits set or cleared. -/
def CtxRec.mark (r : CtxRec) (buffer t : Nat) (v : Bool) : CtxRec := { r with valid := cset false r.valid (2048 * buffer + t) v }

/-- The format fields of a context that its record's identity keeps (R56, R88). -/
def Ctx.formatFields (c : Ctx) : List Nat :=
  [c.codec, c.chroma, c.width, c.height, c.rateNum, c.rateDen, c.mode, c.engineMask]

/-- Number of a CTU of a buffer in the tables of reference data. -/
def refKey (context buffer tile t : Nat) : Nat := ((4 * context + buffer) * 4 + tile) * 2048 + t

/-! ### A buffer's parts -/

/-- Address of a reference buffer's region (R434, notes/assumptions/7). -/
def Production.refBase (p : Production) (context buffer : Nat) : Nat := p.region 2 (4 * context + buffer)

/-- Address of a tile's part of a reference buffer: the parts follow one another in tile order, each its CRF, its 1/4-level
plane and its 1/2-level plane (R150; notes/assumptions/7). -/
def Production.partBase (p : Production) (c : Ctx) (buffer t : Nat) : Nat :=
  p.refBase c.context buffer + c.tileX t * c.rows * ctuBytes c.chroma

/-- The buffer that an address base names (R73). -/
def CtxRec.buffer (r : CtxRec) (base : Nat) : Nat :=
  match base with
  | 0 => r.ref0
  | 1 => r.ref1
  | 2 => r.backdrop
  | _ => r.spare

/-- A record's bases 0 to 5 and its own address (R73, R88). -/
def Production.bases (p : Production) (a : Tile) (r : CtxRec) : List Nat :=
  (List.range 4).map (fun b => p.partBase a.ctx (r.buffer b) a.t)
    ++ [p.region 3 (2 * a.ctx.source), p.region 3 (2 * a.ctx.source + 1), p.region 1 a.ctx.context]

/-! ### Sweeps -/

/-- The frame's place in the sweep in progress (R127). -/
def CtxRec.sweepFrame (r : CtxRec) (n : Nat) : Option Nat :=
  if r.sweeping ∧ r.poc - r.sweepStart < n then some (r.poc - r.sweepStart) else none

/-- The place in a sweep that the next frame will have (R181). -/
def CtxRec.nextSweep (r : CtxRec) (k : Coding) : Option Nat :=
  let i := r.poc + 1 - r.sweepStart
  if i = k.period then some 0 else if r.sweeping ∧ i < k.sweepN then some i else none

/-- Column x lies in the refresh band of sweep frame i. -/
def Tile.inBand (a : Tile) (i : Option Nat) (x : Nat) : Bool :=
  match i with
  | none => false
  | some i => let b := a.ctx.band a.cod i; decide (b.1 ≤ x) && decide (x < b.2)

/-- The first pixel column that a clean CTU's candidates may not touch in sweep frame i (R129, R130). -/
def Tile.cleanEnd (a : Tile) (i : Nat) : Nat :=
  let lim := if i = 0 then 0 else 64 * (a.ctx.band a.cod (i - 1)).2
  if a.cod.codec = 0 then lim - 8 else lim

/-- A footprint ending before pixel column `right` meets the clean-area rule for a CTU at column x (R121, R129, R130): it
binds the columns up to the band's end. -/
def Tile.cleanOk (a : Tile) (i : Option Nat) (x right : Nat) : Bool :=
  match i with
  | none => true
  | some i => !decide (x < (a.ctx.band a.cod i).2) || decide (min right a.ctx.width ≤ a.cleanEnd i)

/-- A floor CTU at picture column x may be floor skip (R165, R221): outside the band, the zero vector's footprint clean,
ref0's co-located CTU valid, and the curtain's generation unchanged. -/
def Tile.skipOk (a : Tile) (i : Option Nat) (x : Nat) (valid gen : Bool) : Bool :=
  !a.inBand i x && a.cleanOk i x (64 * x + 68) && valid && gen

/-! ### Floor bounds and the reserve -/

/-- f_s or f_i. -/
def Tile.floorBits (a : Tile) (skip : Bool) : Nat := if skip then floorSkipBits else floorIntraBits a.ctx.chroma

/-- The floor bits of CTU x of row k of the current frame (R165). -/
def Tile.f (a : Tile) (r : CtxRec) (gen : Bool) (x k : Nat) : Nat :=
  a.floorBits (a.skipOk (r.sweepFrame a.cod.sweepN) (a.ctx.tileX a.t + x) (r.ok r.ref0 (a.ctu x k)) gen)

/-- φ(k) of the current frame (R181). -/
def Tile.phi (a : Tile) (r : CtxRec) (gen : Bool) (au k : Nat) : Nat :=
  a.box.fRow + floorEnd + ((List.range a.w).map (fun x => a.f r gen x k)).sum + (if k = 0 then au else 0)

/-- φ(k) of the next frame: every CTU this frame codes taken as valid (R181). -/
def Tile.phiNext (a : Tile) (r : CtxRec) (k : Nat) : Nat :=
  a.box.fRow + floorEnd
    + ((List.range a.w).map (fun x => a.floorBits (a.skipOk (r.nextSweep a.cod) (a.ctx.tileX a.t + x) true true))).sum
    + (if k = 0 ∧ a.first then fAu a.ctx a.cod else 0)

/-- ρ_i before row k: the rows from k on, then the next frame (R181). -/
def Tile.rho (a : Tile) (r : CtxRec) (gen : Bool) (au i k : Nat) : Nat :=
  reserve (((List.range a.ctx.rows).drop k).map (fun j => (a.phi r gen au j, a.drain i j))
    ++ (List.range a.ctx.rows).map (fun j => (a.phiNext r j, a.drain i j)))

/-! ### The frame target -/

/-- floor(r × T_frame) for a rate, as a signed number. -/
def Tile.perFrame (a : Tile) (r : Nat) : Int := (frameBitsAt a.ctx r : Nat)

/-- τ, β and qp_row of a frame (R178), its reserve, and whether the reserve before row 0 leaves no room (R186): `before`
is the fullness before row 0's drain, which that reserve already counts. β is 0 where the sum of e6 over the rows is 0
(DESIGN CHOICE, notes/assumptions/65: R178 divides by it and names no value). -/
def Tile.target (a : Tile) (r : CtxRec) (gen start : Bool) (before : List Nat) (au : Nat) : BoxState :=
  let b := r.box.core
  let rows := List.range a.ctx.rows
  let sel := a.sched b.schedSel
  let v : Int := (b.v.getD b.schedSel 0 : Nat)
  let raw : Int := match a.box.mode with
    | 0 => a.perFrame sel.1 + ((sel.2 / 2 : Nat) - v) / 4
    | 1 => a.perFrame (b.rAvg / a.ctx.tiles) + b.acc / 8
    | _ => a.perFrame sel.1
  let tau := max raw.toNat ((rows.map (a.phi r gen au)).sum)
  let lx := fun k => cget 0 r.box.lx k
  let total := (rows.map (fun k => e6 (lx k))).sum
  let beta := fun k => if a.box.mode = 2 then tau / a.ctx.rows else tau * e6 (lx k) / total
  let qp := fun (k : Nat) =>
    if a.box.mode = 2 then a.box.qpConst
    else
      let q := 4 + lx k - q6 (max (beta k) 1)
      let o := cget 0 r.box.qpPrev k
      if start then q else clampInt q (o - 6) (o + 6)
  let none_ := a.scheds.any (fun i => decide ((a.sched i).2 < before.getD i 0 + a.rho r gen au i 0))
  { r.box with
    core := { b with sticky := none_, tau := tau }
    beta := rows.foldl (fun m k => cset 0 m k (beta k)) []
    qpRow := rows.foldl (fun m k => cset 0 m k (qp k)) []
    rho := a.scheds.foldl (fun m i => rows.foldl (fun m k => cset 0 m (128 * i + k) (a.rho r gen au i (k + 1))) m) [] }

/-! ### The decision of a CTU -/

/-- What a decision point gives: the floor cause (0 none), the QP, room and rb (R179). -/
structure Decision where
  floor : Nat
  qp    : Int
  room  : Nat
  rb    : Nat
  deriving DecidableEq, Repr

/-- frest: the floor bits of the row's later CTUs and its end (R179). -/
def Tile.frest (a : Tile) (r : CtxRec) (gen : Bool) (x k : Nat) : Nat :=
  (((List.range a.w).drop (x + 1)).map (fun j => a.f r gen j k)).sum + floorEnd

/-- room (R179). -/
def Tile.room (a : Tile) (r : CtxRec) (gen : Bool) (x k known : Nat) : Int :=
  let rest := known + a.frest r gen x k
  (a.scheds.map (fun i =>
    ((a.sched i).2 : Int) - (r.box.core.v.getD i 0 + cget 0 r.box.rho (128 * i + k) + rest : Nat))).foldl min (2 ^ 40)

/-- The decision of CTU x of row k (R179), with m the modelled bin fill. -/
def Tile.decide (a : Tile) (r : CtxRec) (gen : Bool) (x k known m : Nat) : Decision :=
  let b := r.box.core
  let room := a.room r gen x k known
  let rb := 262144 - m - 128
  let beta := cget 0 r.box.beta k
  let plan : Int := (beta * x / a.w : Nat)
  let delta := if a.box.mode = 2 then 0 else clampInt (8 * ((known : Int) - plan) / max (beta : Int) 1) (-3) 6
  let hw : Int := if a.box.hwBins ≤ m then (a.box.hwStep : Nat) else 0
  let qp := clampInt (clampInt (cget 0 r.box.qpRow k + delta + hw) b.qpLo b.qpHi) a.cod.qpMin a.cod.qpMax
  ⟨if b.sticky ∨ room < sideBits then 1 else if rb < sideBins then 2 else 0, qp, room.toNat, rb⟩

/-! ### Ends of rows and frames -/

/-- Schedule i's fullness at the entry of decoding unit k (R170). -/
def Tile.enter (a : Tile) (b : BoxRec) (k : Nat) : BoxRec := { b with v := a.scheds.map (fun i => b.v.getD i 0 - a.drain i k) }

/-- Filler bytes after decoding unit k, whose bits are in v (R170). -/
def Tile.fillerBytes (a : Tile) (b : BoxRec) (k : Nat) : Nat :=
  let next := a.drain 0 (if k + 1 < a.ctx.rows then k + 1 else 0)
  if a.box.mode = 0 ∧ b.v.getD 0 0 < next then max 7 (ceilDiv (next - b.v.getD 0 0) 8) else 0

/-- The box office after a frame's last decoding unit (R180, R185). `stats` gives per row the normal CTUs, the sum of
their QPs, their bits, and n_k. -/
def Tile.frameEnd (a : Tile) (x : BoxState) (stats : Cells (Nat × Int × Nat × Nat)) (bits filler clipped floors : Nat) :
    BoxState :=
  let b := x.core
  let lx := fun (k : Nat) =>
    let s := cget (0, 0, 0, 1) stats k
    signedField 16 (if 1 ≤ s.1 then q6 (max 1 (s.2.2.1 * s.2.2.2 / s.1)) + s.2.1 / s.1 - 4 else cget 0 x.lx k + 6)
  let rows := List.range a.ctx.rows
  let avg := a.perFrame (b.rAvg / a.ctx.tiles)
  { x with
    lx := rows.foldl (fun m k => cset 0 m k (lx k)) x.lx
    qpPrev := rows.foldl (fun m k => cset 0 m k (signedField 8 (cget 0 x.qpRow k))) x.qpPrev
    core := { b with
      acc := if a.box.mode = 1 then clampInt (b.acc + avg - bits) (-2 * avg) (2 * avg) else b.acc
      floorLast := b.floorRows, frameBits := bits, fillerBits := filler, floorCtus := floors, clipped := clipped } }

/-- The buffers after a frame (R113, R114): `capture` says that the frame captures the backdrop. -/
def CtxRec.turn (r : CtxRec) (structure_ : Nat) (capture : Bool) : CtxRec :=
  let r1 := match structure_ with
    | 1 => { r with ref0 := r.write, ref1 := r.ref0, write := r.ref1 }
    | _ =>
      if r.capturing.isSome then
        { r with ref0 := r.write, write := r.spare, backdrop := r.ref0, spare := r.backdrop, captured := true, capturing := none }
      else { r with ref0 := r.write, write := r.ref0 }
  { r1 with capturing := if capture then some r.poc else r1.capturing }

/-- The box office part of a record as bytes (R176): 0x1000 to 0x1FFF. -/
def BoxState.bytes (x : BoxState) (pending : Option RateChange) : List Byte :=
  let b := x.core
  let bits := fun (l : List Nat) => leBytes 16 ((l.map (fun k => 2 ^ k)).sum)
  let body := (List.range 4).flatMap (fun i => leBytes 8 (b.v.getD i 0)) ++ leInt 8 b.acc ++ leBytes 1 b.schedSel
    ++ leInt 1 b.qpLo ++ leInt 1 b.qpHi ++ leBytes 1 (boolNat b.sticky + 2 * boolNat pending.isSome) ++ leBytes 4 b.rAvg
    ++ (match pending with
        | some h => leBytes 1 (h.sched.getD b.schedSel) ++ leInt 1 (h.qpLo.getD b.qpLo) ++ leInt 1 (h.qpHi.getD b.qpHi) ++ [0]
            ++ leBytes 4 (h.rAvg.getD b.rAvg) ++ leBytes 4 h.frame ++ [0, 0, 0, 0]
        | none => List.replicate 16 0)
    ++ bits b.floorRows.dedup ++ bits b.floorLast.dedup ++ leBytes 4 b.frameBits ++ leBytes 4 b.fillerBits
    ++ leBytes 2 b.floorCtus ++ leBytes 2 b.clipped ++ leBytes 1 b.cause ++ [0, 0, 0] ++ leBytes 4 b.tau ++ List.replicate 12 0
    ++ (List.range 128).flatMap (fun k => leInt 1 (cget 0 x.qpPrev k))
    ++ (List.range 512).flatMap (fun k => leBytes 4 (cget 0 x.rho k))
  body ++ List.replicate (4096 - body.length) 0

/-- The log complexities as bytes (R176): 0x5000 to 0x50FF of the record. -/
def BoxState.lxBytes (x : BoxState) : List Byte := (List.range 128).flatMap (fun k => leInt 2 (cget 0 x.lx k))

/-- The motion field as bytes (R156): 8 per CTU of the tile, in raster order. -/
def mfBytes (m : Cells MField) : List Byte :=
  (List.range 2048).flatMap (fun t => let v := cget {} m t; leInt 2 v.x0 ++ leInt 2 v.y0 ++ leInt 2 v.x1 ++ leInt 2 v.y1)

/-! ### Rate changes -/

/-- A later change laid over an earlier one, field by field (R188). -/
def RateChange.over_ (new old : RateChange) : RateChange :=
  ⟨new.sched.orElse (fun _ => old.sched), new.rAvg.orElse (fun _ => old.rAvg), new.qpLo.orElse (fun _ => old.qpLo),
    new.qpHi.orElse (fun _ => old.qpHi), new.frame⟩

/-- A change taken into a box office state. -/
def BoxState.change (x : BoxState) (h : RateChange) : BoxState :=
  { x with core := { x.core with
      schedSel := h.sched.getD x.core.schedSel, rAvg := h.rAvg.getD x.core.rAvg
      qpLo := h.qpLo.getD x.core.qpLo, qpHi := h.qpHi.getD x.core.qpHi } }

/-! ### Records at their places -/

/-- The record of a context that an engine's store holds in use. -/
def Engine.record (g : Engine) (c : Nat) : Option CtxRec :=
  match vget g.store g.storeHalf with
  | some (k, r) => if k = c then some r else none
  | none => none

/-- An engine's record in use changed. -/
def Engine.setRecord (g : Engine) (c : Nat) (r : CtxRec) : Engine := { g with store := vset g.store g.storeHalf (some (c, r)) }

/-- An engine replaced. -/
def State.setEngine (s : State) (e : Fin 16) (g : Engine) : State := { s with engines := vset s.engines e g }

/-- A record's validity bits as other tiles' engines read them in DDR5 (R60, R120; notes/assumptions/68). -/
def State.publish (s : State) (context tile : Nat) (r : CtxRec) : State :=
  { s with ddr := { s.ddr with pub := cset [] s.ddr.pub (4 * context + tile) r.valid } }

/-- The record of a context's tile: the one in use, or the copy in DDR5. -/
def State.recordOf (s : State) (c : Ctx) (t : Nat) : Option CtxRec :=
  ((finOf 16 (c.engines.getD t 16)).bind (fun e => (vget s.engines e).record c.context)).orElse (fun _ => s.ddr.record c.context t)

end Sys2Proof.Machine
end

