-- ==== Sys2Proof/Machine/Compose.lean ====
section
/-! DEFINITION. The composed picture (R192 to R208, R215) and the coarse search (R151 to R156, R163). -/

namespace Sys2Proof.Machine

/-! ### The composed picture -/

/-- What composition reads for one context and frame. -/
structure Scene where
  ctx     : Ctx
  set     : LayerSet
  latch   : Latch
  format  : Nat := 0                       -- of the context's source
  base    : Picture := {}
  layers  : List (Layer × Geo × Picture × Nat × Memory × Nat) := [] -- entry, geometry, ring picture, its format, graphic buffer, stride
  curtain : Curtain := {}
  lost    : List Nat := []                 -- layers whose reads were lost for the CTU

/-- A graphic buffer of a pair. -/
def PairState.buf (g : PairState) (i : Nat) : Memory := if i = 0 then g.buf0 else g.buf1

/-- The scene of a context's frame. -/
def State.scene (s : State) (p : Production) (c : Ctx) (n : Nat) (lost : List Nat) : Scene :=
  let set := p.sets.getD c.layers {}
  let l := (s.ctxSt c.context).latch n
  { ctx := c, set := set, latch := l, format := ((p.source c.source).getD {}).format
    base := (cget {} s.pictures (picKey c.context n)).forFrame n
    layers := set.layers.zipIdx.map (fun y =>
      let b := (l.bufs.getD y.2 none).getD 0
      (y.1, l.geo.getD y.2 y.1.geo,
        (if y.1.kind = 1 then ((finOf 3 b).map (fun i => vget (s.ringOf p y.1.source).bufs i)).getD {} else {}),
        ((p.source y.1.source).getD {}).format,
        (if y.1.kind = 2 then (s.pairOf p y.1.source).buf b else []), (p.pairs.getD y.1.source {}).stride))
    curtain := s.curtain, lost := lost }

/-- A layer shows its fill colour (R207). -/
def Latch.fills (l : Latch) (i : Nat) : Bool := decide (2 ≤ l.states.getD i 0) || (l.bufs.getD i none).isNone

/-- Rectangle division for the chroma grid (R200). -/
def rectDiv (r : Rect) (x y : Nat) : Rect := ⟨r.x / x, r.y / y, r.w / x, r.h / y⟩

/-- A place lies in a rectangle. -/
def inRect (r : Rect) (x y : Nat) : Bool := decide (r.x ≤ x) && decide (x < r.x + r.w) && decide (r.y ≤ y) && decide (y < r.y + r.h)

/-- A graphic layer's word at a luma place of the picture (R202). -/
def graphicWord (m : Memory) (stride : Nat) (g : Geo) (x y : Nat) : Nat :=
  leNat (readBytes m ((g.src.y + y - g.dst.y) * stride + 4 * (g.src.x + x - g.dst.x)) 4)

/-- The rounded mean of two or four values (R203). -/
def mean (l : List Int) : Int :=
  let n : Int := l.length
  (l.sum + n / 2) / n

/-- A layer's sample and alpha for component c at place (x, y) of that component's grid (R200, R202, R203). -/
def layerSample (chroma : Nat) (l : Layer) (g : Geo) (pic : Picture) (format : Nat) (m : Memory) (stride c x y : Nat) : Int × Nat :=
  let sx := if c = 0 then 1 else subX chroma
  let sy := if c = 0 then 1 else subY chroma
  if l.kind = 1 then
    let d := rectDiv g.dst sx sy
    let r := rectDiv g.src sx sy
    let ax := scaleAt r.x r.w d.x d.w x
    let ay := scaleAt r.y r.h d.y d.h y
    let s := pic.sample format chroma c
    ((bilinear (s ax.1 ay.1) (s ax.2.1 ay.1) (s ax.1 ay.2.1) (s ax.2.1 ay.2.1) ax.2.2 ay.2.2 : Nat), 256)
  else
    let group := (List.range sy).flatMap (fun j => (List.range sx).map (fun i =>
      graphicPixel l.argb2 (graphicWord m stride g (sx * x + i) (sy * y + j))))
    (mean (group.map (fun q => graphicYcc l.m2020 (l.premult && !l.opaque_) q c)), (mean (group.map (fun q => (q.1 : Int)))).toNat)

/-- The quad at (qx, qy), in quads of the picture, lies wholly inside a rectangle (R205). -/
def coversQuad (r : Rect) (qx qy : Nat) : Bool :=
  decide (r.x ≤ 16 * qx) && decide (16 * qx + 16 ≤ r.x + r.w) && decide (r.y ≤ 16 * qy) && decide (16 * qy + 16 ≤ r.y + r.h)

/-- The used layers in ascending z, each with its slot. -/
def Scene.stack (v : Scene) : List (Nat × (Layer × Geo × Picture × Nat × Memory × Nat)) :=
  (List.range 8).flatMap (fun z => (v.layers.zipIdx.filter (fun y => y.1.1.kind != 0 && y.1.1.z == z)).map (fun y => (y.2, y.1)))

/-- The z of the topmost layer that covers a quad (R205, R208). -/
def Scene.cover (v : Scene) (qx qy : Nat) : Option Nat :=
  ((v.stack.filter (fun y => y.2.1.opaque_ && !v.latch.fills y.1 && coversQuad y.2.2.1.dst qx qy)).map (·.2.1.z)).max?

/-- The palette index that the curtain takes for a luma place (R215). -/
def Curtain.index (k : Curtain) (width height x y : Nat) : Nat :=
  let cx := x * 3840 / width
  let cy := y * 2160 / height
  (readByte k.mem (0x80 + 960 * cy + cx / 4)).toNat / 2 ^ (2 * (cx % 4)) % 4

/-- The curtain's sample of component c at a luma place (R215). -/
def Curtain.sample (k : Curtain) (image : Bool) (width height c x y : Nat) : Nat :=
  if image then packedColour (leNat (readBytes k.mem (0x40 + 4 * k.index width height x y) 4)) c
  else if c = 0 then 64 else 512

/-- The composed sample of component c at place (x, y) of its grid (R192, R204, R207, R208, R215). -/
def Scene.sample (v : Scene) (c x y : Nat) : Nat :=
  let ch := v.ctx.chroma
  let sx := if c = 0 then 1 else subX ch
  let sy := if c = 0 then 1 else subY ch
  if v.latch.down then v.curtain.sample v.latch.image v.ctx.width v.ctx.height c (sx * x) (sy * y)
  else
    let cover := v.cover (sx * x / 16) (sy * y / 16)
    let u0 : Int := packedColour v.set.background c
    let u1 : Int := if v.set.base ∧ cover.isNone then (v.base.sample v.format ch c x y : Nat) else u0
    let one := fun (u : Int) (y' : Nat × (Layer × Geo × Picture × Nat × Memory × Nat)) =>
      let l := y'.2.1
      let g := y'.2.2.1
      if decide (l.z < cover.getD 0) || v.lost.contains y'.1 || !inRect (rectDiv g.dst sx sy) x y then u
      else if v.latch.fills y'.1 then blend true false 256 256 (packedColour l.fill c) u
      else
        let q := layerSample ch l g y'.2.2.2.1 y'.2.2.2.2.1 y'.2.2.2.2.2.1 y'.2.2.2.2.2.2 c x y
        blend l.opaque_ l.premult q.2 g.opacity q.1 u
    (v.stack.foldl one u1).toNat

/-- The places of quad (qx, qy) in component c's grid. -/
def quadPlaces (chroma c qx qy : Nat) : List (Nat × Nat) :=
  let sx := if c = 0 then 1 else subX chroma
  let sy := if c = 0 then 1 else subY chroma
  (List.range (16 / sy)).flatMap (fun j => (List.range (16 / sx)).map (fun i => (16 * qx / sx + i, 16 * qy / sy + j)))

/-- A composed quad: Y, then Cb, then Cr, each in raster order. -/
def Scene.quad (v : Scene) (qx qy : Nat) : List Nat :=
  [0, 1, 2].flatMap (fun c => (quadPlaces v.ctx.chroma c qx qy).map (fun q => v.sample c q.1 q.2))

/-- The rounding of composition output for an 8-bit context (R102). -/
def roundOut (bitDepth x : Nat) : Nat := if bitDepth = 8 then min 255 ((x + 2) / 4) else x

/-- The sums of the composed samples in each 32×32 luma block of a CTU, and in the chroma blocks that go with it, from
which a floor intra block takes its mean (R122). -/
def Scene.blockSums (v : Scene) (bitDepth col row : Nat) : List Nat :=
  (List.range 4).flatMap (fun b =>
    let quads := (List.range 4).map (fun i => (4 * col + 2 * (b % 2) + i % 2, 4 * row + 2 * (b / 2) + i / 2))
    [0, 1, 2].map (fun c =>
      ((quads.flatMap (fun q => quadPlaces v.ctx.chroma c q.1 q.2)).map (fun q => roundOut bitDepth (v.sample c q.1 q.2))).sum))

/-! ### The coarse search -/

/-- A reference as the coarse stage sees it (R151, R152, R163): the block of a picture CTU that a coarse slot holds, and
whether its validity bit is set and its slot valid. -/
structure RefView where
  ctx   : Ctx
  block : Nat → Nat → List Nat     -- picture column and row of CTUs: the 1/4-level block
  valid : Nat → Nat → Bool

/-- A 1/4-level place clamped to the picture (R151). -/
def Ctx.quarterPlace (c : Ctx) (x y : Int) : Nat × Nat :=
  ((clampInt x 0 (c.width / 4 - 1 : Nat)).toNat, (clampInt y 0 (c.height / 4 - 1 : Nat)).toNat)

/-- A reference sample. -/
def RefView.at (v : RefView) (x y : Int) : Nat :=
  let q := v.ctx.quarterPlace x y
  (v.block (q.1 / 16) (q.2 / 16)).getD (q.2 % 16 * 16 + q.1 % 16) 0

/-- The footprint of a block at a place is valid (R163). -/
def RefView.ok (v : RefView) (x y size : Int) : Bool :=
  [(x, y), (x + size - 1, y), (x, y + size - 1), (x + size - 1, y + size - 1)].all (fun a =>
    let q := v.ctx.quarterPlace a.1 a.2
    v.valid (q.1 / 16) (q.2 / 16))

/-- len of R155. -/
def mvLen (u : Int) : Nat := 2 * Nat.log 2 (u.natAbs + 1) + 1

/-- The maximum cost (R155). -/
def maxCost : Nat := 0xFFFFFFFF

/-- A coarse search: the reference, the current CTU's 1/4 level, its place in 1/4-level samples, λ_c and the predictor. -/
structure Coarse where
  ref    : RefView
  cur    : List Nat
  x      : Nat
  y      : Nat
  lambda : Nat
  pred   : Int × Int

/-- The vector term of a coarse cost (R155). -/
def Coarse.rate (k : Coarse) (v : Int × Int) : Nat := k.lambda * (mvLen (v.1 - k.pred.1) + mvLen (v.2 - k.pred.2)) / 16

/-- A quad lies in the picture: one that the bottom or the right edge cuts counts whole, its outside samples read by clamping (R151,
R155; DESIGN CHOICE, notes/assumptions/62). -/
def Coarse.quadIn (k : Coarse) (q : Nat) : Bool :=
  decide (k.x + 4 * (q % 4) < k.ref.ctx.width / 4) && decide (k.y + 4 * (q / 4) < k.ref.ctx.height / 4)

/-- SAD of one quad's 4×4 (R155). -/
def Coarse.sad4 (k : Coarse) (q : Nat) (v : Int × Int) : Nat :=
  if k.quadIn q then
    ((List.range 16).map (fun i =>
      let dx := 4 * (q % 4) + i % 4
      let dy := 4 * (q / 4) + i / 4
      let r := k.ref.at ((k.x + dx : Nat) + v.1) ((k.y + dy : Nat) + v.2)
      ((k.cur.getD (16 * dy + dx) 0 : Int) - r).natAbs)).sum
  else 0

/-- The coarse cost of a candidate (R155, R163). -/
def Coarse.cost (k : Coarse) (v : Int × Int) : Nat :=
  if k.ref.ok ((k.x : Int) + v.1) ((k.y : Int) + v.2) 16 then
    min maxCost (((List.range 16).map (fun q => k.sad4 q v)).sum + k.rate v)
  else maxCost

/-- A quad's cost of a candidate. -/
def Coarse.quadCost (k : Coarse) (q : Nat) (v : Int × Int) : Nat :=
  if k.ref.ok ((k.x + 4 * (q % 4) : Nat) + v.1) ((k.y + 4 * (q / 4) : Nat) + v.2) 4 then min maxCost (k.sad4 q v + k.rate v) else maxCost

/-- A candidate clamped to the range of R151. -/
def clampSteer (v : Int × Int) : Int × Int := (clampInt v.1 (-256) 256, clampInt v.2 (-128) 128)

/-- The least of a list by a cost, the lower index among equals (R155). -/
def best (cost : Int × Int → Nat) (l : List (Int × Int)) : Int × Int :=
  (l.foldl (fun (a : Option ((Int × Int) × Nat)) v =>
    match a with
    | none => some (v, cost v)
    | some (b, n) => let m := cost v; if m < n then some (v, m) else some (b, n)) none |>.map (·.1)).getD (0, 0)

/-- The grid of offsets around a centre, the centre excluded, in raster order (R154). -/
def around (step : Int) (c : Int × Int) : List (Int × Int) :=
  ((List.range 25).filter (fun i => i != 12)).map (fun i =>
    (c.1 + step * ((i % 5 : Nat) - 2 : Int), c.2 + step * ((i / 5 : Nat) - 2 : Int)))

/-- The median of three. -/
def median3 (a b c : Int) : Int := max (min a b) (min (max a b) c)

/-- The sweep probe j of the CTU with raster index t in frame f (R154). -/
def probe (t f j : Nat) : Int × Int :=
  let k := (8 * (t + 7 * f) + j) % 153
  (32 * (k % 17 : Nat) - 256, 32 * (k / 17 : Nat) - 128)

/-- The 64 candidates and the steering vector (R154). `near` holds candidates 0 to 6. -/
def Coarse.search (k : Coarse) (near : List (Int × Int)) (t f : Nat) : List (Int × Int) × (Int × Int) :=
  let first := (near ++ [k.pred] ++ (List.range 8).map (probe t f)).map clampSteer
  let second := (around 4 (best k.cost first)).map clampSteer
  let third := (around 1 (best k.cost (first ++ second))).map clampSteer
  let all := first ++ second ++ third
  (all, best k.cost all)

/-- A quad's coarse vector: the least among the candidates within steering ± 1 (R155). -/
def Coarse.quad (k : Coarse) (q : Nat) (all : List (Int × Int)) (steer : Int × Int) : Int × Int :=
  best (k.quadCost q) (all.filter (fun v => decide ((v.1 - steer.1).natAbs ≤ 1) && decide ((v.2 - steer.2).natAbs ≤ 1)))

end Sys2Proof.Machine
end

