-- ==== Sys2Proof/Machine/EngineOps.lean ====
section
/-! DEFINITION. What the sequencer and the units share: the slot's work in hand, freezes and substitution (R79 to R83), the
start of a frame (R91, R113, R124, R125, R128, R132) and the end of a block. -/

namespace Sys2Proof.Machine

/-- The work of an engine's slot: its production, context, tile, tables and slot entry. -/
structure Job where
  prod : Production
  tile : Tile
  tab  : EngineTab
  slot : Slot
  deriving DecidableEq, Repr

/-- The context of a job. -/
def Job.ctx (j : Job) : Ctx := j.tile.ctx

/-- b of a job (R44, R69). -/
def Job.b (j : Job) : Nat := j.tab.slotB j.slot

/-- Chroma class of a job's program. -/
def Job.chromaClass (j : Job) : Nat := (j.tab.programs.getD j.slot.program {}).chroma

/-- How many swaps ago a frame's production ran (R9, R55, R284). -/
def State.framesAgo (s : State) (frameTick : Nat) : Nat := (s.old.filter (fun x => decide (frameTick < tickOf x.2))).length

/-- A frame's work belongs to a production before the last swap. -/
def State.frameOld (s : State) (frameTick : Nat) : Bool := decide (0 < s.framesAgo frameTick)

/-- The job of an engine inside a slot: a frame of a former production runs that production's words (R55). -/
def State.job (s : State) (e : Fin 16) : Option Job :=
  let g := vget s.engines e
  if g.q.inSlot then
    (s.prodAt g.q.frameTick).bind (fun p => (p.ctx g.q.context).map (fun c =>
      let t := if s.frameOld g.q.frameTick then (p.engine e.val).getD {} else vget g.halves g.half
      ⟨p, p.tile c g.q.tile, t, t.slots.getD g.q.slot {}⟩))
  else none

/-- The engine issues: it is in a slot, neither frozen nor held. -/
def Engine.issues (g : Engine) : Bool := g.q.inSlot && g.q.frozenAt.isNone && g.q.hold.isNone

/-- The nominal cycle of the cue timeline (R183). -/
def Engine.nominal (g : Engine) (cycle : Nat) : Nat := cycle - g.q.lateness

/-- The modelled fill drained from one nominal cycle to a later one (R183). -/
def drained (fill at_ n : Nat) : Nat := fill - 2 * (n - at_)

/-- The modelled bin fill at the present nominal cycle: 2 bins leave per cycle, and the bins of each BN result join at the
nominal cycle of the result (R183). -/
def Engine.drainFill (g : Engine) (cycle : Nat) : Engine :=
  let n := g.nominal cycle
  let due := g.r.fillDue.filter (fun x => decide (x.1 ≤ n))
  let r := due.foldl (fun (r : RowWork) x => { r with fill := drained r.fill r.fillAt x.1 + x.2, fillAt := max r.fillAt x.1 }) g.r
  { g with r := { r with fill := drained r.fill r.fillAt n, fillAt := max n r.fillAt
                         fillDue := g.r.fillDue.filter (fun x => decide (n < x.1)) } }

/-- The bins that the CABAC coder takes with `k` bins to spend, oldest first: what is left of the buffer, and the runs
that it has finished (R60, R89, R183). -/
def codeBins : Nat → List BinRun → List BinRun × List BinRun
  | _, [] => ([], [])
  | k, x :: t =>
    if x.bins ≤ k then
      let y := codeBins (k - x.bins) t
      (y.1, x :: y.2)
    else ({ x with bins := x.bins - k } :: t, [])

/-- A finished run's bits join its slice (R167, R246). -/
def Slice.code (k : Slice) (x : BinRun) : Slice :=
  if x.context = k.context ∧ x.tile = k.tile ∧ x.row = k.row ∧ x.frame = k.frame then
    { k with written := k.written + x.bits, whole := k.whole || x.last, parts := k.parts ++ [(k.written + x.bits, x.content)]
             ctus := k.ctus ++ [x.ctu] }
  else k

/-- Whole bytes of a slice's NAL unit that the coder has written: its start code is none of them. -/
def Slice.bytesNow (k : Slice) : Nat := k.written / 8 - 4

/-- Byte n of a slice's NAL unit: the coded byte of the content with which the coder has written it (R246). -/
def sliceByte (parts : List (Nat × Nat)) (n : Nat) : Byte :=
  let part := (parts.find? (fun y => decide (8 * (n + 5) ≤ y.1))).orElse (fun _ => parts.getLast?)
  Config.codedByte ((part.map (·.2)).getD 0) n

/-- The CABAC coder drains 2 bins per ECLK cycle whenever bins are present, in the order they were written (R183). -/
def Engine.code (g : Engine) (cycle : Nat) : Engine :=
  let y := codeBins (2 * (cycle - g.binsAt)) g.bins
  { g with bins := y.1, binsAt := cycle
           chunk := { g.chunk with slices := g.chunk.slices.map (fun k => y.2.foldl Slice.code k) } }

/-- The curtain generations allow floor skip (R221). -/
def State.genOk (s : State) (c : Ctx) (frame : Nat) : Bool :=
  let l := (s.ctxSt c.context).latch frame
  l.gen == l.prev

/-! ### Tags -/

/-- Tags consumed late are set ARRIVED with VALID clear (R81, R83): their reads are lost. -/
def Engine.substitute (g : Engine) (ts : List Nat) : Engine :=
  ts.foldl (fun (g : Engine) t => g.readDone (readNo t (cget {} g.tags t).gen) false)
    { g with tags := ts.foldl (fun m t => cmod {} m t (fun x => { x with arrived := true, valid := false })) g.tags
             n := { g.n with substs := satAdd 32 g.n.substs ts.length } }

/-- LATE_READ for the job's context (R96), counted in its status. When the tags are of several DR classes, the class it
names is the first tag's (DESIGN CHOICE, notes/assumptions/63). -/
def State.lateRead (s : State) (e : Fin 16) (ts : List Nat) : State :=
  let g := vget s.engines e
  let x := s.ctxSt g.q.context
  let cls := (cget {} g.tags (ts.headD 0)).desc.cls
  State.raise (s.setCtx g.q.context { x with lateReads := satAdd 32 x.lateReads 1 })
    (s.ev g.q.context 0x0101 [(2, g.q.row), (2, g.q.ctu), (1, cls), (4, ts.length)])

/-- What consuming invalid tags does to the CTU in work (R82, R207); `quad` is the consumer's quad. -/
def Engine.consume (g : Engine) (ts : List Nat) (quad : Nat) : Engine :=
  ts.foldl (fun g t =>
    let x := cget {} g.tags t
    if x.valid then g
    else match x.desc.cls with
      | 0 | 1 =>
        if g.q.floor then { g with c := { g.c with badFloor := true } }
        else { g with c := { g.c with badRef := cset false g.c.badRef quad true } }
      | 2 => { g with c := { g.c with badSource := true } }
      | 3 => { g with c := { g.c with badLayers := (g.c.badLayers ++ [x.desc.base - 6]).dedup } }
      | _ => g) g

/-- Where the sequencer stands: a word, the ECLK cycle at which it is due, and whether it freezes there (R62, R80). -/
structure Reach where
  addr    : Nat
  due     : Nat
  word    : CueWord
  freezes : Bool
  deriving DecidableEq, Repr

/-- The first word that is due by a cycle, in straight line from the one at `a`, which `want` names, or at which a tag that
`late` finds unarrived freezes the engine; the word at `a` may have issued (R61, R62, R80). -/
def reach (t : EngineTab) (late : List Nat → Bool) (want : Nat → CueWord → Bool) (cycle : Nat) :
    Nat → Nat → Nat → Bool → Option Reach
  | 0, _, _, _ => none
  | n + 1, a, due, issued =>
    match t.words[a]? with
    | none => none
    | some w =>
      if cycle < due then none
      else if !issued && late (t.consumed w) then some ⟨a, due, w, true⟩
      else if want a w then some ⟨a, due, w, false⟩
      else if w.sq.1 = 0 then reach t late want cycle n (a + 1) (due + w.wait) false
      else none

/-- The block that runs cannot freeze: a floor block, or one whose tags have been substituted (R81, R83). -/
def Engine.steady (g : Engine) : Bool := g.q.inBlock && (g.q.floor || g.q.noFreeze)

/-- The engine freezes at a word (R80). -/
def Engine.freeze (g : Engine) (r : Reach) (ts : List Nat) (cycle : Nat) : Engine :=
  { g with
    state := if g.failed then 4 else 2
    q := { g.q with pc := r.addr, due := r.due, did := [], frozenAt := some cycle, frzSeen := 0, waiting := ts }
    n := { g.n with freezes := satAdd 32 g.n.freezes 1 } }

/-- The sequencer comes to the word that holds an operation of a slot (14 the sequencer's own): the state, and the engine
at that word when the operation may issue there. Each slot of a word issues once (R61, R62, R80). -/
def State.reachWord (s : State) (e : Fin 16) (t : EngineTab) (slot : Nat) (want : Nat → CueWord → Bool) :
    State × Option (Engine × Reach) :=
  let g := vget s.engines e
  if g.issues = false then (s, none)
  else
    let late := fun (ts : List Nat) => !g.steady && ts.any (fun x => !(cget {} g.tags x).arrived)
    match reach t late (fun a w => want a w && !(a == g.q.pc && g.q.did.contains slot)) s.cycle 32768 g.q.pc g.q.due
        (decide (g.q.did ≠ [])) with
    | none => (s, none)
    | some r =>
      if r.freezes then (s.setEngine e (g.freeze r (t.consumed r.word).dedup s.cycle), none)
      else
        (s, some ({ g with q := { g.q with
          pc := r.addr, due := r.due, did := slot :: (if r.addr = g.q.pc then g.q.did else []) } }, r))

/-- Tags consumed by the words from an address to the return of the current block, or, outside a block, to the next LATE
word; blocks called inside the current one are not its words (R81). -/
def restTags (t : EngineTab) (inside : Bool) : Nat → Nat → List Nat → List (Nat × Nat) → List Nat
  | 0, _, _, _ => []
  | n + 1, a, calls, loops =>
    match t.words[a]? with
    | none => []
    | some w =>
      let d := t.sq.getD w.sq.2 {}
      t.consumed w ++
        (match w.sq.1 with
         | 1 => restTags t inside n d.target ((a + 1) :: calls) loops
         | 2 => match calls with
           | [] => []
           | r :: rest => restTags t inside n r rest loops
         | 3 => restTags t inside n (a + 1) calls ((max d.count 1, a + 1) :: loops)
         | 4 => match loops with
           | [] => restTags t inside n (a + 1) calls []
           | (k, b) :: rest => if 1 < k then restTags t inside n b calls ((k - 1, b) :: rest) else restTags t inside n (a + 1) calls rest
         | 7 => if inside then restTags t inside n (a + 1) calls loops else []
         | 8 => []
         | _ => restTags t inside n (a + 1) calls loops)

/-- The tags that the rest of the current block consumes, and those that a frozen word waits for. -/
def Engine.blockTags (g : Engine) (t : EngineTab) : List Nat :=
  let inner := g.q.calls.take (g.q.calls.length - g.q.blockBase - 1)
  (g.q.waiting ++ restTags t g.q.inBlock 65536 g.q.pc inner g.q.loops).dedup

/-- The frozen or current block's remaining tags that have not arrived. -/
def Engine.lateTags (g : Engine) (t : EngineTab) : List Nat := (g.blockTags t).filter (fun x => !(cget {} g.tags x).arrived)

/-- The source data of the CTU in work is invalid: its block has consumed, or has still to consume, an invalid frame-shared
read that has arrived (R82, notes/assumptions/45). -/
def Engine.sourceBad (g : Engine) (t : EngineTab) : Bool :=
  g.c.badSource || (g.blockTags t).any (fun x =>
    let y := cget {} g.tags x
    y.arrived && !y.valid && y.desc.cls == 2)

/-- Layers that contribute nothing to the CTU in work: those whose reads its block has consumed invalid, or has still to
consume and finds invalid (R82, R207). -/
def Engine.layersLost (g : Engine) (t : EngineTab) : List Nat :=
  (g.c.badLayers ++ (g.blockTags t).filterMap (fun x =>
    let y := cget {} g.tags x
    if y.arrived && !y.valid && y.desc.cls == 3 then some (y.desc.base - 6) else none)).dedup

/-- The scene of the CTU in work. -/
def State.jobScene (s : State) (j : Job) (g : Engine) : Scene := s.scene j.prod j.ctx g.q.frame (g.layersLost j.tab)

/-- Quad q of the CTU in work as composition gives it (R192). -/
def State.composed (s : State) (j : Job) (g : Engine) (q : Nat) : List Nat :=
  (s.jobScene j g).quad (4 * (j.ctx.tileX j.tile.t + g.q.ctu) + q % 4) (4 * g.q.row + q / 4)

/-! ### The preview ring -/

/-- Fields of given widths packed as one little-endian bit stream, padded to a whole byte (R349). -/
def packBits (l : List (Nat × Nat)) : List Byte :=
  let r := l.foldl (fun (a : Nat × Nat) f => (a.1 + f.2 % 2 ^ f.1 * 2 ^ a.2, a.2 + f.1)) (0, 0)
  leBytes (ceilDiv r.2 8) r.1

/-- The pixels [a, b) of a line as R349 packs them; a 4:4:4 sample's two low bits are zero (R211). -/
def packLine (format : Nat) (p : Picture) (y a b : Nat) : List Byte :=
  packBits ((List.range ((b - a) / 2)).flatMap (fun i =>
    let x := a + 2 * i
    let v := fun (x c : Nat) => cget 0 p.px (pxAt x y c)
    if format = 2 then
      [(12, 4 * v x 1), (12, 4 * v x 0), (12, 4 * v x 2), (12, 4 * v (x + 1) 1), (12, 4 * v (x + 1) 0), (12, 4 * v (x + 1) 2)]
    else if format = 1 ∧ y % 2 = 1 then [(10, v x 0), (10, v (x + 1) 0)]
    else [(10, v x 1), (10, v x 0), (10, v x 2), (10, v (x + 1) 0)]))

/-- The line format of a context's preview (R211). -/
def previewFormat (chroma : Nat) : Nat := if chroma = 0 then 1 else if chroma = 2 then 2 else 0

/-- Place of a CTU row in a context's preview ring: the picture that holds it, and the number of its contents (R211). The
ring has two CTU rows for a row-locked context and two frames for a frame-shared one. -/
def previewPlace (c : Ctx) (frame row : Nat) : Nat × Nat :=
  if c.mode = 0 then (previewKey c.context row, 128 * frame + row) else (previewKey c.context frame, frame)

/-- DDR5 offset of a quad's first line in a context's preview ring: lines of the context's pixels, in two halves (R211,
R587; notes/assumptions/7). -/
def previewOffset (c : Ctx) (frame qx qy : Nat) : Nat :=
  let y := if c.mode = 0 then 16 * qy % 128 else c.height * (frame % 2) + 16 * qy
  y * lineBytes c.width (pixelBits c.chroma) + 16 * qx * pixelBits c.chroma / 8

/-- The 16 lines of a band are all in a context's preview ring. -/
def Picture.band (p : Picture) (c : Ctx) (qy : Nat) : Bool :=
  (List.range 16).all (fun i => decide (c.height ≤ 16 * qy + i) || p.line (16 * qy + i) 0 c.width)

/-- The lines of a band are read back for the transmitter, packet by packet (R211, R212). -/
def State.keepPreview (s : State) (c : Ctx) (frame qy : Nat) (p : Picture) : State :=
  let x := s.ctxSt c.context
  let line := fun (y : Nat) => (List.range c.tiles).map (fun i =>
    packLine (previewFormat c.chroma) p y (c.tilePx i).1 (c.tilePx i).2)
  let lines := (List.range 16).foldl (fun m i =>
    if 16 * qy + i < c.height then cset [] m (8192 * frame + 16 * qy + i) (line (16 * qy + i)) else m) x.previewLines
  s.setCtx c.context { x with previewLines := lines }

/-- A composed quad enters the preview ring (R211), when port P20 has room (R424). The quad that completes its band of 16
lines has port P20 read the band back for the transmitter (R212): the spec does not say when the transmitter's read issues
(DESIGN CHOICE, notes/assumptions/72). -/
def State.previewQuad (s : State) (j : Job) (frame qx qy : Nat) (samples : List Nat) : State :=
  let set := j.prod.sets.getD j.ctx.layers {}
  let bytes := 64 * rawUnits j.ctx.chroma
  if set.preview ∧ s.ddr.hasRoom 20 bytes then
    let at_ := previewPlace j.ctx frame (qy / 4)
    let p := (cget {} s.pictures at_.1).forFrame at_.2
    let places := [0, 1, 2].flatMap (fun c => (quadPlaces j.ctx.chroma c qx qy).map (fun a =>
      let sx := if c = 0 then 1 else subX j.ctx.chroma
      let sy := if c = 0 then 1 else subY j.ctx.chroma
      (pxAt (sx * a.1) (sy * a.2) c, c, a)))
    let px := (places.zip samples).foldl (fun m y => cset 0 m y.1.1 y.2) p.px
    let got := (places.filter (fun y => y.2.1 == 0)).foldl (fun m y => cset false m (8192 * y.2.2.2 + y.2.2.1) true) p.got
    let p1 := { p with px := px, got := got }
    let base := j.prod.region 6 j.ctx.context
    let d := s.ddr.writeRole 20 (base + previewOffset j.ctx frame qx qy) bytes s.time.fclk
    let s1 := { s with pictures := cset {} s.pictures at_.1 p1, ddr := d }
    if p1.band j.ctx qy && !p.band j.ctx qy then
      { s1.keepPreview j.ctx frame qy p1 with
        ddr := d.read 20 (base + previewOffset j.ctx frame 0 qy) (16 * lineBytes j.ctx.width (pixelBits j.ctx.chroma)) s.time.fclk
          (.preview j.ctx.context frame qy) }
    else s1
  else s

/-- Quads of the CTU in work enter the preview ring as composition gives them (R211). -/
def State.previewCtu (s : State) (e : Fin 16) (j : Job) (qs : List Nat) : State :=
  let g := vget s.engines e
  qs.foldl (fun (t : State) q =>
    t.previewQuad j g.q.frame (4 * (j.ctx.tileX j.tile.t + g.q.ctu) + q % 4) (4 * g.q.row + q / 4) (s.composed j g q)) s

/-- A layer whose read was lost contributes nothing to the whole CTU: the quads composed before are composed again (R207). -/
def State.recompose (s : State) (e : Fin 16) (j : Job) : State :=
  let g := vget s.engines e
  (s.setEngine e { g with c := { g.c with
    comp := g.c.comp.map (fun (y : Nat × List Nat) => (y.1, (s.composed j g y.1).map (roundOut j.tile.cod.bitDepth))) } }).previewCtu
    e j (g.c.comp.map (·.1))

/-! ### The start of a frame -/

/-- How the frame begins for its context: decided once, by the first tile (R120, R124, R128, R508). -/
def State.frameStartOf (s : State) (p : Production) (c : Ctx) (n : Nat) : FrameStart :=
  let x := s.ctxSt c.context
  match x.decided with
  | some d => if d.frame = n then d else fresh x
  | none => fresh x
where
  fresh (x : CtxState) : FrameStart :=
    let pic := cget {} s.pictures (picKey c.context n)
    let seen := decide (pic.frame = some n) && decide (pic.got ≠ [])
    let loss := (p.codingOf c).lossInv
    let back := (seen && decide (0 < loss ∧ loss ≤ x.missing)) || decide (x.backAt = some n)
    { frame := n, start := x.startDue
      clear := if x.forcedSweep = some 3 then some 2 else if back then some 1 else none
      sweep := if x.forcedSweep.isSome then x.forcedSweep else if back then some 2 else none }

/-- A record at the start of a frame: the picture order count, a stream start, cleared bits, a sweep, and the new frame's
floor rows (R112, R120, R125, R128, R177). The second part is the reason of a sweep that begins. -/
def Tile.begin_ (a : Tile) (r : CtxRec) (production : Nat) (d : FrameStart) (n : Nat) : CtxRec × Option Nat :=
  let start := d.start.isSome || !r.started
  let r1 := if start then { a.firstRec production with started := true, lastPs := r.lastPs }
    else { r with poc := r.poc + 1, valid := if d.clear.isSome then [] else r.valid }
  let due := if start then some 1 else match d.sweep with
    | some x => some x
    | none => if r1.poc - r1.sweepStart = a.cod.period then some 0 else none
  let r2 := if due.isSome then
      { r1 with sweepStart := r1.poc, sweeping := true, sweepNo := if start then 1 else r1.sweepNo + 1 }
    else r1
  ({ r2 with production := production, format := a.ctx.formatFields, frame := n, ingest := n
             box := { r2.box with core := { r2.box.core with floorRows := [], cause := 0 } } }, due)

/-- The work on the record begins for the engine's frame (R91, R124, R125, R128, R147). -/
def State.frameStart (s : State) (e : Fin 16) (j : Job) : State :=
  let g := vget s.engines e
  let c := j.ctx
  let n := g.q.frame
  let x := s.ctxSt c.context
  let found := g.record c.context
  let d0 := s.frameStartOf j.prod c n
  let lost := g.recLost || (found.isNone && d0.start.isNone)
  let first := decide ((x.decided.map (·.frame)) ≠ some n)
  let d := if lost ∧ d0.start = none then { d0 with start := some 2 } else d0
  let r0 := found.getD (j.tile.firstRec j.prod.id)
  let starts := d.start.isSome || !r0.started
  let b := j.tile.begin_ r0 j.prod.id d n
  let r1 := { b.1 with bases := j.prod.bases j.tile b.1 }
  let g1 := { g with
    q := { g.q with startDue := false }
    r := { fill := g.r.fill, fillAt := g.r.fillAt, fillDue := g.r.fillDue, prevRise := g.r.prevRise, derAt := g.r.derAt
           derCtx := g.r.derCtx, derived := g.r.derived }
    recLost := false }.setRecord c.context r1
  let x1 := { x with
    decided := some { d0 with start := if starts then some (d.start.getD 0) else none }
    startDue := none, returned := none, forcedSweep := none
    missing := if d.clear.isSome then 0 else x.missing
    state := 1
    starts := if first ∧ starts then satAdd 32 x.starts 1 else x.starts
    sweeps := if first ∧ b.2.isSome then satAdd 32 x.sweeps 1 else x.sweeps }
  let tell := first || lost
  State.raiseAll (((s.setEngine e g1).publish c.context j.tile.t r1).setCtx c.context x1)
    (evIf lost (s.ev c.context 0x0103 [(4, n), (1, 0)])
      ++ evIf (tell && starts) (s.ev c.context 0x0207 [(4, n), (1, d.start.getD 0)])
      ++ evIf (tell && starts) (s.ev c.context 0x0203 [(4, n), (1, 0)])
      ++ evIf (tell && !starts && d.clear.isSome) (s.ev c.context 0x0203 [(4, n), (1, d.clear.getD 0)])
      ++ (match b.2 with
          | some reason => evIf tell (s.ev c.context 0x0204 [(4, n), (2, j.tile.cod.sweepN), (1, reason)])
          | none => []))

/-- The record that the slot waits for has come or is lost (R89, R92). -/
def Engine.recordCame (g : Engine) : Bool :=
  match g.recTag with
  | some t => (cget {} g.tags t).arrived
  | none => true

/-- The record in use when the work on it begins: an incoming one that arrived invalid, or has not come, is not used
(R91, R92). -/
def Engine.takeRecord (g : Engine) : Engine :=
  match g.incoming, g.recTag with
  | some (_, h), some t =>
    let x := cget {} g.tags t
    let ok := x.arrived && x.valid
    { g with incoming := none, recTag := none, storeHalf := h, recLost := !ok
             store := if ok then g.store else vset g.store h none }
  | _, _ => g

/-- The record whose bases an access uses (R73, R88): the one in use, or, in a changeover, the incoming one. -/
def Engine.baseRecord (g : Engine) (context : Nat) : Option CtxRec :=
  match g.incoming with
  | some (k, h) => if k = context then (vget g.store h).map (·.2) else g.record context
  | none => g.record context

/-! ### Issue -/

/-- The unit descriptor tables in slot order: IN to RW. -/
def EngineTab.unitDesc (t : EngineTab) (u desc : Nat) : Option UnitDesc := (t.units.getD u [])[desc]?

/-! ### Blocks and slots -/

/-- LATE_FLOOR for the run of floor blocks that ends (R87). -/
def State.endRun (s : State) (e : Fin 16) : State :=
  let g := vget s.engines e
  match g.q.run with
  | none => s
  | some (row, ctu, n, l) =>
    State.raise (s.setEngine e { g with q := { g.q with run := none } })
      (s.ev g.q.context 0x0102 [(2, row), (2, ctu), (4, n), (4, l)])

/-- One tile of the context's frame has left composition. -/
def CtxState.leave (x : CtxState) (n : Nat) : CtxState :=
  { x with latches := x.latches.map (fun l => if l.frame = n then { l with left := l.left - 1 } else l) }

/-- The engine's slot ends (R64): the sequencer waits for the next one. -/
def State.endSlot (s : State) (e : Fin 16) : State :=
  let s1 := s.endRun e
  let g := vget s1.engines e
  let slot := ((s.job e).map (·.slot)).getD {}
  let x := s1.ctxSt g.q.context
  let x1 := if slot.last then x.leave g.q.frame else x
  (s1.setEngine e { g with state := if g.failed then 4 else 0, q := { g.q with inSlot := false, inBlock := false, outer := [] } }).setCtx
    g.q.context x1

/-- The CTU's reconstruction before the loop filters, quad by quad. -/
def CtuWork.before (c : CtuWork) : List (List Nat) := (List.range 16).map (fun q => cget [] c.recon q)

/-- A quad behind the loop filters that have run on it. -/
def CtuWork.outQuad (c : CtuWork) (q : Nat) : List Nat := let f := cget [] c.filtered q; if f = [] then cget [] c.recon q else f

/-- The CTU's reconstruction behind the loop filters. -/
def CtuWork.after (c : CtuWork) : List (List Nat) := (List.range 16).map c.outQuad

/-- The CTU in work joins the reconstruction rows (R97). -/
def Engine.keepRow (g : Engine) : Engine :=
  if g.c.recon = [] then g
  else
    { g with rows := cset {} g.rows g.q.ctu ⟨g.q.row, g.c.before, g.c.after, g.c.md⟩ }

/-- A called block returns to the word after its LATE (R66): a floor block has lowered L by b − 384; when less was left,
the sequencer idles until the block's scheduled end (R85). A block that called it runs on. -/
def Engine.endBlock (g : Engine) (b : Nat) : Engine :=
  let gain := b - 384
  let g := g.keepRow
  { g with
    q := { g.q with
      inBlock := decide (g.q.outer ≠ []), outer := g.q.outer.drop 1, rowTurn := false
      blockBase := match g.q.outer with | x :: _ => x.1 | [] => g.q.blockBase
      floor := match g.q.outer with | x :: _ => x.2.1 | [] => g.q.floor
      noFreeze := match g.q.outer with | x :: _ => x.2.2 | [] => g.q.noFreeze
      ctu := if g.q.rowTurn then 0 else g.q.ctu + 1
      lateness := if g.q.floor then g.q.lateness - gain else g.q.lateness
      due := if g.q.floor then g.q.due + (gain - g.q.lateness) else g.q.due }
    c := {} }

end Sys2Proof.Machine
end

