-- ==== Sys2Proof/Machine/AuOps.lean ====
section
/-! DEFINITION. What the device writes around and about its slices (R104, R105, R107 to R109, R112, R126, R129 to R133,
R138, R172): the tools, a picture's header, and the access unit's NAL units. Their bits are those of H.265 and H.266, which
this spec does not restate: a NAL unit's bytes are those of the content that its fields fix. -/

namespace Sys2Proof.Machine

/-! ### Tools -/

/-- The tools of a context (R104, R105, R108, R109). -/
structure Tools where
  ctb          : Nat := 64
  minCu        : Nat := 8
  mttDepth     : Nat := 0        -- VVC: intra and inter
  maxBinary    : Nat := 0        -- VVC: largest binary split
  maxTernary   : Nat := 0
  puParts      : Nat := 1        -- HEVC: PU partitions of an inter CU, 2N×2N, 2N×N and N×2N
  nxn          : Bool := false   -- HEVC: N×N, at 8×8 intra only
  amp          : Bool := false
  maxTu        : Nat := 32
  minTu        : Nat := 4
  rqtDepth     : Nat := 0        -- HEVC: intra and inter
  dst4         : Bool := false   -- DST 4×4 for intra luma
  implicitMts  : Bool := false
  intraModes   : Nat := 35
  strongIntra  : Bool := false
  mergeCands   : Nat := 5
  hmvp         : Bool := false
  mmvd         : Bool := false
  amvr         : Bool := false
  cclm         : Bool := false
  lfnst        : Bool := false
  depQuant     : Bool := false
  signHiding   : Bool := false
  transformSkip : Bool := false
  deblocking   : Bool := true
  sao          : Bool := false
  alf          : Bool := false
  ccAlf        : Bool := false
  gdr          : Bool := false
  virtualBoundary : Bool := false
  qpMin        : Int := 0
  qpMax        : Int := 51
  tilesEnabled : Bool := false
  rectSlices   : Bool := false   -- VVC: slices one CTU row high
  acrossSlices : Bool := true    -- loop filtering across slice boundaries
  acrossTiles  : Bool := false   -- and across tile boundaries
  deriving DecidableEq, Repr

/-- The tools of an entry on a number of engines. -/
def Coding.toolSet (k : Coding) (engines : Nat) : Tools :=
  let b := bitOf k.tools
  let one := decide (engines = 1)
  if k.codec = 0 then
    { puParts := 3, nxn := true, rqtDepth := 2, dst4 := true, strongIntra := true, signHiding := b 4, transformSkip := b 8, sao := b 0
      qpMin := k.qpMin, qpMax := k.qpMax, tilesEnabled := !one, acrossSlices := one }
  else
    { mttDepth := 2, maxBinary := 64, maxTernary := 32, implicitMts := true, intraModes := 67, mergeCands := 6, hmvp := true
      mmvd := b 5, amvr := b 6, cclm := b 7, lfnst := b 3, depQuant := b 4, sao := b 0, alf := b 1, ccAlf := b 2
      gdr := true, virtualBoundary := true, qpMin := k.qpMin, qpMax := k.qpMax, tilesEnabled := !one, rectSlices := true
      acrossSlices := one }

/-- The tools as operands. -/
def Tools.ints (t : Tools) : List Int :=
  ([t.ctb, t.minCu, t.mttDepth, t.maxBinary, t.maxTernary, t.puParts, t.maxTu, t.minTu, t.rqtDepth, t.intraModes, t.mergeCands]
    ++ ([t.nxn, t.amp, t.dst4, t.implicitMts, t.strongIntra, t.hmvp, t.mmvd, t.amvr, t.cclm, t.lfnst, t.depQuant, t.signHiding, t.transformSkip,
      t.deblocking, t.sao, t.alf, t.ccAlf, t.gdr, t.virtualBoundary, t.tilesEnabled, t.rectSlices, t.acrossSlices,
      t.acrossTiles].map boolNat)).map (fun n => (n : Int)) ++ [t.qpMin, t.qpMax]

/-! ### The picture header -/

/-- The header of a context's frame (R107, R112, R126, R129, R130). -/
def Tile.picHead (a : Tile) (r : CtxRec) : PicHead :=
  let k := a.cod
  let i := r.sweepFrame k.sweepN
  let start := r.poc == 0
  let refs := match k.structure_ with | 0 => [r.ref0] | 1 => [r.ref0, r.ref1] | _ => [r.ref0, r.backdrop]
  { kind := if k.codec = 0 then (if start then .idrNLp else .trailR) else if i = some 0 then .gdr else .trail
    slice := if start then .i else if k.structure_ = 0 then .p else .b
    poc := r.poc
    recovery := if i = some 0 then some (k.sweepN - 1) else none
    boundary := match i with
      | some i => if k.codec = 1 ∧ i + 1 < k.sweepN then some (64 * (a.ctx.band k i).2) else none
      | none => none
    l0 := if start then [] else refs
    l1 := if start ∨ k.structure_ = 0 then [] else refs
    longTerm := if k.structure_ = 2 ∧ start = false then some r.backdrop else none
    aps := if k.codec = 1 ∧ bitOf k.tools 1 = true ∧ r.filterNext ≠ 0 then some (r.frame % 8) else none }

/-- A picture header as operands: the lists carry every enabled reference as active, and mvd_l1_zero_flag is 0 (R112). -/
def PicHead.ints (h : PicHead) : List Int :=
  let opt := fun (o : Option Nat) => match o with | some n => [1, (n : Int)] | none => [0]
  [(h.kind.num : Int), h.slice.num, h.poc] ++ opt h.recovery ++ opt h.boundary ++ [(h.l0.length : Int)] ++ h.l0.map (fun n => (n : Int))
    ++ [(h.l1.length : Int)] ++ h.l1.map (fun n => (n : Int)) ++ [0] ++ opt h.longTerm ++ opt h.aps

/-- What BN.SLH fills into the slice-header template: the row, and the picture's fields (R138). -/
def sliceFields (template : List Byte) (h : PicHead) (tile row : Nat) : List Int :=
  [(tile : Int), row] ++ h.ints ++ template.map (fun b => (b.toNat : Int))

/-! ### NAL units -/

/-- The bytes of a NAL unit whose content the operands fix, at most 1 + `lim` of them. -/
def nalOf (ops : List Int) (lim : Nat) : List Byte :=
  let n := Config.content ops
  (List.range (2 + Config.codedLength n % lim)).map (Config.codedByte n)

/-- initial_cpb_removal_delay and initial_cpb_removal_offset of a schedule, with the box office's share of it (R171, R172;
notes/assumptions/66). -/
def Tile.cpbDelay (a : Tile) (v : List Nat) (i : Nat) : Nat × Nat :=
  let s := a.sched i
  let d := 90000 * (s.2 - v.getD i 0) / s.1
  (d, ceilDiv (90000 * s.2) s.1 - d)

/-- The buffering-period message (R133, R172): payload type 0, the NAL HRD's schedules. -/
def Tile.bufferingSei (a : Tile) (v : List Nat) : List Int :=
  [0, (a.box.schedCount : Int), (boolNat (a.box.mode == 0) : Int), 0, (a.box.tickDiv : Int)]
    ++ a.scheds.flatMap (fun i => [((a.cpbDelay v i).1 : Int), ((a.cpbDelay v i).2 : Int)])

/-- The picture-timing message (R133, R169, R172): payload type 1, the AU removal delay in frames since the last buffering
period less 1, the DPB output delay 0, K decoding units and their common increment. -/
def Tile.timingSei (a : Tile) (r : CtxRec) : List Int :=
  [1, (r.poc : Int) - r.buffering - 1, 0, (a.ctx.rows : Int), (a.box.duInc : Int)]

/-- The recovery-point message of an HEVC sweep frame 0 (R126, R130, R133): payload type 6, exact_match_flag 1,
broken_link_flag 0. -/
def recoverySei (n : Nat) : List Int := [6, (n : Int) - 1, 1, 0]

/-- The static messages that the HDR flags ask for (R133): mastering display 137, content light level 144, alternative
transfer characteristics 147. -/
def Coding.staticSei (k : Coding) : List Int :=
  let flags := k.colour.getD 5 0
  let raw := fun (o n : Nat) => (slice k.raw o n).map (fun b => (b.toNat : Int))
  (if bitOf flags 0 then 137 :: raw 0x20 24 else ([] : List Int)) ++ (if bitOf flags 1 then 144 :: raw 0x38 4 else [])
    ++ (if bitOf flags 2 ∧ k.codec = 0 then [147, ((k.colour.getD 6 0 : Nat) : Int)] else [])

/-- Parameter sets are repeated in the frame (R132). -/
def Tile.repeatsSets (a : Tile) (r : CtxRec) : Bool :=
  r.sweepFrame a.cod.sweepN == some 0
    || Nat.ble (r.lastPs + 1000000 * a.cod.psRepeat) (a.ctx.markTick r.frame * 5 / 4)

/-- The access unit's NAL units before its first slice (R107, R126, R131 to R133, R138). `v` is the HRD fullness at the
entry of decoding unit 0, `carried` says that the queue has carried a picture. -/
def Tile.auNals (a : Tile) (r : CtxRec) (v : List Nat) (carried : Bool) : List (List Byte) :=
  let k := a.cod
  let h := a.picHead r
  let again := a.repeatsSets r
  let t := fun (i : Nat) => if again then (match k.templates[i]? with | some n => if n = [] then [] else [n] | none => []) else []
  let sei := nalOf ([2] ++ (if again then a.bufferingSei v else []) ++ a.timingSei r
    ++ (if k.codec = 0 ∧ r.sweepFrame k.sweepN = some 0 then recoverySei k.sweepN else [])
    ++ (if again ∧ (k.templates.getD 3 []) = [] then k.staticSei else [])) 1024
  let eos := if k.codec = 1 ∧ r.poc = 0 ∧ carried = true then [(nalOf [4] 1).take 2] else []
  let aud := [nalOf [0, (h.slice.num : Int)] 16]
  if k.codec = 0 then aud ++ t 0 ++ t 1 ++ t 2 ++ t 3 ++ [sei]
  else
    eos ++ aud ++ t 1 ++ t 2
      ++ (match h.aps with
          | some id => [nalOf [1, (id : Int), (r.filterNext : Int), boolNat (bitOf k.tools 2)] 700]
          | none => [])
      ++ t 3 ++ [sei] ++ [nalOf ([3] ++ h.ints ++ (k.templates.getD 5 []).map (fun b => (b.toNat : Int))) 256]

end Sys2Proof.Machine
end

