-- ==== Sys2Proof/Machine/Sequencer.lean ====
section
/-! DEFINITION. The sequencer's commands (R29, R34, R35, R55, R62 to R68, R81, R85 to R92). -/

namespace Sys2Proof.Machine

/-- Where a slot of an engine stands at the present tick: the production, the context, the tables, the entry, the engine
mark it counts from, and the frame it codes (R34, R35, R55). -/
structure SlotPlace where
  prod  : Production
  ctx   : Ctx
  tab   : EngineTab
  slot  : Slot
  mark  : Nat
  frame : Nat
  new   : Bool              -- the frame belongs to the production that the last swap cued (R55)
  deriving DecidableEq, Repr

/-- The slot that starts at the present tick (R34, R35, R55, R68). -/
def State.slotPlace (s : State) (e slot : Nat) : Option SlotPlace :=
  s.prods.findSome? (fun x =>
    (x.1.engine e).bind (fun t => (t.slots[slot]?).bind (fun sl => (x.1.ctx sl.context).bind (fun c =>
      let m := markIndex t.cycleDen t.cycleNum s.time.tick
      [m, m - 1].findSome? (fun k =>
        let g := markTick t.cycleDen t.cycleNum k
        let frame := if c.mode = 0 then c.indexAt g else c.indexAt g + sl.index - 1
        if (2 * g + sl.offset) / 2 = s.time.tick ∧ inRange x (c.markTick frame) then
          some ⟨x.1, c, t, sl, g, frame, !s.frameOld (c.markTick frame)⟩
        else none)))))

/-- Slots run at READY; in a warm entry, those of frames that hold an accepted line (R22). -/
def State.slotsRun (s : State) (c : Ctx) (n : Nat) : Bool :=
  s.up || (s.boot.phase == .warmEntry &&
    (let pic := cget {} s.pictures (picKey c.context n); decide (pic.frame = some n) && decide (pic.got ≠ [])))

/-- The halves switch at the first slot of the new production, not at an earlier slot that still codes a frame of the
former one; the former live half takes what the green room holds
(R50, R55, R70). -/
def Engine.switch (g : Engine) (new : Bool) (t : EngineTab) (green : Option EngineTab) : Engine :=
  if g.switchDue && new then
    let h := 1 - g.half
    { g with switchDue := false, half := h
             halves := vset (vset g.halves h t) g.half (green.getD (vget g.halves g.half))
             r := { g.r with fill := 0, fillDue := [], prevRise := 0 } }
  else g

/-- The engine at the start of a slot (R66, R68, R183). -/
def Engine.startSlot (g : Engine) (e : Nat) (p : SlotPlace) (slot cycle : Nat) : Engine :=
  let g1 := { g with q := { g.q with lateness := 0 } }.drainFill cycle
  { g1 with
    state := if g.failed then 4 else 1
    c := {}, steers := []
    q := { slot := slot, inSlot := true, context := p.slot.context, tile := p.ctx.tileOf e, slotMark := p.mark
           frame := p.frame, frameTick := p.ctx.markTick p.frame, pc := (p.tab.programs.getD p.slot.program {}).entry
           due := 2 * p.mark + p.slot.offset, row := p.slot.row
           startDue := p.slot.chg || p.ctx.mode == 1 || p.slot.row == 0, lateL := g.q.lateL }
    r := { g1.r with fill := g1.r.fill + g1.r.prevRise, prevRise := 2 * (p.slot.thetaF + p.slot.phi) } }

/-- A record that a source's return finds in work: every reference bit is cleared, and a sweep begins (R120, R128). -/
def CtxRec.sourceBack (r : CtxRec) : CtxRec :=
  { r with valid := r.valid.filter (fun y => decide (y.1 / 2048 = r.write))
           sweepStart := r.poc, sweeping := true, sweepNo := r.sweepNo + 1 }

/-- The source of a row-locked context has returned in the frame in work, after its start (R120, R128, R147). -/
def State.sourceBack (s : State) (e : Fin 16) (j : Job) : State :=
  let c := j.ctx.context
  let x := s.ctxSt c
  let g := vget s.engines e
  match x.returned, g.record c with
  | some (n, ts), some r =>
    if n = g.q.frame ∧ ts.contains j.tile.t = false then
      let first := decide (ts = [])
      State.raiseAll (((s.setEngine e (g.setRecord c r.sourceBack)).publish c j.tile.t r.sourceBack).setCtx c { x with
          returned := some (n, j.tile.t :: ts), sweeps := if first then satAdd 32 x.sweeps 1 else x.sweeps })
        (evIf first (s.ev c 0x0203 [(4, n), (1, 1)]) ++ evIf first (s.ev c 0x0204 [(4, n), (2, j.tile.cod.sweepN), (1, 2)]))
    else s
  | _, _ => s

/-- A change to a frame-shared record whose mark has passed enters the record before the context's next slot (R93): the
copy in DDR5, and the record that the engine holds. -/
def State.takeChange (s : State) (e : Fin 16) (c : Ctx) (t : Nat) : State :=
  let x := s.ctxSt c.context
  match x.due with
  | none => s
  | some (h, ts) =>
    if ts.contains t = false then s
    else
      let change := fun (r : CtxRec) => { r with box := r.box.change h }
      let g := vget s.engines e
      let k := 4 * c.context + t
      let s1 := s.setEngine e (match g.record c.context with | some r => g.setRecord c.context (change r) | none => g)
      { s1.setCtx c.context { x with due := if ts = [t] then none else some (h, ts.filter (fun i => decide (i ≠ t))) } with
        ddr := { s1.ddr with recs := cset none s1.ddr.recs k ((cget none s1.ddr.recs k).map change) } }

/-- SLOT_START (R34, R55, R66, R68, R91 to R93, R120, R183). Windows that close and latches that fall at this instant are
taken if they have not been. -/
def execSlotStart (e : Fin 16) (slot : Nat) (s : State) : Host.Outcome State Fault Refusal :=
  .next (
    match s.slotPlace e slot with
    | none => s
    | some p =>
      let g := vget s.engines e
      if g.q.inSlot ∨ s.slotsRun p.ctx p.frame = false then s
      else
        let t := p.ctx.tileOf e
        let rows := if p.ctx.mode = 0 then [p.slot.row] else List.range p.ctx.rows
        let s1 := rows.foldl (fun a k => a.closeRow p.prod p.ctx p.frame t k) s
        let s2 := if p.ctx.mode = 1 ∨ p.slot.row = 0 then s1.contentLatchAt p.prod p.ctx p.frame s.time.tick else s1
        let s2 := if p.ctx.mode = 1 then s2.takeChange e p.ctx t else s2
        let green := if 2 ≤ s.green.state then (parseImage s.green.staging).engine e else none
        let g1 := ((vget s2.engines e).switch p.new p.tab green).startSlot e p slot s.cycle
        let s3 := s2.setEngine e g1
        match s3.job e with
        | none => s3
        | some j =>
          if g1.q.startDue ∧ p.slot.chg = false then (s3.setEngine e g1.takeRecord).frameStart e j
          else if g1.q.startDue then s3
          else s3.sourceBack e j)

/-- A control word issues with its descriptor when it is due and the sequencer has come to it (R61, R62, R64, R80): the
state, and the job with the engine at the next word, whose turn is WAIT later. A word's control command is the last of
its word's commands (DESIGN CHOICE, notes/assumptions/64). -/
def State.control (s : State) (e : Fin 16) (op addr : Nat) (desc : Option Nat) : State × Option (Job × Engine) :=
  match s.job e with
  | none => (s, none)
  | some j =>
    match s.reachWord e j.tab 14 (fun a w => a == addr && w.sq.1 == op && (match desc with | some d => w.sq.2 == d | none => true)) with
    | (s1, none) => (s1, none)
    | (s1, some (g, r)) => (s1, some (j, { g with q := { g.q with pc := addr + 1, due := r.due + r.word.wait, did := [] } }))

/-- The sequencer descriptor of a job. -/
def Job.sq (j : Job) (desc : Nat) : SqDesc := j.tab.sq.getD desc {}

/-- SQ.CALL (R64, R65). -/
def execSqCall (e : Fin 16) (addr desc : Nat) (s : State) : Host.Outcome State Fault Refusal :=
  .next (
    match s.control e 1 addr (some desc) with
    | (s, none) => s
    | (s, some (j, g)) =>
      if 8 ≤ g.q.calls.length then s
      else s.setEngine e { g with q := { g.q with calls := (addr + 1) :: g.q.calls, pc := (j.sq desc).target } })

/-- SQ.RET (R64, R66). -/
def execSqRet (e : Fin 16) (addr : Nat) (s : State) : Host.Outcome State Fault Refusal :=
  .next (
    match s.control e 2 addr none with
    | (s, none) => s
    | (s, some (j, g)) =>
      match g.q.calls with
      | [] => s
      | a :: rest =>
        let g1 := { g with q := { g.q with calls := rest, pc := a } }
        s.setEngine e (if g.q.inBlock ∧ rest.length = g.q.blockBase then g1.endBlock j.b else g1))

/-- SQ.LOOP (R64, R65). -/
def execSqLoop (e : Fin 16) (addr desc : Nat) (s : State) : Host.Outcome State Fault Refusal :=
  .next (
    match s.control e 3 addr (some desc) with
    | (s, none) => s
    | (s, some (j, g)) =>
      let d := j.sq desc
      if 4 ≤ g.q.loops.length then s
      else
        s.setEngine e
          { g with q := { g.q with loops := ((if d.count = 0 then j.slot.nCtu else d.count), addr + 1) :: g.q.loops } })

/-- SQ.ENDLOOP (R64). -/
def execSqEndloop (e : Fin 16) (addr : Nat) (s : State) : Host.Outcome State Fault Refusal :=
  .next (
    match s.control e 4 addr none with
    | (s, none) => s
    | (s, some (_, g)) =>
      match g.q.loops with
      | [] => s
      | (n, a) :: rest =>
        s.setEngine e { g with q :=
          if 1 < n then { g.q with loops := (n - 1, a) :: rest, pc := a } else { g.q with loops := rest } })

/-- SQ.MARK (R62, R67): WAIT elapses, then issue is held until the target. -/
def execSqMark (e : Fin 16) (addr desc : Nat) (s : State) : Host.Outcome State Fault Refusal :=
  .next (
    match s.control e 5 addr (some desc) with
    | (s, none) => s
    | (s, some (j, g)) =>
      let target := 2 * g.q.slotMark + j.slot.offset + (j.sq desc).mark
      s.setEngine e { g with q :=
        if g.q.due < target then { g.q with hold := some target, due := target } else { g.q with lateness := g.q.due - target } })

/-- MARK_TARGET_REACHED (R67). -/
def execMarkTargetReached (e : Fin 16) (s : State) : Host.Outcome State Fault Refusal :=
  let g := vget s.engines e
  .next (
    match g.q.hold with
    | none => s
    | some t => if t ≤ s.cycle then s.setEngine e { g with q := { g.q with hold := none, lateness := 0 } } else s)

/-- Data on its way to an on-chip memory takes the place of what it overwrites there (R60, R97). -/
def Engine.landIn (g : Engine) (tag bytes : Nat) (d : DrDesc) : Engine :=
  if d.dest = 0 ∨ d.dest = 3 ∨ d.dest = 4 then
    { g with sram := g.sram.filter (fun x => decide (x.dest ≠ d.dest ∨ x.addr + x.bytes ≤ d.destAddr ∨ d.destAddr + bytes ≤ x.addr))
        ++ [⟨d.dest, d.destAddr, bytes, d.cls, tag⟩] }
  else g

/-- A read issues under a tag (R79): ARRIVED clears, VALID sets, the generation advances. `parts` are the byte ranges that
it fetches; one that fetches nothing has arrived. -/
def State.issueRead (s : State) (e : Fin 16) (tag : Nat) (parts : List (Nat × Nat)) (d : DrDesc) : State :=
  let g := vget s.engines e
  let t := cget {} g.tags tag
  let gen := (t.gen + 1) % 16
  let bytes := (parts.map (·.2)).sum
  -- what an overtaken read was to fill stays unfilled
  let g := if t.arrived then g else g.readDone (readNo tag t.gen) false
  { s.setEngine e ({ g with tags := cset {} g.tags tag ⟨decide (parts = []), true, gen, d, g.q.ctu⟩ }.landIn tag bytes d) with
    ddr := s.ddr.readParts e.val parts s.time.fclk (.tag e.val tag gen) }

/-- A write of an engine issues: queued, or dropped with WRITE_DROPPED (R84, R96). The second part says that it was
queued. -/
def State.issueWrite (s : State) (e : Fin 16) (context cls address bytes : Nat) : State × Bool :=
  if s.ddr.hasRoom e.val bytes then
    (({ s with ddr := s.ddr.writeRole e.val address bytes s.time.fclk }).noteQueues s.ddr, true)
  else
    let g := vget s.engines e
    (State.raise (s.setEngine e { g with n := { g.n with dropped := satAdd 32 g.n.dropped 1 } })
      (s.ev context 0x0104 [(2, g.q.row), (2, g.q.ctu), (1, cls), (4, bytes)]), false)

/-- SQ.CHG (R89, R90): search caches and reconstruction rows are the incoming program's to refill. -/
def execSqChg (e : Fin 16) (addr desc : Nat) (s : State) : Host.Outcome State Fault Refusal :=
  .next (
    match s.control e 6 addr (some desc) with
    | (s, none) => s
    | (s, some (j, g)) =>
      let c := j.ctx
      -- the outgoing record
      let out := match vget g.store g.storeHalf with
        | none => s.setEngine e g
        | some (k, r) =>
          let w := (s.setEngine e g).issueWrite e k 4 (j.prod.region 1 k) 65536
          if w.2 then { w.1 with ddr := { w.1.ddr with recs := cset none w.1.ddr.recs (4 * k) (some r) } }
          else w.1.setEngine e (let h := vget w.1.engines e; { h with lost := (k :: h.lost).dedup })
      -- the incoming one
      let g1 := vget out.engines e
      let was := g1.lost.contains c.context
      let half : Fin 2 := 1 - g1.storeHalf
      let tag := j.tab.recordTag
      let s1 := out.setEngine e { g1 with
        incoming := some (c.context, half), recTag := tag, lost := g1.lost.filter (fun k => decide (k ≠ c.context))
        store := vset g1.store half none, windows := [], slots := [], rows := [] }
      let s2 := match tag with
        | none => s1
        | some t => s1.issueRead e t [(j.prod.region 1 c.context, 65536)]
            ((j.tab.dr.find? (fun (d : DrDesc) => d.cls == 4 && d.dest == 5)).getD {})
      s2.raiseAll (evIf was (s.ev c.context 0x0103 [(4, g.q.frame), (1, 1)])))

/-- SQ.LATE (R45, R66, R85 to R87, R89). -/
def execSqLate (e : Fin 16) (addr desc : Nat) (s : State) : Host.Outcome State Fault Refusal :=
  .next (
    match s.control e 7 addr (some desc) with
    | (s, none) => s
    | (s, some (j, g)) =>
      if 8 ≤ g.q.calls.length then s
      else
        let l := g.q.lateness
        let f1 := g.q.flag || decide (j.slot.thetaF ≤ l)
        let floor := f1 && !decide (l < j.slot.thetaR)
        let d := j.sq desc
        let s0 := if floor then s.setEngine e g else (s.setEngine e g).endRun e
        let g1 := vget s0.engines e
        let run := if floor then
            (match g1.q.run with
             | some (r, c, n, a) => some (r, c, n + 1, a)
             | none => some (g.q.row, g.q.ctu, 1, l))
          else none
        s0.setEngine e { g1 with
          state := if g1.failed then 4 else if floor then 3 else 1
          c := {}
          -- the record store's halves swap at the slot's first LATE (R89)
          storeHalf := match g1.q.lateSeen, g1.incoming with | false, some (_, h) => h | _, _ => g1.storeHalf
          n := { g1.n with floorBlocks := if floor then satAdd 32 g1.n.floorBlocks 1 else g1.n.floorBlocks
                           latenessMax := max g1.n.latenessMax l }
          q := { g1.q with
            pc := if floor then d.alt else d.target, calls := (addr + 1) :: g1.q.calls, blockBase := g1.q.calls.length
            outer := if g1.q.inBlock then (g1.q.blockBase, g1.q.floor, g1.q.noFreeze) :: g1.q.outer else []
            inBlock := true, rowTurn := false, flag := floor, floor := floor, frz := 0, noFreeze := false, run := run
            lateSeen := true, lateL := l } })

/-- SQ.END (R64). -/
def execSqEnd (e : Fin 16) (addr : Nat) (s : State) : Host.Outcome State Fault Refusal :=
  .next (
    match s.control e 8 addr none with
    | (s, none) => s
    | (s, some (_, g)) => (s.setEngine e g).endSlot e)

/-- SUBSTITUTION (R29, R81): the freeze count reaches Φ; its cycles have raised L. -/
def execSubstitution (e : Fin 16) (s : State) : Host.Outcome State Fault Refusal :=
  let g := vget s.engines e
  .next (
    match s.job e, g.q.frozenAt with
    | some j, some f =>
      if s.cycle < f + (j.slot.phi - g.q.frz) then s
      else
        let n := j.slot.phi - g.q.frz
        let late := g.lateTags j.tab
        let l := satAdd 32 g.q.lateness n
        let s1 := s.lateRead e late
        s1.setEngine e { (vget s1.engines e).substitute late with
          state := if g.failed then 4 else if g.q.floor then 3 else 1
          q := { g.q with frozenAt := none, frzSeen := 0, waiting := [], noFreeze := true, frz := j.slot.phi, lateness := l, due := g.q.due + n }
          n := { (((vget s1.engines e).substitute late)).n with
            freezeCycles := satAdd 64 g.n.freezeCycles (n - g.q.frzSeen), latenessMax := max g.n.latenessMax l } }
    | _, _ => s)

end Sys2Proof.Machine
end

