-- ==== Sys2Proof/Machine/RefOps.lean ====
section
/-! DEFINITION. References as an engine reads them (R73, R111, R116, R119, R120, R150 to R152, R157, R158, R160, R161): the
places of a buffer's planes, validity, coarse column fills and fine windows. -/

namespace Sys2Proof.Machine

/-! ### The engine's work -/

/-- The engine with its CTU work changed. -/
def State.work (s : State) (e : Fin 16) (f : CtuWork → CtuWork) : State :=
  let g := vget s.engines e
  s.setEngine e { g with c := f g.c }

/-- The record of an engine's job. -/
def State.jobRec (s : State) (e : Fin 16) (j : Job) : Option CtxRec := (vget s.engines e).record j.ctx.context

/-- The record of an engine's job replaced. -/
def State.putRec (s : State) (e : Fin 16) (j : Job) (r : CtxRec) : State :=
  (s.setEngine e ((vget s.engines e).setRecord j.ctx.context r)).publish j.ctx.context j.tile.t r

/-- Picture column of the CTU in work. -/
def Job.col (j : Job) (g : Engine) : Nat := j.ctx.tileX j.tile.t + g.q.ctu

/-- Number of the CTU in work within its tile. -/
def Job.num (j : Job) (g : Engine) : Nat := j.tile.ctu g.q.ctu g.q.row

/-- Index of the CTU in work within its slot (R161). -/
def Job.slotCtu (j : Job) (g : Engine) : Nat := if j.ctx.mode = 0 then g.q.ctu else j.num g

/-- CTUs of a slot. -/
def Job.slotCtus (j : Job) : Nat := if j.ctx.mode = 0 then j.tile.w else j.tile.w * j.ctx.rows

/-- The place (x, k) in the tile of the CTU after the one in work, in its slot (R160). -/
def Job.nextCtu (j : Job) (g : Engine) : Option (Nat × Nat) :=
  if g.q.ctu + 1 < j.tile.w then some (g.q.ctu + 1, g.q.row)
  else if j.ctx.mode = 1 ∧ g.q.row + 1 < j.ctx.rows then some (0, g.q.row + 1) else none

/-! ### Reading a reference -/

/-- The references that the structure enables, as buffers (R112, R161). -/
def CtxRec.enabled (r : CtxRec) (structure_ : Nat) : List Nat :=
  match structure_ with
  | 0 => [r.ref0]
  | 1 => [r.ref0, r.ref1]
  | _ => [r.ref0, r.backdrop]

/-- Number of the picture's CTU (col, k) within its tile. -/
def Ctx.ctuNum (c : Ctx) (col k : Nat) : Nat := k * c.tileW (c.tileAt col) + (col - c.tileX (c.tileAt col))

/-- Validity of a reference CTU at picture column `col` and row k: this tile's record, or what another tile's engine has
left in DDR5 (R60, R111, R120; notes/assumptions/68). -/
def State.refOk (s : State) (j : Job) (r : CtxRec) (buffer col k : Nat) : Bool :=
  let t := j.ctx.tileAt col
  let u := j.ctx.ctuNum col k
  if t = j.tile.t then r.ok buffer u else cget false (cget [] s.ddr.pub (4 * j.ctx.context + t)) (2048 * buffer + u)

/-- The number of the reference data of the picture's CTU (col, k). -/
def Ctx.refAt (c : Ctx) (buffer col k : Nat) : Nat := refKey c.context buffer (c.tileAt col) (c.ctuNum col k)

/-- The stored CRF of the picture's CTU (col, k). -/
def State.refCtu (s : State) (c : Ctx) (buffer col k : Nat) : CtuCrf := cget CtuCrf.none_ s.ddr.refs (c.refAt buffer col k)

/-- A sample of component c at a place of that component's grid, clamped to the picture, at the coded bit depth (R116,
R151). -/
def State.refSample (s : State) (j : Job) (buffer c : Nat) (x y : Int) : Nat :=
  let ctx := j.ctx
  let sx := if c = 0 then 1 else subX ctx.chroma
  let sy := if c = 0 then 1 else subY ctx.chroma
  let px := (clampInt x 0 (ctx.width / sx - 1 : Nat)).toNat
  let py := (clampInt y 0 (ctx.height / sy - 1 : Nat)).toNat
  let n := 256 / (sx * sy)
  let at_ := (if c = 0 then 0 else 256 + (c - 1) * n) + py % (16 / sy) * (16 / sx) + px % (16 / sx)
  let quad := px * sx / 16 % 4 + 4 * (py * sy / 16 % 4)
  let v := ((s.refCtu ctx buffer (px * sx / 64) (py * sy / 64)).recon.getD quad []).getD at_ 0
  if j.tile.cod.bitDepth = 8 then v / 4 else v

/-- The samples of the quad at picture quad (qx, qy), which may lie outside the picture: Y, Cb, Cr. -/
def State.refQuad (s : State) (j : Job) (buffer : Nat) (qx qy : Int) : List Nat :=
  [0, 1, 2].flatMap (fun c =>
    let w := if c = 0 then 16 else 16 / subX j.ctx.chroma
    let h := if c = 0 then 16 else 16 / subY j.ctx.chroma
    (List.range (w * h)).map (fun i => s.refSample j buffer c (qx * w + (i % w : Nat)) (qy * h + (i / w : Nat))))

/-- The 1/2-level samples of a quad (R150, R151). -/
def State.refHalf (s : State) (j : Job) (buffer : Nat) (qx qy : Int) : List Nat :=
  (List.range 64).map (fun i =>
    let x := (clampInt (8 * qx + (i % 8 : Nat)) 0 (j.ctx.width / 2 - 1 : Nat)).toNat
    let y := (clampInt (8 * qy + (i / 8 : Nat)) 0 (j.ctx.height / 2 - 1 : Nat)).toNat
    (cget [] s.ddr.halves (j.ctx.refAt buffer (x / 32) (y / 32))).getD (64 * (x / 8 % 4 + 4 * (y / 8 % 4)) + y % 8 * 8 + x % 8) 0)

/-! ### Coarse column fills -/

/-- A read of a reference into a search cache: the tile's part that it reads from, and its buffer. -/
def Production.fillBase (p : Production) (c : Ctx) (buffer col : Nat) : Nat :=
  p.partBase c buffer (c.tileAt col) + c.quarterPlane (c.tileAt col) + (col - c.tileX (c.tileAt col)) * c.rows * 256

/-- A column fill: the slot's new contents and the bytes that it fetches; none outside the picture (R152). -/
def State.fill (s : State) (j : Job) (g : Engine) (r : CtxRec) (d : DrDesc) (src : Nat) : Option (ColSlot × List (Nat × Nat)) :=
  let p := fillPlace j.ctx j.tile.t g.q.ctu g.q.row d
  if p.1 < 0 ∨ (j.ctx.cols : Int) ≤ p.1 then none
  else
    let col := p.1.toNat
    let b := r.buffer d.base
    let row := columnRow j.ctx.rows p.2
    let n := min 17 j.ctx.rows
    some (⟨col, row, (List.range n).map (fun i => cget [] s.ddr.planes (j.ctx.refAt b col (row + i))), b, src, false⟩,
      [(j.prod.fillBase j.ctx b col + 256 * row, 256 * n)])

/-! ### Fine windows -/

/-- The CTU that a window read of a fine set serves: the one in work or the next, by the set's parity; behind the slot's
last CTU, the next slot's first (R158, R160, R161). The picture column, the row, and whether it is in the slot. -/
def Job.served (j : Job) (g : Engine) (set : Nat) : Nat × Nat × Bool :=
  let i := if j.slotCtu g % 2 = set then j.slotCtu g else j.slotCtu g + 1
  let x := j.ctx.tileX j.tile.t
  if i < j.slotCtus then
    if j.ctx.mode = 0 then (x + i, g.q.row, true) else (x + i % j.tile.w, i / j.tile.w, true)
  else (x, if j.ctx.mode = 0 ∧ g.q.row + 1 < j.ctx.rows then g.q.row + 1 else 0, false)

/-- The first quad column and row of a fine window (R157). -/
def windowStart (col row : Nat) (v : Int × Int) : Int × Int := (4 * col + v.1 / 4 - 1, 4 * row + v.2 / 4 - 1)

/-- The MC result that a window read takes: the slot's latest complete one; its steering for the cache, and the quad coarse
vectors, which are its own when it serves the window's CTU, and else the steering (R158, R160). -/
def Engine.steering (g : Engine) (cache num cycle : Nat) (inSlot : Bool) : (Int × Int) × Cells (Int × Int) :=
  match if inSlot then g.steers.find? (fun (x : Steer) => Nat.ble x.ready cycle) else none with
  | none => ((0, 0), [])
  | some x =>
    let v := if cache = 0 then (x.v.x0, x.v.y0) else (x.v.x1, x.v.y1)
    (v, if x.ctu = num then x.quads
      else (List.range 16).foldl (fun m q =>
        cset (0, 0) (cset (0, 0) m (2 * q) (x.v.x0, x.v.y0)) (2 * q + 1) (x.v.x1, x.v.y1)) [])

/-- Place of a fine window among an engine's (Engine.windows). -/
def winKey (cache set level : Nat) : Nat := 4 * cache + 2 * set + level

/-- The quad of a fine window at a picture quad, by its place in the window. -/
def FineWin.place (w : FineWin) (qx qy : Int) : Option Nat :=
  let x := qx - w.x
  let y := qy - w.y
  if 0 ≤ x ∧ x < 7 ∧ 0 ≤ y ∧ y < 7 ∧ w.quads ≠ [] then some (7 * y.toNat + x.toNat) else none

/-- A picture quad lies in the picture. -/
def Ctx.hasQuad (c : Ctx) (qx qy : Int) : Bool :=
  decide (0 ≤ qx) && decide (qx < ceilDiv c.width 16) && decide (0 ≤ qy) && decide (qy < ceilDiv c.height 16)

/-- The bytes of one quad that a window read fetches, beside its CTU's header (R117, R119, R158). -/
def State.quadPart (s : State) (j : Job) (buffer level : Nat) (qx qy : Nat) : Nat × Nat :=
  let c := j.ctx
  let t := c.tileAt (qx / 4)
  let u := c.ctuNum (qx / 4) (qy / 4)
  let q := qx % 4 + 4 * (qy % 4)
  let base := j.prod.partBase c buffer t
  if level = 0 then (base + c.halfPlane t + 1024 * u + 64 * q, 64)
  else
    let k := cget CtuCrf.none_ s.ddr.refs (refKey c.context buffer t u)
    (base + ctuReservation c.chroma * u + 64 * (1 + q * rawUnits c.chroma), 64 * k.units.getD q 1)

/-- A window read (R157, R158): the window as placed, and the bytes that it fetches. A quad outside the picture is VALID
(DESIGN CHOICE, notes/assumptions/73). -/
def State.window (s : State) (j : Job) (g : Engine) (r : CtxRec) (d : DrDesc) (set level src : Nat) :
    FineWin × List (Nat × Nat) :=
  let c := j.ctx
  let cache := d.dest - 1
  let b := r.buffer d.base
  let p := j.served g set
  let v := g.steering cache (c.ctuNum p.1 p.2.1) s.cycle p.2.2
  let o := windowStart p.1 p.2.1 v.1
  let other := cget {} g.windows (winKey cache (1 - set) level)
  let places := (List.range 49).map (fun i => (o.1 + (i % 7 : Nat), o.2 + (i / 7 : Nat)))
  let held := fun (q : Int × Int) => if other.buffer = b ∧ other.frame = g.q.frame then other.place q.1 q.2 else none
  let fetches := places.filter (fun q => c.hasQuad q.1 q.2 && (held q).isNone)
  let one := fun (q : Int × Int) =>
    match held q with
    | some i => (other.quads.getD i [], other.src.getD i noRead, other.valid.getD i true)
    | none =>
      (if level = 0 then s.refHalf j b q.1 q.2 else s.refQuad j b q.1 q.2, if c.hasQuad q.1 q.2 then src else noRead, true)
  let quads := places.map one
  let headers := if level = 0 then [] else
    ((fetches.map (fun q => (q.1.toNat / 4, q.2.toNat / 4))).dedup).map (fun u =>
      let t := c.tileAt u.1
      (j.prod.partBase c b t + ctuReservation c.chroma * c.ctuNum u.1 u.2, 64))
  (⟨o.1, o.2, b, g.q.frame, v.2, quads.map (·.1), quads.map (·.2.1), quads.map (·.2.2)⟩,
    headers ++ fetches.map (fun q => s.quadPart j b level q.1.toNat q.2.toNat))

/-! ### Other reads -/

/-- The parts of a read that its length bounds (R119). -/
def boundParts : Nat → List (Nat × Nat) → List (Nat × Nat)
  | _, [] => []
  | n, x :: t => if n = 0 then [] else (x.1, min n x.2) :: boundParts (n - x.2) t

/-- A class 0 read of a CTU's CRF: the header unit, then the units that it marks as used (R117, R119). -/
def State.crfParts (s : State) (j : Job) (r : CtxRec) (d : DrDesc) (address : Nat) : List (Nat × Nat) :=
  let b := r.buffer d.base
  let u := (address - j.prod.partBase j.ctx b j.tile.t) / ctuReservation j.ctx.chroma
  let k := cget CtuCrf.none_ s.ddr.refs (refKey j.ctx.context b j.tile.t u)
  boundParts (64 * d.length) ((address, 64)
    :: (List.range 16).map (fun q => (address + 64 * (1 + q * rawUnits j.ctx.chroma), 64 * k.units.getD q 1)))

/-- The bytes of a class 2 or class 3 read that serve the quads of a CTU which no layer above covers (R205). The read's
bytes serve the CTU's quads in equal shares (DESIGN CHOICE, notes/assumptions/67). -/
def unmaskedParts (address bytes : Nat) (masked : Nat → Bool) : List (Nat × Nat) :=
  let share := bytes / 16
  ((List.range 16).filter (fun q => !masked q)).map (fun q => (address + share * q, if q = 15 then bytes - 15 * share else share))

/-- A quad of a CTU is covered above a layer: none stands for the base (R205). -/
def Scene.masks (v : Scene) (layer : Option Nat) (col row q : Nat) : Bool :=
  match v.cover (4 * col + q % 4) (4 * row + q / 4) with
  | none => false
  | some z => match layer with
    | none => true
    | some i => Nat.blt ((v.set.layers.getD i {}).z) z

end Sys2Proof.Machine
end

