-- ==== Sys2Proof/Machine/DataOps.lean ====
section
/-! DEFINITION. The operands of the coded content that H.265 and H.266 fix (R74, R75, R98, R104, R105): the tools, a unit's
parameters, the choices made so far in the row, and the samples around a quad. -/

namespace Sys2Proof.Machine

/-- Numbers as operands. -/
def ints (l : List Nat) : List Int := l.map (fun n => (n : Int))

/-- A mode decision as operands. -/
def MdChoice.ints (m : MdChoice) : List Int :=
  [(m.floor : Int), (match m.inter with | some i => (i : Int) + 1 | none => 0), m.mv.1, m.mv.2, m.mv1.1, m.mv1.2, m.size, m.part, m.mode,
    (match m.merge with | some i => (i : Int) + 1 | none => 0), m.mvd.1, m.mvd.2, m.qp]

/-- The codec, the format, the bit depth and the tools of a job. -/
def Job.tools (j : Job) : Tools := j.tile.cod.toolSet j.ctx.tiles

/-- What every coded content of a job rests on. -/
def Job.codeInts (j : Job) : List Int :=
  [(j.tile.cod.codec : Int), j.ctx.chroma, j.tile.cod.bitDepth, j.tile.cod.profile] ++ j.tools.ints

/-- A descriptor's parameters as operands: enables, mode and transform sets, limits and indices, whose places R74 does not
give (notes/assumptions/63). -/
def UnitDesc.ints (d : UnitDesc) : List Int := d.params.map (fun b => (b.toNat : Int))

/-- The CTU at the left of the one in work, in the same slice or tile row (R108, R109). -/
def Engine.left (g : Engine) : RowCtu :=
  let x := cget {} g.rows (g.q.ctu - 1)
  if 0 < g.q.ctu ∧ x.row = g.q.row then x else {}

/-- The engine without its work on the CTU: what a floor CTU may rest on (R122, R165). -/
def Engine.bare (g : Engine) : Engine := { g with c := {} }

/-- The decisions of a CTU as operands. -/
def mdInts (m : Cells MdChoice) : List Int := m.flatMap (fun y => (y.1 : Int) :: y.2.ints)

/-- What a quad may be predicted from inside its slice: the decisions of the left CTU and of this one so far, and their
samples before the loop filters (R105, R108, R130). -/
def Engine.nearInts (g : Engine) : List Int :=
  (g.r.entropy : Int) :: (mdInts g.left.md ++ mdInts g.c.md ++ ints (g.left.recon.flatten ++ g.c.before.flatten))

/-- The CTUs above that the loop filters reach, when filtering across slice boundaries is on (R108, R109). -/
def Engine.aboveInts (g : Engine) (across : Bool) : List Int :=
  if across then
    [g.q.ctu, g.q.ctu + 1].flatMap (fun x =>
      let y := cget {} g.rows x
      if y.row + 1 = g.q.row then ints y.out.flatten ++ mdInts y.md else [])
  else []

/-- The window samples that a quad's inter prediction reads (R157 to R159). -/
def Engine.refInts (g : Engine) (slotCtu : Nat) (m : MdChoice) : List Int :=
  let one := fun (cache : Nat) => ints (cget {} g.windows (winKey cache (slotCtu % 2) 1)).quads.flatten
  match m.inter with
  | none => []
  | some 0 => one 0
  | some 1 => one 1
  | some _ => one 0 ++ one 1

/-- What a quad's residual and reconstruction rest on: its composed samples, its decision, and what it is predicted from. -/
def Job.quadInts (j : Job) (g : Engine) (d : UnitDesc) : List Int :=
  let m := cget {} g.c.md d.quad
  j.codeInts ++ d.ints ++ m.ints ++ ints (cget [] g.c.comp d.quad) ++ g.nearInts ++ g.refInts (j.slotCtu g) m

end Sys2Proof.Machine
end

