-- ==== Sys2Proof/Machine/Fine.lean ====
section
/-! DEFINITION. The fine stage of the motion search (R115, R121, R157 to R159, R163). The luma interpolation is that of H.265
and H.266 (PRESUMED, notes/assumptions/69). -/

namespace Sys2Proof.Machine

/-! ### Windows -/

/-- A sample of a window whose quads are `size` samples wide. -/
def FineWin.sample (w : FineWin) (size : Nat) (x y : Int) : Nat :=
  match w.place (x / size) (y / size) with
  | some i => (w.quads.getD i []).getD ((y % size).toNat * size + (x % size).toNat) 0
  | none => 0

/-- A footprint lies wholly in a window and touches no quad with VALID clear (R159, R163). -/
def FineWin.covers (w : FineWin) (size : Nat) (x0 y0 x1 y1 : Int) : Bool :=
  (List.range ((x1 / size - x0 / size).toNat + 1)).all (fun i => (List.range ((y1 / size - y0 / size).toNat + 1)).all (fun k =>
    match w.place (x0 / size + (i : Nat)) (y0 / size + (k : Nat)) with
    | some n => w.valid.getD n false
    | none => false))

/-! ### Interpolation -/

/-- The luma filter at a quarter-pel phase. -/
def lumaTaps (phase : Nat) : List Int :=
  match phase with
  | 0 => [0, 0, 0, 64, 0, 0, 0, 0]
  | 1 => [-1, 4, -10, 58, 17, -5, 1, 0]
  | 2 => [-1, 4, -11, 40, 40, -11, 4, -1]
  | _ => [0, 1, -5, 17, 58, -10, 4, -1]

/-- A filter over eight values. -/
def tapSum (phase : Nat) (f : Int → Int) : Int := ((lumaTaps phase).zipIdx.map (fun k => k.1 * f ((k.2 : Int) - 3))).sum

/-- An intermediate prediction sample of 14 bits at a quarter-pel place. -/
def predAt (depth : Nat) (at_ : Int → Int → Nat) (x y : Int) : Int :=
  let fx := (x % 4).toNat
  let fy := (y % 4).toNat
  let a := fun (dx dy : Int) => ((at_ (x / 4 + dx) (y / 4 + dy) : Nat) : Int)
  let low : Int := 2 ^ (depth - 8)
  if fx = 0 ∧ fy = 0 then a 0 0 * 2 ^ (14 - depth)
  else if fy = 0 then tapSum fx (fun d => a d 0) / low
  else if fx = 0 then tapSum fy (fun d => a 0 d) / low
  else tapSum fy (fun dy => tapSum fx (fun dx => a dx dy) / low) / 64

/-- A sample from one prediction, and the average of two. -/
def finish (depth : Nat) (l : List Int) : Nat :=
  let n : Int := 2 ^ (14 - depth) * l.length
  (clampInt ((l.sum + n / 2) / n) 0 (2 ^ depth - 1 : Nat)).toNat

/-! ### SATD -/

/-- The Hadamard transform of four values. -/
def had4 (a b c d : Int) : List Int := [a + b + c + d, a - b + c - d, a + b - c - d, a - b - c + d]

/-- The SATD of a 4×4 block of differences in raster order. -/
def satd4 (d : Nat → Int) : Nat :=
  let rows := (List.range 4).map (fun i => had4 (d (4 * i)) (d (4 * i + 1)) (d (4 * i + 2)) (d (4 * i + 3)))
  let at_ := fun (i k : Nat) => (rows.getD i []).getD k 0
  (((List.range 4).flatMap (fun k => had4 (at_ 0 k) (at_ 1 k) (at_ 2 k) (at_ 3 k))).map Int.natAbs).sum

/-- The SATD of each 4×4 block of a 16×16 block, in raster order. -/
def satdBlocks (cur : List Nat) (pred : List Nat) : List Nat :=
  (List.range 16).map (fun b => satd4 (fun i =>
    let n := 16 * (4 * (b / 4) + i / 4) + 4 * (b % 4) + i % 4
    ((cur.getD n 0 : Nat) : Int) - (pred.getD n 0 : Nat)))

/-- The sum of some blocks of a list. -/
def blockSum (l : List Nat) (f : Nat → Bool) : Nat := (((List.range 16).filter f).map (fun b => l.getD b 0)).sum

/-- The SATD of the four 8×8, the two 16×8 and the two 8×16 blocks (R159). -/
def satdParts (l : List Nat) : List Nat :=
  (List.range 4).map (fun p => blockSum l (fun b => b / 8 == p / 2 && b % 4 / 2 == p % 2))
    ++ (List.range 2).map (fun p => blockSum l (fun b => b / 8 == p))
    ++ (List.range 2).map (fun p => blockSum l (fun b => b % 4 / 2 == p))

/-! ### The search of one reference -/

/-- What the fine stage of one quad and reference works on: the bit depth, the quad's luma place, its samples and 1/2-level
samples, the windows, λ_f, the AMVP predictor, the reference index, and which vectors R115 and R121 allow. -/
structure Fine where
  depth   : Nat
  x       : Nat
  y       : Nat
  cur     : List Nat
  curHalf : List Nat
  full    : FineWin
  half    : FineWin
  lambda  : Nat
  pmv     : Int × Int
  index   : Nat
  legal   : Int × Int → Bool

/-- The vector term of a fine cost, in quarter pixels (R159). -/
def Fine.rate (k : Fine) (v : Int × Int) : Nat := k.lambda * (mvLen (v.1 - k.pmv.1) + mvLen (v.2 - k.pmv.2) + k.index) / 16

/-- The 14-bit prediction of the quad's luma at a quarter-pel vector. -/
def Fine.pred (k : Fine) (v : Int × Int) : List Int :=
  (List.range 256).map (fun i =>
    predAt k.depth (k.full.sample 16) (4 * (k.x + i % 16 : Nat) + v.1) (4 * (k.y + i / 16 : Nat) + v.2))

/-- The luma footprint of the quad at a vector: the block, 3 samples above and left, 4 below and right (R121). -/
def Fine.inWindow (k : Fine) (v : Int × Int) : Bool :=
  let x0 : Int := k.x + v.1 / 4 - 3
  let y0 : Int := k.y + v.2 / 4 - 3
  k.full.covers 16 x0 y0 (x0 + 22) (y0 + 22)

/-- The SATD of the quad's 4×4 blocks at a vector. -/
def Fine.blocks (k : Fine) (v : Int × Int) : List Nat :=
  satdBlocks k.cur ((k.pred v).map (fun p => finish k.depth [p]))

/-- A vector's cost (R159, R163). -/
def Fine.cost (k : Fine) (v : Int × Int) : Nat :=
  if k.legal v && k.inWindow v then min maxCost ((k.blocks v).sum + k.rate v) else maxCost

/-- A half-level vector's cost: the SAD of the quad's 8×8 and the vector term (R159). -/
def Fine.halfCost (k : Fine) (h : Int × Int) : Nat :=
  let x0 : Int := (k.x / 2 : Nat) + h.1
  let y0 : Int := (k.y / 2 : Nat) + h.2
  let v := (8 * h.1, 8 * h.2)
  if k.legal v && k.half.covers 8 x0 y0 (x0 + 7) (y0 + 7) then
    min maxCost (((List.range 64).map (fun i =>
      (((k.curHalf.getD i 0 : Nat) : Int) - k.half.sample 8 (x0 + (i % 8 : Nat)) (y0 + (i / 8 : Nat))).natAbs)).sum + k.rate v)
  else maxCost

/-- The offsets {−n … n}² times a step, in raster order. -/
def square (n : Nat) (step : Int) (c : Int × Int) : List (Int × Int) :=
  let w := 2 * n + 1
  (List.range (w * w)).map (fun i => (c.1 + step * ((i % w : Nat) - (n : Int)), c.2 + step * ((i / w : Nat) - (n : Int))))

/-- The eight neighbours at a step, in raster order. -/
def ring (step : Int) (c : Int × Int) : List (Int × Int) := (square 1 step c).filter (fun v => v != c)

/-- The search of one reference about a quad coarse vector, with the eight predictors (R159): 25 half-level candidates, 9
integer ones, 8 half-pel, 8 quarter-pel, and the predictors. The winner of a stage competes in the next one, whose list does not
name it (DESIGN CHOICE, notes/assumptions/73). -/
def Fine.search (k : Fine) (coarse : Int × Int) (predictors : List (Int × Int)) : FineRes :=
  let h := best k.halfCost (square 2 1 (2 * coarse.1, 2 * coarse.2))
  let whole := best k.cost (square 1 4 (8 * h.1, 8 * h.2))
  let half := best k.cost (whole :: ring 2 whole)
  let quarter := best k.cost (half :: ring 1 half)
  let v := best k.cost (quarter :: predictors)
  let c := k.cost v
  { mv := v, cost := c, parts := if c = maxCost then List.replicate 8 maxCost else satdParts (k.blocks v)
    whole := whole, coarse := (16 * coarse.1, 16 * coarse.2) }

/-- The cost of the average of the two references' best vectors (R159). -/
def biCost (a b : Fine) (x y : FineRes) : Nat :=
  if x.cost = maxCost ∨ y.cost = maxCost then maxCost
  else
    let p := ((a.pred x.mv).zip (b.pred y.mv)).map (fun q => finish a.depth [q.1, q.2])
    min maxCost ((satdBlocks a.cur p).sum + a.rate x.mv + b.rate y.mv)

/-! ### The search of a quad -/

/-- A CTU in the clean area of a sweep (R115, R127). -/
def Tile.inClean (a : Tile) (i : Option Nat) (x : Nat) : Bool :=
  match i with
  | none => false
  | some i => Nat.blt x (a.ctx.band a.cod i).2

/-- A vector of a block `size` luma samples wide at a luma place, in the CTU at picture column `col`, is one that R115 and R121
allow: no backdrop in a sweep's clean area, and a footprint that meets the clean-area rule and touches only valid CTUs. -/
def State.legalBlock (s : State) (j : Job) (r : CtxRec) (ref buffer col x y size : Nat) (v : Int × Int) : Bool :=
  let i := r.sweepFrame j.tile.cod.sweepN
  let n : Int := (size + 6 : Nat)
  let x0 : Int := x + v.1 / 4 - 3
  let y0 : Int := y + v.2 / 4 - 3
  let place := fun (a : Int) (lim : Nat) => (clampInt a 0 (lim - 1 : Nat)).toNat / 64
  !(ref == 1 && j.tile.cod.structure_ == 2 && j.tile.inClean i col)
    && j.tile.cleanOk i col (x0 + n + 1).toNat
    && [x0, x0 + n / 2, x0 + n].all (fun x => [y0, y0 + n / 2, y0 + n].all (fun y =>
      s.refOk j r buffer (place x j.ctx.width) (place y j.ctx.height)))

/-- A quad's vector is one that R115 and R121 allow. -/
def State.legal (s : State) (j : Job) (r : CtxRec) (ref buffer col k q : Nat) (v : Int × Int) : Bool :=
  s.legalBlock j r ref buffer col (64 * col + 16 * (q % 4)) (64 * k + 16 * (q / 4)) 16 v

/-- The λ entry of R175 for a QP: lambda_md, lambda_c, lambda_f. A QP outside −12 to 63 takes the nearest entry (DESIGN
CHOICE, notes/assumptions/65: qp_row is not held to the codec's range, and the rule names no entry). -/
def Job.lambda (j : Job) (qp : Int) : Nat × Nat × Nat :=
  (j.prod.lambdas.getD j.tile.box.lambda []).getD (clampInt (qp + 12) 0 75).toNat (0, 0, 0)

/-- The levels of the CTU at (x, k) of the tile: from the sieve row store, or, frame-shared, from what ingest has written
(R149). -/
def State.curLevels (s : State) (e : Fin 16) (j : Job) (x k : Nat) : Levels :=
  let g := vget s.engines e
  if j.ctx.mode = 1 then cget {} s.ddr.levels (levelKey j.ctx.context g.q.frame j.tile.t (j.tile.ctu x k))
  else cget {} g.sieve (sieveKey x k)

/-- The eight predictors of a quad: its AMVP candidates, then its merge candidates, in list order, padded with zero (R159). -/
def Job.predictors (j : Job) (g : Engine) (ref q : Nat) : List (Int × Int) :=
  (Config.mvCandidates (j.codeInts ++ [(ref : Int), q] ++ (g.r.entropy : Int) :: (mdInts g.left.md ++ mdInts g.c.md))
    ++ List.replicate 8 (0, 0)).take 8

/-- The fine stage of quad q and a reference. -/
def State.fineView (s : State) (e : Fin 16) (j : Job) (r : CtxRec) (ref buffer q : Nat) : Fine :=
  let g := vget s.engines e
  let set := j.slotCtu g % 2
  let levels := if g.c.levels = {} then s.curLevels e j g.q.ctu g.q.row else g.c.levels
  { depth := j.tile.cod.bitDepth, x := 64 * j.col g + 16 * (q % 4), y := 64 * g.q.row + 16 * (q / 4)
    cur := (cget [] g.c.comp q).take 256, curHalf := (levels.half.drop (64 * q)).take 64
    full := cget {} g.windows (winKey ref set 1), half := cget {} g.windows (winKey ref set 0)
    lambda := (j.lambda (cget 0 r.box.qpRow g.q.row)).2.2, pmv := (j.predictors g ref q).headD (0, 0), index := ref
    legal := s.legal j r ref buffer (j.col g) g.q.row q }

/-- MF's result for quad q and a reference (R82, R159, R163), from the coarse vectors recorded with the full-resolution window
(DESIGN CHOICE, notes/assumptions/73). -/
def State.fineRes (s : State) (e : Fin 16) (j : Job) (r : CtxRec) (ref buffer q : Nat) : FineRes :=
  let g := vget s.engines e
  let k := s.fineView e j r ref buffer q
  let f := k.search (cget (0, 0) k.full.vecs (2 * q + ref)) (j.predictors g ref q)
  if cget false g.c.badRef q then { f with cost := maxCost, parts := List.replicate 8 maxCost } else f

/-- The bi cost of quad q, for a structure of two references (R159). -/
def State.biRes (s : State) (e : Fin 16) (j : Job) (r : CtxRec) (q : Nat) (x y : FineRes) : Nat :=
  match r.enabled j.tile.cod.structure_ with
  | [a, b] => biCost (s.fineView e j r 0 a q) (s.fineView e j r 1 b q) x y
  | _ => maxCost

/-! ### The candidates of MD -/

/-- The first quad of the block `size` samples wide that holds a quad. -/
def blockLead (size q : Nat) : Nat := let n := size / 16; q % 4 / n * n + 4 * (q / 4 / n * n)

/-- The widths of the CUs that a quad may begin: 8, and those whose first quad it is and that lie in the picture (R104,
R105). -/
def Job.cuSizes (j : Job) (g : Engine) (q : Nat) : List Nat :=
  [8, 16, 32, 64].filter (fun n => decide (n = 8) || (blockLead n q == q
    && decide (64 * j.col g + 16 * (q % 4) + n ≤ j.ctx.width) && decide (64 * g.q.row + 16 * (q / 4) + n ≤ j.ctx.height)))

/-- A vector predicts a CU of MD from the windows: its footprint lies in them, on quads with VALID set, and R115 and R121
allow it; a CU of 8 lies in its quad (R159, R163). -/
def State.mdOk (s : State) (e : Fin 16) (j : Job) (r : CtxRec) (ref buffer q size : Nat) (v : Int × Int) : Bool :=
  let g := vget s.engines e
  let n : Nat := max size 16
  let x : Nat := 64 * j.col g + 16 * (q % 4)
  let y : Nat := 64 * g.q.row + 16 * (q / 4)
  let x0 : Int := x + v.1 / 4 - 3
  let y0 : Int := y + v.2 / 4 - 3
  s.legalBlock j r ref buffer (j.col g) x y n v
    && (cget {} g.windows (winKey ref (j.slotCtu g % 2) 1)).covers 16 x0 y0 (x0 + (n + 6 : Nat)) (y0 + (n + 6 : Nat))

/-- The merge and MMVD candidates of a quad for a reference: the list's entries behind two AMVP candidates, and, with MMVD,
the first two displaced by 1/4 to 32 pixels along an axis (R104, R105, R159; the figures of H.265 and H.266, PRESUMED,
notes/assumptions/69). -/
def Job.mergeCands (j : Job) (g : Engine) (ref q : Nat) : List MdChoice :=
  let merge := ((j.predictors g ref q).drop 2).take j.tools.mergeCands
  let plain := merge.zipIdx.map (fun (x : (Int × Int) × Nat) =>
    ({ inter := some ref, mv := x.1, merge := some x.2 } : MdChoice))
  let steps := (List.range 8).flatMap (fun n => [((2 : Int) ^ n, (0 : Int)), (-2 ^ n, 0), (0, 2 ^ n), (0, -2 ^ n)])
  plain ++ (if j.tools.mmvd then
    (plain.take 2).flatMap (fun c => steps.map (fun o => { c with mv := (c.mv.1 + o.1, c.mv.2 + o.2), mvd := o })) else [])

/-- The inter candidates of a quad that MD may choose (R82, R104, R105, R159, R163): MF's best vectors, merge and MMVD
candidates, and the average of MF's two, each at every CU width at which its footprint lies in the windows; none where the
quad has consumed a lost read. -/
def State.interCands (s : State) (e : Fin 16) (j : Job) (r : CtxRec) (q : Nat) : List MdChoice :=
  let g := vget s.engines e
  let refs := (r.enabled j.tile.cod.structure_).zipIdx
  let f := fun (i : Nat) => cget {} g.c.fine (2 * q + i)
  let found := fun (i : Nat) => f i != {} && decide ((f i).cost < maxCost)
  let at_ := fun (bs : List (Nat × Nat)) (c : MdChoice) => (j.cuSizes g q).filterMap (fun n =>
    if bs.all (fun b => s.mdOk e j r b.2 b.1 q n (if b.2 = 1 ∧ c.inter = some 2 then c.mv1 else c.mv)) then
      some { c with size := n } else none)
  if cget false g.c.badRef q then []
  else
    refs.flatMap (fun b =>
      ((if found b.2 then [({ inter := some b.2, mv := (f b.2).mv } : MdChoice)] else []) ++ j.mergeCands g b.2 q).flatMap (at_ [b]))
      ++ (if refs.length = 2 ∧ cget maxCost g.c.bi q < maxCost then
          at_ refs { inter := some 2, mv := (f 0).mv, mv1 := (f 1).mv } else [])

/-- MD finds an inter candidate below the maximum cost for some quad of the CTU in work, in some enabled reference (R122):
among its own, or, for a quad that MF has not reached at the decision point, in MF's results as the windows give them
(DEDUCED, notes/assumptions/70). -/
def State.interOk (s : State) (e : Fin 16) (j : Job) (r : CtxRec) : Bool :=
  let g := vget s.engines e
  (List.range 16).any (fun q => s.interCands e j r q != []) ||
  (r.enabled j.tile.cod.structure_).zipIdx.any (fun b => (List.range 16).any (fun q =>
    let f := cget {} g.c.fine (2 * q + b.2)
    decide ((if f = {} then s.fineRes e j r b.2 b.1 q else f).cost < maxCost)))

end Sys2Proof.Machine
end

