-- ==== Sys2Proof/Machine/TaskOps.lean ====
section
/-! DEFINITION. Tasks of the stage manager: their creation and their dependence counters (R248, R249). -/

namespace Sys2Proof.Machine

/-- The production that ran a number of swaps ago (R284). -/
def State.prodAgo (s : State) (n : Nat) : Production :=
  ((if n = 0 then s.running else (s.old.reverse[n - 1]?).map (·.1)).orElse (fun _ => s.running)).getD {}

/-- A task's stream entry (R259, R284). -/
def State.taskStrm (s : State) (t : Task) : Strm := (s.prodAgo t.ago).streams.getD t.stream {}

/-- A stream's identity: while queue, SSRC and kind stay, so does its state (R251, R269). -/
def Strm.key (q : Strm) : Nat := (8 * q.queue + q.kind) * 2 ^ 32 + q.ssrc

/-- Whether a task's predecessor has been committed (R248, R249). A video task waits for its place in the stream's order
of rows and tiles; a prefix for the end of the frame before it. Any other task waits for the earlier tasks of its
queue. -/
def Flow.mayRun (f : Flow) (t : Task) : Bool :=
  let mine := f.tasks.filter (fun x => x.queue == t.queue && x.id != t.id)
  let cursor := (cget {} f.streams t.sid : StreamSt).cursor
  match t.kind with
  | .auPrefix => cursor % 1024 == 0 && mine.all (fun x => decide (t.id < x.id) || x.frame == t.frame)
  | .videoChunk => t.key == cursor && mine.all (fun x => decide (t.id < x.id) || x.key != t.key)
  | _ => mine.all (fun x => decide (t.id < x.id))

/-- Counters whose predecessor has been committed go to 0, and the tasks are ready (R248). -/
def Flow.settle (f : Flow) (fclk queue : Nat) : Flow :=
  { f with tasks := f.tasks.map (fun t =>
      if t.queue = queue ∧ t.counter = 1 ∧ f.mayRun t = true then { t with counter := 0, readyAt := fclk } else t) }

/-- A task is created (R248): its content is complete, so its counter goes from 2 to 1 at once. Beyond 8,192 tasks in flight it
waits outside (notes/assumptions/47). -/
def State.newTask (s : State) (t : Task) : State :=
  let f := s.flow
  let sid := (s.taskStrm t).key
  let st : StreamSt := cget {} f.streams sid
  let t1 := { t with id := f.nextId, counter := 1, sid := sid, pos := st.created }
  let f1 := { f with nextId := f.nextId + 1, streams := cset {} f.streams sid { st with created := st.created + 1 } }
  let f2 := if f.tasks.length < 8192 then Flow.settle { f1 with tasks := f1.tasks ++ [t1] } s.time.fclk t.queue
    else { f1 with outside := f1.outside ++ [t1] }
  { s with flow := f2 }

/-- The task at whose place its stream stands (R249, R252). -/
def StreamSt.expects (x : StreamSt) (t : Task) : Bool :=
  match t.kind with
  | .auPrefix => x.cursor % 1024 == 0
  | .videoChunk => t.key == x.cursor
  | _ => t.pos == x.position

/-- The 90 kHz time of frame n: floor(n × T_frame × 90,000) (R254, R257). -/
def Ctx.time90 (c : Ctx) (n : Nat) : Nat := n * c.rateDen * 90000 / c.rateNum

/-- The index of an auxiliary stream's entry in the stream table (R259). -/
def Production.streamOf (p : Production) (kind owner : Nat) : Option Nat :=
  p.streams.findIdx? (fun t => t.kind == kind && t.owner == owner)

end Sys2Proof.Machine
end

