-- ==== Sys2Proof/Machine/TwinMsgs.lean ====
section
/-! DEFINITION. The bodies of the twin messages (R489, R493 to R495, R499, R501). R489, R493, R494 and R261 give their
layouts; where a rule only lists a message's fields, they stand in the order it lists them, each aligned to its size
(notes/assumptions/41). -/

namespace Sys2Proof.Machine

/-- BEAT (R489). -/
def beatBytes (m : BeatMsg) : List Byte :=
  leBytes 1 m.role ++ leBytes 1 m.readiness ++ leBytes 1 m.mode ++ [0] ++ leBytes 2 m.epoch.toNat ++ [0, 0]
    ++ leBytes 4 m.production ++ leBytes 4 0 ++ leBytes 8 m.tSend ++ leBytes 8 m.tEcho ++ leBytes 8 m.tEchoRecv

/-- BEAT's reserved bytes. -/
def beatReserved : Cells Byte := reserved [(3, 1), (6, 2), (12, 4)]

/-- HEALTH (R489). The partner's generation, which CURTAIN_MISMATCH reports, is no part of the body. -/
def healthBytes (m : HealthMsg) : List Byte :=
  leBytes 1 m.role ++ leBytes 1 m.readiness ++ leBytes 1 (boolNat m.unconf) ++ [0] ++ leBytes 4 m.unrepaired
    ++ leBytes 4 m.compared ++ leBytes 4 m.divergent ++ leBytes 4 m.repaired ++ leInt 4 m.offsetNs ++ slice m.curtain 0 32

/-- HEALTH's reserved bits. -/
def healthReserved : Cells Byte := (2, 0xFE) :: reserved [(3, 1)]

/-- HELLO (R489). -/
def helloBytes (m : HelloMsg) : List Byte :=
  slice m.fingerprint 0 32 ++ leBytes 8 m.serial ++ leBytes 1 m.stepping ++ [0] ++ leBytes 2 m.engineUcode
    ++ leBytes 2 m.ladleUcode ++ [0, 0] ++ slice m.imageSha 0 32

/-- HELLO's reserved bytes. -/
def helloReserved : Cells Byte := reserved [(41, 1), (46, 2)]

/-- A 16-byte bitmap of rows (R176). -/
def rowMap (l : List Nat) : List Byte := leBytes 16 ((l.dedup.map (fun k => 2 ^ k)).sum)

/-- The first 128 bytes of the box office state (R176). -/
def boxBytes (b : BoxRec) : List Byte :=
  let p := b.pending.getD (0, 0, 0, 0, 0)
  (List.range 4).flatMap (fun i => leBytes 8 (b.v.getD i 0)) ++ leInt 8 b.acc ++ leBytes 1 b.schedSel ++ leInt 1 b.qpLo
    ++ leInt 1 b.qpHi ++ leBytes 1 (boolNat b.sticky + 2 * boolNat b.pending.isSome) ++ leBytes 4 b.rAvg
    ++ leBytes 1 p.1 ++ leInt 1 p.2.1 ++ leInt 1 p.2.2.1 ++ [0] ++ leBytes 4 p.2.2.2.1 ++ leBytes 4 p.2.2.2.2 ++ leBytes 4 0
    ++ rowMap b.floorRows ++ rowMap b.floorLast ++ leBytes 4 b.frameBits ++ leBytes 4 b.fillerBits ++ leBytes 2 b.floorCtus
    ++ leBytes 2 b.clipped ++ leBytes 1 b.cause ++ [0, 0, 0] ++ leBytes 4 b.tau ++ List.replicate 12 0

/-- FRAME_RECORD (R493). -/
def recBytes (r : FrameRec) : List Byte :=
  leBytes 2 r.context ++ leBytes 2 r.rows ++ leBytes 4 r.frameCount ++ leBytes 4 r.production ++ leBytes 4 0
    ++ rowMap r.floorRows ++ boxBytes r.box ++ (List.range 128).flatMap (fun k => leInt 2 (r.lx.getD k 0))
    ++ (List.range 128).flatMap (fun k => leInt 1 (r.qpRowPrev.getD k 0))
    ++ (List.range 16).flatMap (fun k => leBytes 4 (r.blocks.getD k 0)) ++ leBytes 4 r.nextSeq.toNat ++ leBytes 4 r.acked.toNat
    ++ leBytes 8 0 ++ r.digests.flatMap (fun d => leBytes 4 d.1 ++ leBytes 4 d.2)

/-- FRAME_RECORD's reserved bits, those of its box office state included. -/
def recReserved : Cells Byte :=
  (0x4B, 0xFC) :: reserved [(0x0C, 4), (0x53, 1), (0x5C, 4), (0x8D, 3), (0x94, 12), (0x268, 8)]

/-- ROW_RECORD (R494). -/
def rowRecBytes (r : RowRec) : List Byte :=
  leBytes 2 r.queue ++ leBytes 2 r.row ++ leBytes 4 r.frameCount ++ leBytes 4 r.firstSeq.toNat ++ leBytes 4 r.count
    ++ leBytes 4 r.bitstream ++ leBytes 4 r.recon ++ leBytes 1 (boolNat r.floor) ++ List.replicate 7 0

/-- ROW_RECORD's reserved bits. -/
def rowRecReserved : Cells Byte := (24, 0xFE) :: reserved [(25, 7)]

/-- POSITIONS (R494). -/
def posBytes (l : List PosEntry) : List Byte :=
  leBytes 2 l.length ++ [0, 0] ++ l.flatMap (fun e =>
    leBytes 2 e.queue ++ [0, 0] ++ leBytes 4 e.nextSeq.toNat ++ leBytes 4 e.released.toNat ++ leBytes 4 e.acked.toNat)

/-- The reserved bytes of POSITIONS. -/
def posReserved (l : List PosEntry) : Cells Byte := reserved ((2, 2) :: (List.range l.length).map (fun i => (16 * i + 6, 2)))

/-- CONFIRM (R494). -/
def confirmBytes (queue : Nat) (seq : U32) : List Byte := leBytes 2 queue ++ [0, 0] ++ leBytes 4 seq.toNat

/-- ITEM_REQUEST (R495). -/
def itemAskBytes (queue : Nat) (first : U32) (count : Nat) : List Byte :=
  leBytes 2 queue ++ [0, 0] ++ leBytes 4 first.toNat ++ leBytes 4 count

/-- A queue item's header (R261). -/
def itemHeader (i : Item) : List Byte :=
  leBytes 2 i.payload.length ++ leBytes 1 i.kind ++ leBytes 1 (boolNat i.auEnd + 2 * boolNat i.rebuilt)
    ++ leBytes 4 i.seq.toNat ++ leBytes 8 i.release

/-- ITEM (R495): the queue, the RTP sequence number that follows, and the item. -/
def itemBytes_ (queue : Nat) (i : Item) (rtpSeq : Nat) : List Byte :=
  leBytes 2 queue ++ leBytes 2 rtpSeq ++ leBytes 4 0 ++ itemHeader i ++ i.payload

/-- ITEM's reserved bits. -/
def itemReserved : Cells Byte := (11, 0xFC) :: reserved [(4, 4)]

/-- ROW_REQUEST (R499). -/
def rowAskBytes (context frame row : Nat) : List Byte := leBytes 2 context ++ [0, 0] ++ leBytes 4 frame ++ leBytes 2 row ++ [0, 0]

/-- ROW_DATA's own fields (R499); the CTU's CRF reservation follows them. -/
def rowDataHead (m : RowDataMsg) : List Byte :=
  leBytes 2 m.context ++ leBytes 2 m.row ++ leBytes 4 m.frameCount ++ leBytes 2 m.ctu
    ++ leBytes 1 (boolNat m.last + 2 * boolNat m.body.isSome + 4 * boolNat ((m.body.map (·.2)).getD false)) ++ [0]

/-- ROW_DATA (R499): one CTU's CRF reservation, or empty. -/
def rowDataBytes (m : RowDataMsg) : List Byte :=
  rowDataHead m ++ (match m.body with
    | none => []
    | some (k, _) => crfReservation k)

/-- ROW_DATA's reserved bits. -/
def rowDataReserved : Cells Byte := [(10, 0xF8), (11, 0xFF)]

/-- BLOCK_REQUEST and the head of BLOCK_DATA (R501). -/
def blockAsk (context block : Nat) : List Byte := leBytes 2 context ++ leBytes 2 block

end Sys2Proof.Machine
end

