-- ==== Sys2Proof/Machine/UnitOps.lean ====
section
/-! DEFINITION. What the data-path units share: the decision of a CTU (R165, R168, R178, R179, R186, R501), the entry and
the end of a row (R170, R180, R185), bits (R167, R183), and a frame's end. -/

namespace Sys2Proof.Machine

/-! ### Units -/

/-- The CTU's row is a repeat floor row of its tile (R144). -/
def State.repeats (s : State) (j : Job) (g : Engine) : Bool :=
  cget false (s.ctxSt j.ctx.context).repeats (rowKey g.q.frame j.tile.t g.q.row)

/-- The context's frame statistics changed. -/
def State.modStat (s : State) (j : Job) (frame : Nat) (f : FrameStat → FrameStat) : State :=
  let x := s.ctxSt j.ctx.context
  s.setCtx j.ctx.context { x with stats := cmod {} x.stats frame f }

/-! ### The start of a row and of a frame's decisions -/

/-- A record laid over a box office state (R501). -/
def recInto (r : FrameRec) (x : BoxState) : BoxState :=
  { x with
    core := r.box
    lx := r.lx.zipIdx.foldl (fun m y => cset 0 m y.2 y.1) []
    qpPrev := r.qpRowPrev.zipIdx.foldl (fun m y => cset 0 m y.2 y.1) [] }

/-- An understudy adopts a delivered FRAME_RECORD at the context's first decision point (R501). -/
def State.adopt (s : State) (e : Fin 16) (j : Job) : State :=
  let c := j.ctx.context
  match s.twin.adoptions.find? (fun a => a.record.context == c && !a.adopted), s.jobRec e j with
  | some a, some r =>
    if s.twin.role ≠ 2 ∨ j.tile.first = false then s
    else
      let own := (s.ctxSt c).lastEnd
      let bad := (List.range 16).filter (fun b =>
        match own with
        | some o => o.frame != a.record.frameCount || (o.blocks.getD b 0) != (a.record.blocks.getD b 0)
        | none => true)
      let s1 := s.putRec e j { r with box := recInto a.record r.box }
      let s2 := { s1 with twin := { s1.twin with
        adoptions := s1.twin.adoptions.map (fun x => if x.record.context = c then { x with adopted := true } else x) } }
      State.review (bad.foldl (fun (t : State) b => t.send 11 7 0x74 (blockAsk c b)) s2)
  | _, _ => s

/-- The queue of a job's context has carried a picture (R126). -/
def State.carried (s : State) (j : Job) : Bool :=
  (cget {} s.flow.queues j.ctx.context).next !=
    BitVec.ofNat 32 (((j.prod.queues.find? (fun q => q.queue == j.ctx.context)).getD {}).startSeq)

/-- Decoding unit 0's bits that are not slices, and the AU_PREFIX task (R131, R132, R171, R172, R246, R248). They count
among the bits of row 0 so far (DESIGN CHOICE, notes/assumptions/65: R179's `known` names only the slice header). -/
def State.auPrefix (s : State) (e : Fin 16) (j : Job) : State :=
  match s.jobRec e j with
  | none => s
  | some r =>
    let again := j.tile.repeatsSets r
    let r1 := if again then { r with lastPs := j.ctx.markTick r.frame * 5 / 4, buffering := r.poc } else r
    if j.tile.first = false then s.putRec e j r1
    else
      let nals := j.tile.auNals r r.box.core.v (s.carried j)
      let bits := (nals.map (fun (x : List Byte) => 8 * (x.length + 4))).sum
      -- what the sets' templates do not give stands in the engine's chunk store (R246)
      let own := ((nals.filter (fun (x : List Byte) => !j.tile.cod.templates.contains x)).map (fun (x : List Byte) => x.length)).sum
      let g := vget s.engines e
      let s1 := (s.setEngine e { g with
        r := { g.r with auBits := bits, known := g.r.known + bits, pic := j.tile.picHead r }
        chunk := { g.chunk with used := g.chunk.used + own } }).putRec e j r1
      s1.newTask
        { kind := .auPrefix, stream := j.ctx.stream, queue := j.ctx.context, ago := s1.framesAgo g.q.frameTick
          nals := nals, bytes := (nals.map (fun (x : List Byte) => x.length)).sum, stored := own, stamp := j.ctx.stamp r.frame 0, frame := r.frame, engine := e
          time90 := j.ctx.time90 r.frame, key := 1024 * r.frame, after := some (1024 * r.frame + 1) }

/-- A slice header as content: what BN.SLH fills into its template (R138). -/
def Job.headInts (j : Job) (r : CtxRec) (row : Nat) : List Int :=
  j.codeInts ++ sliceFields (j.tile.cod.templates.getD 4 []) (j.tile.picHead r) j.tile.t row

/-- Bits of a slice's start code, NAL header and slice header: at most f_row (R174). -/
def Job.headBits (j : Job) (r : CtxRec) (row : Nat) : Nat :=
  48 + Config.codedLength (Config.content (j.headInts r row)) % (j.tile.box.fRow - 48 + 1)

/-- The row's decoding unit is entered: the drain of R170, and the slice's header bits. -/
def State.enterRow (s : State) (e : Fin 16) (j : Job) : State :=
  let g0 := vget s.engines e
  if g0.r.entered then s
  else
    let first := decide (g0.q.row = 0) && !g0.r.target
    let s := if first then s.adopt e j else s
    match s.jobRec e j with
    | none => s
    | some r =>
      let g := vget s.engines e
      let head := j.headBits r g.q.row
      (s.setEngine e { g with r := { g.r with
          entered := true, headBits := head, known := head, normal := 0, sumQp := 0, bn := 0
          vBefore := if g.q.row = 0 then r.box.core.v else g.r.vBefore
          pic := j.tile.picHead r, range := 510, shifts := 0, bypass := 0
          entropy := Config.content (j.headInts r g.q.row) } }).putRec e j
        { r with box := { r.box with core := j.tile.enter r.box.core g.q.row } }

/-- The frame's first decision point (R178, R181, R186, R248). -/
def State.frameTarget (s : State) (e : Fin 16) (j : Job) : State :=
  if (vget s.engines e).r.target then s
  else
    let s1 := s.auPrefix e j
    match s1.jobRec e j with
    | none => s1
    | some r =>
      let g := vget s1.engines e
      let start := decide (r.poc = 0)
      (s1.setEngine e { g with r := { g.r with target := true } }).putRec e j
        { r with box := j.tile.target r (s1.genOk j.ctx g.q.frame) start g.r.vBefore g.r.auBits }

/-! ### The decision of a CTU -/

/-- What a floor CTU is coded as (R165, R221), with the causes of R123: floor intra where MD finds no inter candidate (R122,
cause 5), whose reads were lost when ref0's CTU is valid. -/
def State.floorChoice (s : State) (e : Fin 16) (j : Job) (r : CtxRec) (cause : Nat) : Bool × Nat :=
  let g := vget s.engines e
  let i := r.sweepFrame j.tile.cod.sweepN
  let ok := r.ok r.ref0 (j.num g)
  let skip := decide (cause ≠ 5) && !g.c.badFloor && j.tile.skipOk i (j.col g) ok (s.genOk j.ctx g.q.frame)
  (!skip, if skip then 0 else boolNat (!ok) + (if j.tile.cod.structure_ = 2 ∧ r.captured = false ∧ ok = false then 2 else 0)
    + (if g.c.badFloor ∨ cause = 5 ∧ ok = true then 4 else 0))

/-- The bit of floor_cause_last that a floor cause sets (R176): budget, bins, lateness, input missing. -/
def causeBit (cause : Nat) : Nat := if 1 ≤ cause ∧ cause ≤ 4 then 2 ^ (cause - 1) else 0

/-- The box office's record of a floor CTU (R179, R185): the row's bit, the cause, FLOOR_STICKY. -/
def noteFloor (b : BoxRec) (row cause : Nat) : BoxRec :=
  { b with
    sticky := b.sticky || cause == 1
    floorRows := if causeBit cause = 0 then b.floorRows else (b.floorRows ++ [row]).dedup
    cause := Nat.lor b.cause (causeBit cause) }

/-- A CTU's decision is recorded (R165, R179, R185): cause 0 none, 1 budget, 2 bins, 3 lateness, 4 input missing, 5 no
inter candidate (R122). -/
def State.setDecision (s : State) (e : Fin 16) (j : Job) (r : CtxRec) (cause : Nat) (d : Decision) : State :=
  let g := vget s.engines e
  let intra := if cause = 0 then (false, 0) else s.floorChoice e j r cause
  let report := decide (1 ≤ cause ∧ cause ≤ 4)
  let r1 := { r with box := { r.box with core := noteFloor r.box.core g.q.row cause } }
  let s1 := (s.setEngine e { g with
    c := { g.c with
      undo := if cause = 0 then some g.r else none
      decided := true, floor := cause, intraFlr := intra.1, lossMask := intra.2, qp := d.qp, room := d.room, rb := d.rb }
    r := { g.r with
      floorCtus := g.r.floorCtus + boolNat report
      normal := g.r.normal + boolNat (decide (cause = 0)), sumQp := if cause = 0 then g.r.sumQp + d.qp else g.r.sumQp } }).putRec e j r1
  s1.modStat j g.q.frame (fun x => { x with
    floors := x.floors + boolNat report
    floorIntra := x.floorIntra + boolNat intra.1
    intraMask := Nat.lor x.intraMask intra.2
    budgetAt := if cause = 1 ∧ x.budget = 0 then (g.q.row, g.q.ctu) else x.budgetAt
    budget := x.budget + boolNat (decide (cause = 1))
    binsAt := if cause = 2 ∧ x.bins = 0 then g.r.fill else x.binsAt
    bins := x.bins + boolNat (decide (cause = 2)) })

/-- The decision point of the CTU in work (R168, R178, R179). `late` says that the LATE word has decided (R66). -/
def State.decisionPoint (s : State) (e : Fin 16) (j : Job) (late : Bool) : State :=
  if (vget s.engines e).c.decided then s
  else
    let s0 := s.setEngine e ((vget s.engines e).drainFill s.cycle)
    let s1 := (s0.enterRow e j).frameTarget e j
    match s1.jobRec e j with
    | none => s1
    | some r =>
      let g := vget s1.engines e
      let d := j.tile.decide r (s1.genOk j.ctx g.q.frame) g.q.ctu g.q.row g.r.known g.r.fill
      let i := r.sweepFrame j.tile.cod.sweepN
      let cause :=
        if late then 3
        else if d.floor ≠ 0 then d.floor
        else if s1.repeats j g || g.sourceBad j.tab then 4
        else if j.tile.inBand i (j.col g) then 0
        else if s1.interOk e j r then 0 else 5
      s1.setDecision e j r cause d

/-! ### Bits -/

/-- Bits and bins of a BN result join the row, the bin buffer and its model (R167, R179, R183): `bypass` of the bins are
bypass bins, one bit each; the model takes them `latency` nominal cycles after the issue; `ops` is the content. -/
def State.addBits (s : State) (e : Fin 16) (bits bins bypass latency : Nat) (normal : Bool) (ops : List Int) : State :=
  let g := ((vget s.engines e).drainFill s.cycle).code s.cycle
  s.setEngine e { g with
    r := { g.r with
      known := g.r.known + bits, bn := if normal then g.r.bn + bits else g.r.bn
      fillDue := g.r.fillDue ++ [(g.nominal s.cycle + latency, bins)]
      shifts := g.r.shifts + (bits - bypass), bypass := g.r.bypass + bypass
      range := 256 + Config.content (1 :: (g.r.range : Int) :: ops) % 255
      entropy := Config.content ((g.r.entropy : Int) :: ops) }
    bins := g.bins ++ [⟨g.q.context, g.q.tile, g.q.row, g.q.frame, bins, bits, false,
      Config.content ((g.r.entropy : Int) :: ops), some g.q.ctu⟩] }

/-- The content of a floor CTU, the same whatever its cause (R165). -/
def Job.floorInts (j : Job) (g : Engine) : List Int :=
  j.codeInts ++ (cget {} g.c.md 16).ints ++ [((cget {} g.c.tq 16).coef : Int)] ++ g.bare.nearInts

/-- The bits and bins of a floor CTU, within the bounds of R166. -/
def State.floorBin (s : State) (e : Fin 16) (j : Job) : State :=
  let g := vget s.engines e
  let ops := j.floorInts g
  let bits := Config.quadBits ops % ((if g.c.intraFlr then floorIntraBits j.ctx.chroma else floorSkipBits) + 1)
  let bins := Config.quadBins ops % ((if g.c.intraFlr then floorIntraBins j.ctx.chroma else floorSkipBins) + 1)
  s.addBits e bits bins (Config.quadBins (1 :: ops) % (min bits bins + 1)) 96 false ops

/-- The slice of a row opens in the CABAC coder with its header (R246). -/
def State.openSlice (s : State) (e : Fin 16) (j : Job) : State :=
  let g := vget s.engines e
  if g.r.sliceOpen then s
  else
    let k : Slice := { context := j.ctx.context, tile := j.tile.t, row := g.q.row, frame := g.q.frame
                       frameTick := g.q.frameTick, last := decide (g.q.row + 1 = j.ctx.rows) }
    s.setEngine e { g with
      r := { g.r with sliceOpen := true }, chunk := { g.chunk with slices := g.chunk.slices ++ [k] }
      bins := g.bins ++ [⟨g.q.context, g.q.tile, g.q.row, g.q.frame, 0, g.r.headBits, false, g.r.entropy, none⟩] }

/-! ### The end of a frame -/

/-- The contents of a record by 4 KiB block (R88, R493), its bytes where a rule gives them. -/
def CtxRec.block (r : CtxRec) (b : Nat) : List Int :=
  match b with
  | 0 => ints ([r.production, r.frame, r.poc, r.ingest] ++ r.format)
  | 2 => ints ([r.ref0, r.ref1, r.backdrop, r.write, r.spare, boolNat r.captured] ++ (r.valid.map (·.1)))
  | 3 => [(r.filterNow : Int)]
  | 4 => [(r.filterNext : Int)]
  | 5 => r.box.lxBytes.map (fun x => (x.toNat : Int))
  | 6 => r.motion
  | 7 => ints [r.sweepStart, r.sweepNo, boolNat r.sweeping, r.lastPs, r.buffering]
  | 8 | 9 | 10 | 11 => (slice (mfBytes r.mf) (4096 * (b - 8)) 4096).map (fun x => (x.toNat : Int))
  | 12 => ints r.bases
  | _ => []

/-- The digest of a record's block (R493): CRC-32C; block 1 is taken as zeros, the motion field has the bytes of R156, and
the reserved blocks hold zeros. -/
def CtxRec.digest (r : CtxRec) (b : Nat) : Nat :=
  if b = 1 ∨ 14 ≤ b then crc32c (List.replicate 4096 0)
  else if 8 ≤ b ∧ b ≤ 11 then crc32c (slice (mfBytes r.mf) (4096 * (b - 8)) 4096)
  else Config.blockDigest b (r.block b)

/-- A record's block digests. -/
def CtxRec.blocks (r : CtxRec) : List Nat := (List.range 16).map r.digest

/-- The sweep whose recovery point a frame is captures the backdrop (R114). -/
def Tile.captures (a : Tile) (r : CtxRec) : Bool :=
  a.cod.structure_ == 2 && (r.sweepNo - 1) % (a.ctx.backdrop / a.cod.period) == 0

/-- The motion statistics of a frame (R88): the number of CTUs of its motion field, and the sums of their ref0 steering vectors;
the rule names no content (DESIGN CHOICE, notes/assumptions/73). -/
def motionOf (m : Cells MField) : List Int :=
  [(m.length : Int), (m.map (fun (y : Nat × MField) => y.2.x0)).sum, (m.map (fun (y : Nat × MField) => y.2.y0)).sum]

/-- The frame of a tile ends (R113, R114, R180): its record, and whether it was a recovery point and a captured one. -/
def Tile.endFrame (a : Tile) (p : Production) (r : CtxRec) (w : RowWork) : CtxRec × Bool × Bool :=
  let point := r.sweepFrame a.cod.sweepN == some (a.cod.sweepN - 1)
  let capture := point && a.captures r
  let box := a.frameEnd r.box w.stats w.frameBits w.filler w.clipped w.floorCtus
  let r1 := { r with box := box, sweeping := r.sweeping && !point, motion := motionOf r.mf }.turn a.cod.structure_ capture
  ({ r1 with bases := p.bases a r1 }, point, capture)

/-- The events that a frame raises once all its tiles have ended (R114, R123, R147, R191). -/
def State.frameEvents (s : State) (j : Job) (n : Nat) (point capture : Bool) : List Ev :=
  let c := j.ctx.context
  let x := cget {} (s.ctxSt c).stats n
  evIf (decide (0 < x.floorIntra)) (s.ev c 0x0202 [(4, n), (4, x.floorIntra), (1, x.intraMask)])
    ++ evIf (decide (0 < x.budget)) (s.ev c 0x0301 [(4, n), (2, x.budgetAt.1), (2, x.budgetAt.2), (4, x.floors)])
    ++ evIf (decide (0 < x.bins)) (s.ev c 0x0302 [(4, n), (4, x.bins), (4, x.binsAt)])
    ++ evIf (decide (0 < x.clipped)) (s.ev c 0x0303 [(4, n), (4, x.clipped)])
    ++ evIf point (s.ev c 0x0205 [(4, n)]) ++ evIf capture (s.ev c 0x0206 [(4, n)])

/-- The last row of the frame ends on one tile. -/
def State.endFrame (s : State) (e : Fin 16) (j : Job) : State :=
  match s.jobRec e j with
  | none => s
  | some r =>
    let g := vget s.engines e
    let n := g.q.frame
    let f := j.tile.endFrame j.prod r g.r
    let s1 := (s.putRec e j f.1).modStat j n (fun x => { x with ends := x.ends + 1, clipped := x.clipped + g.r.clipped })
    let x := s1.ctxSt j.ctx.context
    let x1 := if j.tile.first then
        { x with lastEnd := some ⟨n, f.1.box, f.1.ref0, f.1.blocks⟩ }
      else x
    let s2 := s1.setCtx j.ctx.context x1
    if (cget {} x.stats n).ends = j.ctx.tiles then s2.raiseAll (s2.frameEvents j n f.2.1 f.2.2) else s2

/-- Bits of a slice's end beyond its CTUs: termination and trailing bits; with alignment they stay within f_end (R166). -/
def endBits (entropy : Nat) : Nat := Config.quadBits [4, (entropy : Int)] % (floorEnd - 6)

/-- A row ends (R73, R167, R170, R171, R185, R186): its last bits, the fullness, filler, the slice's length; and the frame
with its last row. Every byte of the slice's NAL unit counts, its start code included. -/
def State.endRow (s : State) (e : Fin 16) (j : Job) : State :=
  let g := (vget s.engines e).code s.cycle
  if g.r.sliceOpen = false then s
  else
    match s.jobRec e j with
    | none => s
    | some r =>
      let k := g.q.row
      let au := if k = 0 then g.r.auBits else 0
      let tail := endBits g.r.entropy
      let bytes := ceilDiv (g.r.known - au + tail) 8
      let bits := au + 8 * bytes
      let b1 := { r.box.core with v := r.box.core.v.map (· + bits) }
      let fb := j.tile.fillerBytes b1 k
      let b2 := { b1 with v := b1.v.map (· + 8 * fb) }
      let over_ := j.tile.scheds.filter (fun i => decide ((j.tile.sched i).2 < b2.v.getD i 0) && !g.r.hrd.contains i)
      let done := fun (x : Slice) =>
        if x.context = j.ctx.context ∧ x.tile = j.tile.t ∧ x.row = k ∧ x.frame = g.q.frame ∧ x.ended = false then
          { x with bytes := bytes - 4, ended := true, filler := fb, floor := b2.floorRows.contains k }
        else x
      let last := decide (k + 1 = j.ctx.rows)
      let turn := decide (j.ctx.mode = 1)
      let g1 := { g with
        q := if turn then
            { g.q with row := k + 1, rowTurn := g.q.inBlock, ctu := if g.q.inBlock then g.q.ctu else 0 }
          else g.q
        chunk := { g.chunk with slices := g.chunk.slices.map done }
        bins := g.bins ++ [⟨g.q.context, g.q.tile, k, g.q.frame, 0, tail, true, g.r.entropy, none⟩]
        r := { g.r with
          known := 0, entered := false, sliceOpen := false, hrd := g.r.hrd ++ over_
          stats := cset (0, 0, 0, 0) g.r.stats k (g.r.normal, g.r.sumQp, g.r.bn, j.tile.w)
          frameBits := g.r.frameBits + bits + 8 * fb, filler := g.r.filler + 8 * fb } }
      let s1 := (s.setEngine e g1).putRec e j { r with box := { r.box with core := b2 } }
      let s2 := s1.raiseAll (over_.map (fun (i : Nat) =>
        s1.ev j.ctx.context 0x0304 [(4, g.q.frame), (1, i), (4, (b2.v.getD i 0 - (j.tile.sched i).2 : Nat))]))
      if last then s2.endFrame e j else s2

/-! ### References -/

/-- A quad joins RW's staging of the CTU (R116 to R118). -/
def State.stageQuad (s : State) (e : Fin 16) (j : Job) (q : Nat) : State :=
  s.work e (fun c =>
    let x := crfQuad j.ctx.chroma ((c.outQuad q).map (crfSample j.tile.cod.bitDepth))
    { c with crf := { c.crf with units := lset 0 c.crf.units q x.1, raw := lset false c.crf.raw q x.2 } })

/-- The CTU's CRF joins RW's staging (R116, R117): the samples behind the loop filters, as CRF stores them. -/
def State.stageCrf (s : State) (e : Fin 16) (j : Job) : State :=
  let g := vget s.engines e
  let k := crfCtu j.ctx.chroma g.q.frame (g.c.after.map (fun l => l.map (crfSample j.tile.cod.bitDepth)))
  s.setEngine e { g with crfs := g.crfs ++ [(j.num g, k)], c := { g.c with crf := CtuCrf.none_ } }

/-- A class 0 or class 1 write was dropped: the CTU's bit is cleared (R84, R120, R147). -/
def State.dropRef (s : State) (e : Fin 16) (j : Job) (t : Nat) : State :=
  match s.jobRec e j with
  | none => s
  | some r =>
    State.raise (s.putRec e j (r.mark r.write t false))
      (s.ev j.ctx.context 0x0203 [(4, (vget s.engines e).q.frame), (1, 3)])

/-- The oldest staged CRF is written to the write buffer (R84, R113, R119, R120). -/
def State.writeCrf (s : State) (e : Fin 16) (j : Job) (address : Nat) : State :=
  let g := vget s.engines e
  match g.crfs, s.jobRec e j with
  | (t, k) :: rest, some r =>
    let s1 := s.setEngine e { g with crfs := rest }
    let w := s1.issueWrite e j.ctx.context 0 address (crfBytes k)
    if w.2 then
      let s2 := { w.1 with ddr := { w.1.ddr with
        refs := cset CtuCrf.none_ w.1.ddr.refs (refKey j.ctx.context r.write j.tile.t t) k } }
      s2.putRec e j (r.mark r.write t true)
    else w.1.dropRef e j t
  | _, _ => s

/-- The planes that a class 1 write of a length carries, in 64-byte units: 4 are a CTU's block of the 1/4 level, 16 its quad
units of the 1/2 level, and any other length both (R149, R150; DESIGN CHOICE, notes/assumptions/68). -/
def levelParts (units : Nat) : Bool × Bool := (units != 16, units != 4)

/-- Staged levels that no plane waits for any longer leave the staging. -/
def Staged.write (t : Staged) (p : Bool × Bool) : Staged := { t with quarter := t.quarter && !p.1, half := t.half && !p.2 }

/-- The oldest staged levels that wait for a plane are written to it (R149, R150). -/
def State.writeLevels (s : State) (e : Fin 16) (j : Job) (address units : Nat) : State :=
  let g := vget s.engines e
  let p := levelParts units
  match g.staged.find? (fun (t : Staged) => (p.1 && t.quarter) || (p.2 && t.half)), s.jobRec e j with
  | some t, some r =>
    let left := (g.staged.map (fun (x : Staged) => if x.ctu = t.ctu then x.write p else x)).filter (fun (x : Staged) => x.quarter || x.half)
    let s1 := s.setEngine e { g with staged := left }
    let w := s1.issueWrite e j.ctx.context 1 address (64 * units)
    let key := refKey j.ctx.context r.write j.tile.t t.ctu
    if w.2 then
      { w.1 with ddr := { w.1.ddr with
        planes := if p.1 then cset [] w.1.ddr.planes key t.levels.quarter else w.1.ddr.planes
        halves := if p.2 then cset [] w.1.ddr.halves key t.levels.half else w.1.ddr.halves } }
    else w.1.dropRef e j t.ctu
  | _, _ => s

end Sys2Proof.Machine
end

