-- ==== Sys2Proof/Machine/AudioOps.lean ====
section
/-! DEFINITION. Audio samples, routes and ports (R228 to R241). A source channel's number is 2 × port + side, or
64 + the link channel. -/

namespace Sys2Proof.Machine

/-- The rate of a rate code in samples per second (R229). -/
def audioFs (rate : Nat) : Nat := if rate = 0 then 48000 else 96000

/-- The first tick at or after n / fs (R231). -/
def sampleTick (fs n : Nat) : Nat := ceilDiv (n * 800000000) fs

/-- The latest sample index at a tick. -/
def sampleAt (fs tick : Nat) : Nat := tick * fs / 800000000

/-- The stamp of sample n in ns: n / fs rounded down to 1.25 ns (R231). -/
def sampleStamp (fs n : Nat) : Nat := n * 800000000 / fs * 5 / 4

/-- A tick lies in [n / fs, n / fs + 10.17 ns) (R231). -/
def onSampleEdge (fs n tick : Nat) : Bool :=
  decide (n * 800000000 ≤ tick * fs) && decide (125 * tick * fs < 1017 * fs + n * 100000000000)

/-- A sample's number in the table of source samples. -/
def sampleKey (c n : Nat) : Nat := 2 ^ 60 * c + n

/-- A source channel's number. -/
def ARoute.chan (r : ARoute) : Nat := if r.srcKind = 0 then r.src else 64 + r.src

/-- A source sample, when it has come. -/
def Audio.sample (a : Audio) (c n : Nat) : Option Int := cget none a.samples (sampleKey c n)

/-- A source sample joins the table; samples of its channel that no delay can reach are dropped (R235, R241). -/
def Audio.put (a : Audio) (c n : Nat) (x : Int) : Audio :=
  let keep := a.samples.filter (fun y => y.1 / 2 ^ 60 != c || decide (n ≤ y.1 % 2 ^ 60 + 524288))
  { a with samples := cset none keep (sampleKey c n) (some x) }

/-- The sample that route i takes from its channel: 0 where its window closed without it (R232). -/
def Audio.routeSample (a : Audio) (i c n : Nat) : Option Int :=
  if cget false a.zeroed (sampleKey i n) then some 0 else a.sample c n

/-! ### Gain and mute -/

/-- The gain in effect (R238). -/
def RouteState.eff (r : RouteState) : Nat := if r.muted || r.hold then 0 else r.gain

/-- The gain that a sample takes. -/
def RouteState.gainAt (r : RouteState) (n : Nat) : Nat :=
  ((r.hist.find? (fun h => decide (h.1 ≤ n))).map (·.2)).getD r.eff

/-- The gains that a delay can still reach from sample n (R235, R241): those since 2^20 samples ago and the one then in
effect. -/
def gainsNear (n : Nat) (l : List (Nat × Nat)) : List (Nat × Nat) := l.take (l.findIdx (fun h => decide (h.1 + 1048576 ≤ n)) + 1)

/-- The effective gain holds from a sample on. -/
def RouteState.from_ (r : RouteState) (n : Nat) : RouteState := { r with hist := (n, r.eff) :: gainsNear n r.hist }

/-- A route at its start, at sample n (R236); `held` says that the detector mutes its pair (R237). -/
def ARoute.start (r : ARoute) (held : Bool) (n : Nat) : RouteState :=
  let x : RouteState := { gain := r.gain, muted := r.muted, hold := held, checked := n }
  x.from_ 0

/-- A sample scaled by a gain (R238). -/
def gained (x : Int) (g : Nat) : Int := clamp24 ((x * g + 0x2000) / 16384)

/-- A pending change applies at sample n; `held` says that the detector still mutes the pair (R237, R238). -/
def RouteState.apply (r : RouteState) (held : Bool) (n : Nat) : RouteState :=
  match r.pending with
  | none => r
  | some (g, m) =>
    { r with gain := g.getD r.gain, muted := m.getD r.muted, hold := held, pending := none, crossing := none }.from_ n

/-- A change accepted at a tick replaces a pending one (R238). -/
def RouteState.ask (r : RouteState) (g : Option Nat) (m : Option Bool) (tick : Nat) : RouteState :=
  { r with pending := some (g, m), accepted := tick, crossing := none }

/-- The close of the interval in which a pending change waits for a crossing: 5 ms (R238). -/
def RouteState.close (r : RouteState) : Nat := r.accepted + 4000000

/-- A source sample is examined (R238): the first from the frame after acceptance that is 0 or changes sign. -/
def RouteState.see (r : RouteState) (fs n : Nat) (x : Int) : RouteState :=
  let flips := decide (x = 0) || (decide (x < 0) != decide (r.lastSrc < 0))
  let inTime := decide (sampleAt fs r.accepted < n) && decide (sampleTick fs n < r.close)
  { r with
    checked := n, lastSrc := x
    crossing := if r.pending.isSome && r.crossing.isNone && inTime && flips then some n else r.crossing }

/-- The samples of route i that have come since the last one examined, in order. -/
def RouteState.scan (a : Audio) (i c fs : Nat) : Nat → RouteState → RouteState
  | 0, r => r
  | k + 1, r =>
    match a.routeSample i c (r.checked + 1) with
    | none => r
    | some x => RouteState.scan a i c fs k (r.see fs (r.checked + 1) x)

/-- The rate code of a route's source (R233). -/
def Production.srcRate (p : Production) (r : ARoute) : Nat :=
  if r.srcKind = 0 then (p.groups.getD (r.src / 16) {}).rate
  else ((p.channels.find? (fun c => c.channel == r.src)).getD {}).rate

/-- Every route whose source is a channel examines what has come; a route that has examined nothing near sample n begins
there, and so does a port's where earlier frames did not come, since a port's samples come in order. -/
def Audio.scan (a : Audio) (p : Production) (c n : Nat) : Audio :=
  p.routes.zipIdx.foldl (fun (a : Audio) y =>
    if y.1.chan ≠ c then a
    else
      let r := cget {} a.routes y.2
      let gone := y.1.srcKind = 0 ∧ r.checked + 1 < n ∧ (a.sample c n).isSome = true ∧ (a.sample c (r.checked + 1)).isNone = true
      let r := if r.checked + 524288 < n ∨ gone then { r with checked := n - 1 } else r
      { a with routes := cset {} a.routes y.2 (r.scan a y.2 c (audioFs (p.srcRate y.1)) (a.samples.length)) }) a

/-- The detector mutes the routes of a pair from sample n on: at once when it finds a preamble (R237). -/
def Audio.holdPair (a : Audio) (p : Production) (pair n : Nat) : Audio :=
  p.routes.zipIdx.foldl (fun (a : Audio) y =>
    if y.1.chan / 2 ≠ pair then a
    else
      let r := cget {} a.routes y.2
      { a with routes := cset {} a.routes y.2 (RouteState.from_ { r with hold := true } n) }) a

/-- A change of route i is accepted at a tick (R238): it replaces a pending one, and every sample from the frame after acceptance
is examined, those that have come already among them. -/
def Audio.askRoute (a : Audio) (p : Production) (i : Nat) (e : ARoute) (g : Option Nat) (m : Option Bool) (tick : Nat) : Audio :=
  let fs := audioFs (p.srcRate e)
  let n := sampleAt fs tick
  let r := (cget {} a.routes i).ask g m tick
  let r1 := if n < r.checked then { r with checked := n, lastSrc := (a.routeSample i e.chan n).getD r.lastSrc } else r
  { a with routes := cset {} a.routes i (r1.scan a i e.chan fs a.samples.length) }

/-- The release of a pair's mute waits as a change does (R237, R238); a pending change takes it along. -/
def Audio.releasePair (a : Audio) (p : Production) (pair tick : Nat) : Audio :=
  p.routes.zipIdx.foldl (fun (a : Audio) y =>
    if y.1.chan / 2 ≠ pair then a
    else
      let o := (cget {} a.routes y.2).pending.getD (none, none)
      a.askRoute p y.2 y.1 o.1 o.2 tick) a

/-- The detector mutes a channel's pair. -/
def Audio.muted (a : Audio) (c : Nat) : Bool :=
  if c < 64 then (a.ports.toList.getD (c / 2) {}).nonpcm else decide (0 < cget 0 a.chanNonpcm ((c - 64) / 2))

/-- A burst preamble: Pa in the first channel and Pb in the second of one frame (R237). -/
def isPreamble (x y : Int) : Bool := decide (x / 256 % 65536 = 0xF872) && decide (y / 256 % 65536 = 0x4E1F)

/-! ### Destinations -/

/-- What a destination carries for sample n: 0 without a route (R233). -/
def State.destSample (s : State) (p : Production) (dstKind dst n : Nat) : Int :=
  match p.routes.findIdx? (fun r => r.dstKind == dstKind && r.dst == dst) with
  | none => 0
  | some i =>
    let r := p.routes.getD i {}
    gained ((s.audio.routeSample i r.chan n).getD 0) ((cget {} s.audio.routes i).gainAt n)

/-- Samples of a packet of a stream: m (R240). -/
def AStream.m (t : AStream) : Nat := (if t.ptime = 0 then 6 else 48) * (if t.rate = 0 then 1 else 2)

/-- The greatest lag of a stream's link sources (R232, R241). -/
def Production.streamLag (p : Production) (t : AStream) : Nat :=
  ((p.routes.filter (fun r => r.dstKind == 0 && r.dst / 64 == t.stream && r.srcKind == 1)).map (·.lag)).foldl max 0

/-- The lag of a link channel: the greatest of its routes' (R232). -/
def Production.chanLag (p : Production) (c : Nat) : Nat :=
  ((p.routes.filter (fun r => r.srcKind == 1 && r.src == c)).map (·.lag)).foldl max 0

/-- The L24 payload of samples [f, f + m): big-endian, channel-interleaved (R240). -/
def State.l24 (s : State) (p : Production) (t : AStream) (f : Nat) : List Byte :=
  (List.range t.m).flatMap (fun i => (List.range t.channels).flatMap (fun c =>
    (leInt 3 (s.destSample p 0 (64 * t.stream + c) (f + i))).reverse))

/-- A stream's packets whose samples are complete become AUDIO tasks (R240, R241, R248). -/
def State.audioPackets (p : Production) (t : AStream) (i : Nat) : Nat → State → State
  | 0, s => s
  | k + 1, s =>
    let fs := audioFs t.rate
    match cget 0 s.audio.next t.stream with
    | 0 => s
    | f + 1 =>
      if s.time.tick < sampleTick fs (f + t.m) + tickOf (p.streamLag t) then s
      else
        let bytes := s.l24 p t f
        let s1 := s.newTask { kind := .audio, stream := i, queue := t.queue, payload := bytes, bytes := bytes.length
                              stamp := sampleStamp fs f + (if t.ptime = 0 then 125000 else 1000000) + t.delayDa
                              time90 := f % 2 ^ 32 }
        State.audioPackets p t i k { s1 with audio := { s1.audio with next := cset 0 s1.audio.next t.stream (f + t.m + 1) } }

/-- Every audio stream's complete packets. -/
def State.audioTasks (s : State) (p : Production) : State :=
  p.astreams.foldl (fun (s : State) t =>
    match p.streamOf 2 t.stream with
    | some i => State.audioPackets p t i 64 s
    | none => s) s

/-! ### Ports -/

/-- A port restarts (R239): the buffer is flushed, both pointers stand at a left slot, and 256 frames follow. -/
def APortState.restart (x : APortState) (cause : Nat) : APortState :=
  { x with buffer := [], got := [], rdPtr := 0, wrPtr := 0, settle := 257, risk := false, restartDue := false
           cause := some cause, restarts := satAdd 32 x.restarts 1 }

/-- A port at the start of a frame: an automatic restart that is due, and one settling frame less. -/
def APortState.begin_ (x : APortState) : APortState :=
  let x := if x.restartDue then x.restart 1 else x
  { x with settle := if 1 < x.settle then x.settle - 1 else x.settle }

/-- A word as a 24-bit sample: two's complement, extended with zero bits below (R230). -/
def portWord (word : Nat) (x : Int) : Int :=
  let k := x % 2 ^ word
  (if 2 * k < 2 ^ word then k else k - 2 ^ word) * 2 ^ (24 - word)

/-- Bits of a slot after the last bit of its word (R229): the MSB stands one bit clock after the frame start edge under I²S,
at the edge when left-justified; right-justified the LSB is the slot's last bit. -/
def slotShift (framing word : Nat) : Nat := if framing = 0 then 31 - word else if framing = 1 then 32 - word else 0

/-- The word that an input slot carries, as a sample; the slot's other bits are ignored (R229, R230). -/
def slotSample (framing word : Nat) (x : U32) : Int := portWord word ((x.toNat / 2 ^ slotShift framing word : Nat) : Int)

/-- The slot that an output port drives for a sample: its top bits, truncated, and 0 outside the word (R229, R230). -/
def sampleSlot (framing word : Nat) (x : Int) : U32 :=
  BitVec.ofNat 32 ((x / 2 ^ (24 - word) % 2 ^ word).toNat * 2 ^ slotShift framing word)

/-- Slot words of frame n arrive at a port's buffer: the buffer with its write pointer, and the words discarded (R239). -/
def pushWords (n : Nat) (x : APortState) : List Int → APortState × Nat
  | [] => (x, 0)
  | w :: ws =>
    if 128 ≤ x.buffer.length then
      let r := pushWords n x ws
      (r.1, r.2 + 1)
    else pushWords n { x with buffer := x.buffer ++ [(n, x.wrPtr, w)], wrPtr := 1 - x.wrPtr } ws

/-- Slot words due at an output port: what is sent, and the words repeated (R239). -/
def popWords : Nat → APortState → APortState × List Int × Nat
  | 0, x => (x, [], 0)
  | k + 1, x =>
    match x.buffer with
    | [] =>
      let r := popWords k x
      (r.1, x.lastWord :: r.2.1, r.2.2 + 1)
    | w :: ws =>
      let r := popWords k { x with buffer := ws, rdPtr := 1 - x.rdPtr, lastWord := w.2.2 }
      (r.1, w.2.2 :: r.2.1, r.2.2)

/-- A port's entry and state after words slipped: SWAP_RISK, the count, and a due restart (R239). -/
def APortState.slip (x : APortState) (e : APort) (under : Bool) (n : Nat) : APortState :=
  if n = 0 then x
  else
    { x with risk := true, restartDue := e.autoRestart
             overruns := if under then x.overruns else satAdd 32 x.overruns n
             underruns := if under then satAdd 32 x.underruns n else x.underruns }

/-- The state with one port changed. -/
def State.setPort (s : State) (i : Fin 32) (x : APortState) : State :=
  { s with audio := { s.audio with ports := vset s.audio.ports i x } }

/-- AUDIO_SLIP when words slipped (R239, R243). -/
def State.slipEv (s : State) (i : Fin 32) (under : Bool) (n : Nat) : List Ev :=
  evIf (decide (0 < n)) (s.ev (676 + i.val) 0x0503 [(1, boolNat under), (4, n), (1, n % 2)])

/-- The words in an input port's buffer are lost to a restart or a swap: their samples are carried as 0 (R239). -/
def State.flushPort (s : State) (i : Fin 32) : State :=
  let x := vget s.audio.ports i
  let a := x.buffer.foldl (fun (a : Audio) w => a.put (2 * i.val + w.2.1) w.1 0) s.audio
  { s with audio := { a with ports := vset a.ports i { x with buffer := [] } } }

/-- A port restarts (R239): an input port's waiting words are lost. -/
def State.restartPort (s : State) (e : APort) (i : Fin 32) (cause : Nat) : State :=
  let s1 := if e.direction = 1 then s.flushPort i else s
  s1.setPort i ((vget s1.audio.ports i).restart cause)

/-- The audio DMA moves as many buffered words to DDR5 as port P19's queue takes, and their samples stand (R239, R424). -/
def State.drainPort (s : State) (p : Production) (i : Fin 32) : State :=
  let x := vget s.audio.ports i
  let room := (portCapacity 19 - (vget s.ddr.ports 19).fill) / 4
  let k := if s.ddr.state = 1 then min x.buffer.length room else 0
  if k = 0 then s
  else
    let a := (x.buffer.take k).foldl (fun (a : Audio) w => a.put (2 * i.val + w.2.1) w.1 w.2.2) s.audio
    { s with
      audio := { a with ports := vset a.ports i { x with buffer := x.buffer.drop k, rdPtr := (x.rdPtr + k) % 2 } }
      ddr := s.ddr.writeRole 19 (p.region 9 0 + 4096 * i.val) (4 * k) s.time.fclk }

/-- The detector at an input port's frame n, whose channels carry v and w (R237, R243). -/
def State.detectPort (s : State) (p : Production) (e : APort) (i : Fin 32) (n : Nat) (v w : Int) : State :=
  let x := vget s.audio.ports i
  if e.detect = false then s
  else if isPreamble v w then
    let s1 := s.setPort i { x with nonpcm := true, quiet := 0 }
    if x.nonpcm then s1
    else State.raise { s1 with audio := s1.audio.holdPair p i.val n } (s.ev (676 + i.val) 0x0501 [(2, i.val), (8, n)])
  else if x.nonpcm then s.setPort i { x with quiet := x.quiet + 1 } else s

/-- An input port's frame n (R230, R236, R237, R239). -/
def State.inputFrame (s : State) (p : Production) (e : APort) (framing : Nat) (i : Fin 32) (n : Nat) (w : U32 × U32) :
    State :=
  let s0 := if (vget s.audio.ports i).restartDue then s.flushPort i else s
  let x := (vget s0.audio.ports i).begin_
  let r := pushWords n x (if x.settle = 0 then [slotSample framing e.word w.1, slotSample framing e.word w.2] else [])
  let word := fun (side : Nat) => (r.1.buffer.find? (fun y => y.1 == n && y.2.1 == side)).map (·.2.2)
  let s1 := s0.setPort i (r.1.slip e false r.2)
  let lost := fun (a : Audio) (side : Nat) => if (word side).isSome then a else a.put (2 * i.val + side) n 0
  let s2 := { s1 with audio := lost (lost s1.audio 0) 1 }.drainPort p i
  let s3 := { s2 with audio := (s2.audio.scan p (2 * i.val) n).scan p (2 * i.val + 1) n }
  (s3.detectPort p e i n ((word 0).getD 0) ((word 1).getD 0)).raiseAll (s.slipEv i false r.2)

/-- The DMA asks DDR5 for the words of an output port up to those of frame n + 1, as far as the buffer will have room
(R239, R421, notes/assumptions/46). -/
def State.askWords (s : State) (p : Production) (i : Fin 32) (n : Nat) : State :=
  let x := vget s.audio.ports i
  let k := if s.ddr.state = 1 then min (2 * n + 4 - x.ask) (128 - x.buffer.length - (x.ask - x.fetch)) else 0
  { s.setPort i { x with ask := x.ask + k } with
    ddr := (List.range k).foldl (fun d j =>
      d.read 19 (p.region 9 0 + 4096 * i.val + 4 * ((x.ask + j) % 1024)) 4 s.time.fclk (.audio i.val (x.ask + j))) s.ddr }

/-- Words that have come enter the buffer in the order of their slots. -/
def takeWords : Nat → APortState → APortState
  | 0, x => x
  | k + 1, x =>
    match x.got.find? (fun w => w.1 == x.fetch) with
    | none => x
    | some w => takeWords k { x with
      buffer := x.buffer ++ [(w.1 / 2, w.1 % 2, w.2)], fetch := x.fetch + 1, wrPtr := 1 - x.wrPtr
      got := x.got.filter (fun y => y.1 != w.1) }

/-- A word that an output port asked for has come (R235, R239, R429): a poisoned one is carried as 0, and one asked before a
restart is dropped. -/
def State.landWord (s : State) (port word : Nat) (poison : Bool) : State :=
  match finOf 32 port, s.running with
  | some i, some p =>
    let e := p.ports.getD port {}
    let x := vget s.audio.ports i
    if e.direction ≠ 2 ∨ word < x.fetch ∨ x.ask ≤ word then s
    else
      let v := if poison = true ∨ word / 2 < e.outDelay then 0
        else s.destSample p 1 (2 * port + word % 2) (word / 2 - e.outDelay)
      s.setPort i (takeWords (x.got.length + 1) { x with got := x.got ++ [(word, v)] })
  | _, _ => s

/-- An output port's frame n (R230, R235, R236, R239): 0 while it settles, else the next two words of its buffer. -/
def State.outputFrame (s : State) (p : Production) (e : APort) (framing : Nat) (i : Fin 32) (n : Nat) : State :=
  let x := (vget s.audio.ports i).begin_
  if 0 < x.settle then
    let y := { x with buffer := [], got := [], lastWord := 0, ask := 2 * n + 2, fetch := 2 * n + 2 }
    let s1 := { s with audio := { s.audio with
      ports := vset s.audio.ports i y, out := s.audio.out ++ [(i.val, 0, 0)] } }
    if x.settle = 1 then s1.askWords p i n else s1
  else
    let r := popWords 2 x
    let s1 := { s with audio := { s.audio with
      ports := vset s.audio.ports i (r.1.slip e true r.2.2)
      out := s.audio.out ++
        [(i.val, sampleSlot framing e.word (r.2.1.getD 0 0), sampleSlot framing e.word (r.2.1.getD 1 0))] } }
    (s1.askWords p i n).raiseAll (s.slipEv i true r.2.2)

/-- One port's frame, by its direction. -/
def State.portFrame (s : State) (p : Production) (framing n : Nat) (inputs : List PortIn) (i : Fin 32) : State :=
  let e := p.ports.getD i.val {}
  if e.direction = 1 then
    let w := ((inputs.find? (fun y => y.port == i)).map (fun y => (y.left, y.right))).getD (0, 0)
    s.inputFrame p e framing i n w
  else if e.direction = 2 then s.outputFrame p e framing i n
  else s

/-- A group's clocks run at a rate and framing (R229): ACLK / 32 or / 16; the left slot while word select is low under I²S,
high otherwise. -/
def AGroupState.clocked (g : AGroupState) (rate framing : Nat) : AGroupState :=
  { g with rate := rate, framing := framing, divider := if rate = 0 then 32 else 16, leftHigh := framing != 0 }

/-- The ports of a group (R228). -/
def groupPorts (g : Fin 4) : List (Fin 32) := (List.finRange 32).filter (fun i => i.val / 8 == g.val)

/-! ### Link channels -/

/-- The detector at a pair of link channels, when both samples of a frame stand (R237, R243). -/
def State.detectPair (s : State) (p : Production) (pair n : Nat) : State :=
  match s.audio.sample (64 + 2 * pair) n, s.audio.sample (65 + 2 * pair) n with
  | some x, some y =>
    let q := cget 0 s.audio.chanNonpcm pair
    if isPreamble x y then
      let s1 := { s with audio := { s.audio with chanNonpcm := cset 0 s.audio.chanNonpcm pair 1 } }
      if 0 < q then s1
      else State.raise { s1 with audio := s1.audio.holdPair p (32 + pair) n } (s.ev 821 0x0501 [(2, pair), (8, n)])
    else if 0 < q then { s with audio := { s.audio with chanNonpcm := cset 0 s.audio.chanNonpcm pair (q + 1) } }
    else s
  | _, _ => s

/-- AUDIO_LINK_LATE's counts of a channel move, and it is raised (R232, R243, R351). -/
def State.linkLate (s : State) (c zeroed discarded : Nat) : State :=
  let o := cget (0, 0) s.audio.late c
  let k := (satAdd 32 o.1 zeroed, satAdd 32 o.2 discarded)
  State.raise { s with audio := { s.audio with late := cset (0, 0) s.audio.late c k } }
    (s.ev 821 0x0505 [(2, c), (4, k.1), (4, k.2)])

/-- The routes of a link channel, with their places. -/
def Production.linkRoutes (p : Production) (c : Nat) : List (ARoute × Nat) :=
  p.routes.zipIdx.filter (fun y => y.1.srcKind == 1 && y.1.src == c)

/-- A tick lies before n / fs + lag, the lag in ns (R7, R232). -/
def linkOpen (fs lag n tick : Nat) : Bool := decide (5 * tick * fs < 4000000000 * n + 4 * lag * fs)

/-- The routes whose window for sample n has just closed without it (R232). -/
def State.linkShut (s : State) (p : Production) (rate c n : Nat) : List (ARoute × Nat) :=
  if (s.audio.sample (64 + c) n).isSome then []
  else (p.linkRoutes c).filter (fun y =>
    !linkOpen (audioFs rate) y.1.lag n s.time.tick && !cget false s.audio.zeroed (sampleKey y.2 n))

/-- Some route's window for sample n is open (R232). A channel without a route has the window of lag 0
(notes/assumptions/46). -/
def Production.linkTakes (p : Production) (rate c n tick : Nat) : Bool :=
  if p.linkRoutes c = [] then linkOpen (audioFs rate) 0 n tick
  else (p.linkRoutes c).any (fun y => linkOpen (audioFs rate) y.1.lag n tick)

/-- Sample n of a link channel has not come, and some window for it has closed (R232). -/
def State.linkDue (s : State) (p : Production) (rate c n : Nat) : Bool :=
  !(s.linkShut p rate c n).isEmpty || ((s.audio.sample (64 + c) n).isNone && !p.linkTakes rate c n s.time.tick)

/-- The routes whose window has closed take the value 0 for it, which is counted (R232); when no window is open, 0 is what the
channel carries, and the detector tests that frame (R237). Marks that no window can reach are dropped. -/
def State.closeLink (s : State) (p : Production) (rate c n : Nat) : State :=
  let shut := s.linkShut p rate c n
  let mark := fun (m : Cells Bool) (y : ARoute × Nat) =>
    cset false (m.filter (fun z => z.1 / 2 ^ 60 != y.2 || decide (n ≤ z.1 % 2 ^ 60 + 1048576))) (sampleKey y.2 n) true
  let s1 := if shut = [] then s
    else State.linkLate { s with audio := { s.audio with zeroed := shut.foldl mark s.audio.zeroed }.scan p (64 + c) n } c 1 0
  if (s.audio.sample (64 + c) n).isSome = true ∨ p.linkTakes rate c n s.time.tick = true
      ∨ sampleTick (audioFs rate) n + tickOf (p.chanLag c) + 800000 < s.time.tick then s1
  else State.detectPair { s1 with audio := (s1.audio.put (64 + c) n 0).scan p (64 + c) n } p (c / 2) n

/-- A link sample is placed by its index (R232), or discarded outside every window. -/
def State.linkSample (s : State) (p : Production) (rate c n : Nat) (x : Int) : State :=
  let s1 := s.closeLink p rate c n
  if (s.time.tick + 800000) * audioFs rate < n * 800000000 ∨ (s.audio.sample (64 + c) n).isSome = true
      ∨ p.linkTakes rate c n s.time.tick = false then
    s1.linkLate c 0 1
  else State.detectPair { s1 with audio := (s1.audio.put (64 + c) n x).scan p (64 + c) n } p (c / 2) n

/-- A link sample's bits [23:0] as two's complement (R351). -/
def linkWord (x : Int) : Int := portWord 24 x

/-- Whether every channel of an AUDIO message is declared on the link at its rate (R351). -/
def Production.takesAudio (p : Production) (link : Nat) (m : AudioMsg) : Bool :=
  (List.range m.channelCount).all (fun i =>
    p.channels.any (fun c => c.channel == m.firstChannel + i && c.link == link && c.rate == m.rate))

/-- The body of an AUDIO message (R351). -/
def audioBytes (m : AudioMsg) : List Byte :=
  leBytes 2 m.firstChannel ++ leBytes 1 m.channelCount ++ leBytes 1 m.rate ++ leBytes 4 0 ++ leBytes 8 m.index
    ++ m.frames.flatMap (fun f => (List.range m.channelCount).flatMap (fun i => leInt 4 (f.getD i 0)))

end Sys2Proof.Machine
end

