-- ==== Sys2Proof/Machine/CmdTable.lean ====
section
/-! DEFINITION. What the command tables say of every mailbox opcode: its number, the mailboxes it is allowed on, the minor
that adds it, its payload lengths, whether it runs without a session, and its largest result (R472, R476, R477, R484,
and the table of each chapter). -/

namespace Sys2Proof.Machine.Cmd

/-- The row of HELLO. -/
def hello : Spec := { opcode := 0x0001, allowed := on0, len := exactly 8, noSess := true, maxRes := 16 }

/-- The row of GOODBYE. -/
def goodbye : Spec := { opcode := 0x0002, allowed := on0, len := exactly 0 }

/-- The row of MB_CONFIG. -/
def mbConfig : Spec := { opcode := 0x0003, allowed := on0, minor := 2, len := exactly 8 }

/-- The row of ECHO; its payload is its data. -/
def echo (data : List Byte) : Spec :=
  { opcode := 0x0004, allowed := onG, len := fun l => decide (l ≤ 224) && decide (l = data.length)
    noSess := true, maxRes := 224 }

/-- The row of IDENTIFY. -/
def identify : Spec := { opcode := 0x0101, allowed := onG, len := exactly 0, noSess := true, maxRes := 62 }

/-- The row of CERT_READ. -/
def certRead : Spec := { opcode := 0x0102, allowed := onG, len := exactly 8 }

/-- The row of ATTEST. -/
def attest : Spec := { opcode := 0x0103, allowed := onG, len := exactly 36, maxRes := 160 }

/-- The row of OWNER_KEY_LOAD. -/
def ownerKeyLoad : Spec := { opcode := 0x0104, allowed := onG, len := exactly 8 }

/-- The row of DEBUG_TOKEN. -/
def debugToken : Spec := { opcode := 0x0105, allowed := on7, len := exactly 8 }

/-- The row of FUSE_PROGRAM. -/
def fuseProgram : Spec := { opcode := 0x0106, allowed := on7, len := exactly 8 }

/-- The row of PRODUCTION_LOAD. -/
def productionLoad : Spec := { opcode := 0x0201, allowed := onG, len := exactly 12 }

/-- The row of PRODUCTION_CHECK. -/
def productionCheck : Spec := { opcode := 0x0202, allowed := onG, len := exactly 0, maxRes := 32 }

/-- The row of PRODUCTION_CUE. -/
def productionCue : Spec := { opcode := 0x0203, allowed := onG, len := exactly 8, maxRes := 32 }

/-- The row of PRODUCTION_ABORT. -/
def productionAbort : Spec := { opcode := 0x0204, allowed := onG, len := exactly 0 }

/-- The row of PRODUCTION_STATUS. -/
def productionStatus : Spec := { opcode := 0x0205, allowed := onG, len := exactly 0, maxRes := 64 }

/-- The row of CONTEXT_RATE_SET. -/
def contextRateSet : Spec := { opcode := 0x0301, allowed := onG, len := exactly 8 }

/-- The row of CONTEXT_QP_LIMITS_SET. -/
def contextQpLimitsSet : Spec := { opcode := 0x0302, allowed := onG, len := exactly 4 }

/-- The row of LAYER_GEOMETRY_SET. -/
def layerGeometrySet : Spec := { opcode := 0x0401, allowed := onG, len := exactly 20 }

/-- The row of LAYER_OPACITY_SET. -/
def layerOpacitySet : Spec := { opcode := 0x0402, allowed := onG, len := exactly 6 }

/-- The row of GRAPHIC_COMMIT. -/
def graphicCommit : Spec := { opcode := 0x0403, allowed := onG, len := exactly 2 }

/-- The row of LAYER_STATUS. -/
def layerStatus : Spec := { opcode := 0x0404, allowed := onG, len := exactly 2, maxRes := 192 }

/-- The row of CURTAIN_STAGE; its payload is the offset and the data. -/
def curtainStage (data : List Byte) : Spec :=
  { opcode := 0x0440, allowed := on6
    len := fun l => decide (l = 8 + data.length) && decide (1 ≤ data.length) && decide (data.length ≤ 232) }

/-- The row of CURTAIN_INSTALL. -/
def curtainInstall : Spec := { opcode := 0x0441, allowed := on6, len := exactly 0 }

/-- The row of CURTAIN_DROP. -/
def curtainDrop : Spec := { opcode := 0x0442, allowed := on6, len := exactly 424 }

/-- The row of CURTAIN_RAISE. -/
def curtainRaise : Spec := { opcode := 0x0443, allowed := on6, len := exactly 424 }

/-- The row of CURTAIN_STATUS. -/
def curtainStatus : Spec := { opcode := 0x0444, allowed := on6, len := exactly 0, maxRes := 56 }

/-- The row of AUDIO_GAIN_SET. -/
def audioGainSet : Spec := { opcode := 0x0501, allowed := onG, len := exactly 4 }

/-- The row of AUDIO_MUTE_SET. -/
def audioMuteSet : Spec := { opcode := 0x0502, allowed := onG, len := exactly 4 }

/-- The row of AUDIO_PORT_RESTART. -/
def audioPortRestart : Spec := { opcode := 0x0503, allowed := onG, len := exactly 4 }

/-- The row of AUDIO_STATUS. -/
def audioStatus : Spec := { opcode := 0x0504, allowed := onG, len := exactly 4 }

/-- The row of EGRESS_SHAPER_SET. -/
def egressShaperSet : Spec := { opcode := 0x0601, allowed := onG, len := exactly 8 }

/-- The row of LINK_STATUS. -/
def linkStatus : Spec := { opcode := 0x0701, allowed := onG, len := exactly 1, maxRes := 64 }

/-- The row of LINK_RETRAIN. -/
def linkRetrain : Spec := { opcode := 0x0702, allowed := onG, len := exactly 2 }

/-- The row of LINK_TX_SET. -/
def linkTxSet : Spec := { opcode := 0x0703, allowed := onG, len := exactly 5 }

/-- The row of LINK_GUARD_SET. -/
def linkGuardSet : Spec := { opcode := 0x0704, allowed := onG, len := exactly 6 }

/-- The row of EYE_SCAN. -/
def eyeScan : Spec := { opcode := 0x0705, allowed := on7, len := exactly 8, maxRes := 4 }

/-- The row of PATTERN_START. -/
def patternStart : Spec := { opcode := 0x0706, allowed := on7, len := exactly 12 }

/-- The row of PATTERN_READ. -/
def patternRead : Spec := { opcode := 0x0707, allowed := on7, len := exactly 1, maxRes := 96 }

/-- The row of PATTERN_INJECT. -/
def patternInject : Spec := { opcode := 0x0708, allowed := on7, len := exactly 4 }

/-- The row of PATTERN_STOP. -/
def patternStop : Spec := { opcode := 0x0709, allowed := on7, len := exactly 1 }

/-- The row of LINK_PROTOCOL. -/
def linkProtocol : Spec := { opcode := 0x070A, allowed := onG, minor := 1, len := exactly 1, maxRes := 64 }

/-- The row of CLOCK_STATUS. -/
def clockStatus : Spec := { opcode := 0x0801, allowed := onG, len := exactly 0, maxRes := 64 }

/-- The row of CANDIDATE_STATUS. -/
def candidateStatus : Spec := { opcode := 0x0802, allowed := onG, len := exactly 2, maxRes := 224 }

/-- The row of CANDIDATE_SET. -/
def candidateSet : Spec := { opcode := 0x0803, allowed := onG, len := exactly 16 }

/-- The row of DPLL_SET. -/
def dpllSet : Spec := { opcode := 0x0804, allowed := onG, len := exactly 36 }

/-- The row of DPLL_SOFTWARE. -/
def dpllSoftware : Spec := { opcode := 0x0805, allowed := onG, len := exactly 8 }

/-- The row of DPLL_NUDGE. -/
def dpllNudge : Spec := { opcode := 0x0806, allowed := onG, len := exactly 4 }

/-- The row of DPLL_CLOSE. -/
def dpllClose : Spec := { opcode := 0x0807, allowed := onG, len := exactly 0 }

/-- The row of CLOCK_HISTORY_CLEAR. -/
def clockHistoryClear : Spec := { opcode := 0x0808, allowed := onG, len := exactly 4 }

/-- The row of HOUSE_TIME_STATUS. -/
def houseTimeStatus : Spec := { opcode := 0x0809, allowed := onG, len := exactly 0, maxRes := 32 }

/-- The row of HOUSE_TIME_SET. -/
def houseTimeSet : Spec := { opcode := 0x080A, allowed := onG, len := exactly 16 }

/-- The row of HOUSE_TIME_ALARM_SET. -/
def houseTimeAlarmSet : Spec := { opcode := 0x080B, allowed := onG, minor := 1, len := exactly 4 }

/-- The row of DDR_STATUS. -/
def ddrStatus : Spec := { opcode := 0x0901, allowed := onG, len := exactly 0, maxRes := 64 }

/-- The row of DDR_SUBCHANNEL_STATUS. -/
def ddrSubchannelStatus : Spec := { opcode := 0x0902, allowed := onG, len := exactly 2, maxRes := 768 }

/-- The row of DDR_PORT_STATUS. -/
def ddrPortStatus : Spec := { opcode := 0x0903, allowed := onG, len := exactly 2, maxRes := 704 }

/-- The row of DDR_ERROR_LOG. -/
def ddrErrorLog : Spec := { opcode := 0x0904, allowed := onG, len := exactly 4, maxRes := 3080 }

/-- The row of DDR_MARK. -/
def ddrMark : Spec := { opcode := 0x0905, allowed := onG, len := exactly 4 }

/-- The row of DDR_SCRUB_SET. -/
def ddrScrubSet : Spec := { opcode := 0x0906, allowed := onG, len := exactly 4 }

/-- The row of DDR_CHECKS_ENABLE. -/
def ddrChecksEnable : Spec := { opcode := 0x0907, allowed := onG, minor := 1, len := exactly 4 }

/-- The row of TWIN_STATUS. -/
def twinStatus : Spec := { opcode := 0x0A01, allowed := onG, len := exactly 0, maxRes := 56 }

/-- The row of TWIN_PAIR. -/
def twinPair : Spec := { opcode := 0x0A02, allowed := onG, len := exactly 32 }

/-- The row of TWIN_UNPAIR. -/
def twinUnpair : Spec := { opcode := 0x0A03, allowed := onG, len := exactly 0 }

/-- The row of ENGINE_STATUS. -/
def engineStatus : Spec := { opcode := 0x0B01, allowed := onG, len := exactly 2, maxRes := 1024 }

/-- The row of QUEUE_STATUS. -/
def queueStatus : Spec := { opcode := 0x0B02, allowed := onG, len := exactly 4, maxRes := 4032 }

/-- The row of CONTEXT_STATUS. -/
def contextStatus : Spec := { opcode := 0x0B03, allowed := onG, len := exactly 2, maxRes := 64 }

/-- The row of TELEMETRY. -/
def telemetry : Spec := { opcode := 0x0B04, allowed := onG, minor := 2, len := exactly 0 }

/-- The row of EVENT_MASK_SET. -/
def eventMaskSet : Spec := { opcode := 0x0B10, allowed := onG, len := exactly 8 }

/-- The row of EVENT_SOURCE_STATUS. -/
def eventSourceStatus : Spec := { opcode := 0x0B11, allowed := onG, len := exactly 4, maxRes := 4040 }

/-- The row of CUE_CONFIG. -/
def cueConfig : Spec := { opcode := 0x0B20, allowed := onG, len := exactly 12 }

/-- The row of CUE_OUTPUT. -/
def cueOutput : Spec := { opcode := 0x0B21, allowed := onG, len := exactly 40 }

/-- The row of CUE_STATUS. -/
def cueStatus : Spec := { opcode := 0x0B22, allowed := onG, len := exactly 4, maxRes := 256 }

/-- The row of CU_CONFIG. -/
def cuConfig : Spec := { opcode := 0x0C01, allowed := onG, len := exactly 4 }

/-- The payload length of CU_FEED: the fields, and the data of an inline feed. -/
def feedLen (source length : Nat) (l : Nat) : Bool := l == 12 + (if source = 0 then length else 0)

/-- The row of CU_FEED. -/
def cuFeed (source length : Nat) : Spec := { opcode := 0x0C02, allowed := onG, len := feedLen source length }

/-- The row of CU_READ. -/
def cuRead : Spec := { opcode := 0x0C03, allowed := onG, len := exactly 4 }

/-- The row of CU_WRITE. -/
def cuWrite : Spec := { opcode := 0x0C04, allowed := onG, len := exactly 8 }

/-- The row of SELFTEST_REPORT. -/
def selftestReport : Spec := { opcode := 0x0D01, allowed := on7, len := exactly 0, maxRes := 864 }

end Sys2Proof.Machine.Cmd
end

