-- ==== Sys2Proof/Machine/Audio.lean ====
section
/-! DEFINITION. The commands of audio (08): frames, link samples, changes, restarts and the host's commands. -/

namespace Sys2Proof.Machine

/-- AUDIO_FRAME (R228 to R231, R235 to R237, R239 to R241, R248): the frame start edge of the next sample index of a
group whose clocks run. `inputs` are the slots that its input ports shift in during the frame. At a boundary where rate
or framing change, the new clocks begin. -/
def execAudioFrame (group : Fin 4) (inputs : List PortIn) (s : State) : Host.Outcome State Fault Refusal :=
  .next (
    let g := vget s.audio.groups group
    let n := g.index + 1
    match s.running with
    | none => s
    | some p =>
      if s.up = false ∨ g.running = false ∨ onSampleEdge (audioFs g.rate) n s.time.tick = false then s
      else
        match g.next with
        | some (rate, framing) =>
          let g1 := { g.clocked rate framing with next := none, index := sampleAt (audioFs rate) s.time.tick }
          { s with audio := { s.audio with groups := vset s.audio.groups group g1 } }
        | none =>
          let s1 := { s with audio := { s.audio with
            groups := vset s.audio.groups group { g with index := n, stopAt := g.stopAt.map (· - 1) }
            out := s.audio.out.filter (fun y => y.1 / 8 != group.val) } }
          let s2 := s1.audioTasks p
          if (p.groups.getD group.val {}).enable = 0 then s2
          else (groupPorts group).foldl (fun (t : State) i => t.portFrame p g.framing n inputs i) s2)

/-- An AUDIO message that is not whole frames (R351): the row spells its header and its whole frames. -/
def State.brokenAudio (s : State) (link : Fin 12) (m : AudioMsg) : Bool :=
  let b := (s.headMsg link 3).body
  let own := audioBytes m
  (m.frames.isEmpty && s.hasShort link 3 0x30 own (reserved [(4, 4)]))
    || ((s.headMsg link 3).type == 0x30 && decide (own.length < b.length)
        && decide (m.channelCount = 0 ∨ b.length < own.length + 4 * m.channelCount)
        && sayAlike (reserved [(4, 4)]) (slice b 0 own.length) own)

/-- An AUDIO message at its delivery (R232, R326, R351): each sample is placed by its index; one that names channels that are not
declared so, or does not hold whole frames, is discarded and counted. -/
def State.audioComes (s : State) (link : Fin 12) (m : AudioMsg) (broken : Bool) : State :=
  let discard := s.linkLate m.firstChannel 0 (max 1 (m.frames.length * m.channelCount))
  if s.up = false then s
  else
    match s.running with
    | none => discard
    | some p =>
      if broken = true ∨ m.channelCount < 1 ∨ 64 < m.channelCount ∨ p.takesAudio link.val m = false then discard
      else
        (m.frames.zipIdx.foldl (fun (t : State) f => (List.range m.channelCount).foldl (fun (t : State) i =>
          t.linkSample p m.rate (m.firstChannel + i) (m.index + f.2) (linkWord (f.1.getD i 0))) t) s).audioTasks p

/-- AUDIO (R232, R237, R351), as at its delivery. -/
def execAudio (link : Fin 12) (m : AudioMsg) (s : State) : Host.Outcome State Fault Refusal :=
  .next (
    let whole := s.hasMsg link 3 0x30 (audioBytes m) (reserved [(4, 4)])
    if whole || s.brokenAudio link m then
      (s.atDelivery link 3 (fun t => t.audioComes link m (!whole))).popInbox link 3
    else s)

/-- LINK_SAMPLE_WINDOW_CLOSE (R232): a sample that has not come takes the value 0 in the routes whose window has closed;
when every window has, that is the channel's sample. -/
def execLinkSampleWindowClose (channel : Nat) (index : Nat) (s : State) : Host.Outcome State Fault Refusal :=
  .next (
    match s.running.bind (fun p => (p.channels.find? (fun c => c.channel == channel)).map (fun c => (p, c))) with
    | none => s
    | some (p, c) =>
      let last := sampleTick (audioFs c.rate) index + tickOf (p.chanLag channel)
      if s.up = false ∨ last + 800000 < s.time.tick ∨ s.linkDue p c.rate channel index = false then s
      else (s.closeLink p c.rate channel index).audioTasks p)

/-- AUDIO_PCM_RESUMED (R237, R243): 8,192 frames without a preamble. -/
def execAudioPcmResumed (link : Bool) (pair : Nat) (s : State) : Host.Outcome State Fault Refusal :=
  .next (
    match s.running with
    | none => s
    | some p =>
      if link then
        if cget 0 s.audio.chanNonpcm pair < 8193 then s
        else
          let a := { s.audio with chanNonpcm := cset 0 s.audio.chanNonpcm pair 0 }
          let rate := ((p.channels.find? (fun c => c.channel == 2 * pair)).getD {}).rate
          State.raise { s with audio := a.releasePair p (32 + pair) s.time.tick }
            (s.ev 821 0x0502 [(2, pair), (8, sampleAt (audioFs rate) s.time.tick)])
      else
        match finOf 32 pair with
        | none => s
        | some i =>
          let x := vget s.audio.ports i
          if x.nonpcm = false ∨ x.quiet < 8192 then s
          else
            let a := { s.audio with ports := vset s.audio.ports i { x with nonpcm := false, quiet := 0 } }
            State.raise { s with audio := a.releasePair p pair s.time.tick }
              (s.ev (676 + i.val) 0x0502 [(2, pair), (8, (s.audio.groups.toList.getD (pair / 8) {}).index)]))

/-- A route that stands in the running production, with its entry. -/
def State.routeAt (s : State) (route : Nat) : Option (Production × ARoute) :=
  s.running.bind (fun p => (p.routes[route]?).map (fun r => (p, r)))

/-- AUDIO_CHANGE_APPLY (R238): the change takes effect at the sample of its zero crossing. -/
def execAudioChangeApply (route : Nat) (s : State) : Host.Outcome State Fault Refusal :=
  .next (
    match s.routeAt route with
    | none => s
    | some (_, r) =>
      let x := cget {} s.audio.routes route
      match x.crossing with
      | none => s
      | some n => { s with audio := { s.audio with
          routes := cset {} s.audio.routes route (x.apply (s.audio.muted r.chan) n) } })

/-- AUDIO_CHANGE_TIMEOUT (R238, R243): no crossing within 5 ms, so the change applies at the first frame at or after the
close. A link source's samples are complete its lag later. -/
def execAudioChangeTimeout (route : Nat) (s : State) : Host.Outcome State Fault Refusal :=
  .next (
    match s.routeAt route with
    | none => s
    | some (p, r) =>
      let x := cget {} s.audio.routes route
      let lag := if r.srcKind = 1 then tickOf r.lag else 0
      let fs := audioFs (p.srcRate r)
      let n := ceilDiv (x.close * fs) 800000000
      if x.pending.isNone ∨ x.crossing.isSome ∨ s.time.tick < sampleTick fs n + lag then s
      else
        State.raise { s with audio := { s.audio with
            routes := cset {} s.audio.routes route (x.apply (s.audio.muted r.chan) n) } }
          (s.ev (if r.srcKind = 0 then 676 + r.src / 2 else 821) 0x0506 [(2, route), (8, n)]))

/-- AUDIO_RESTARTED (R236, R239, R243): the settling frames have ended and data resumes with the next frame. A start of
the group's clocks raises no event. -/
def execAudioRestarted (port : Fin 32) (s : State) : Host.Outcome State Fault Refusal :=
  .next (
    let x := vget s.audio.ports port
    if x.settle ≠ 1 then s
    else
      let n := (s.audio.groups.toList.getD (port.val / 8) {}).index + 1
      let s1 := s.setPort port { x with settle := 0, cause := none }
      match x.cause with
      | some c => s1.raise (s.ev (676 + port.val) 0x0504 [(1, c), (8, n)])
      | none => s1)

/-- AUDIO_CLOCK_STOP (R236): 256 frames after the last port stopped, bit clock and word select stop low. -/
def execAudioClockStop (group : Fin 4) (s : State) : Host.Outcome State Fault Refusal :=
  .next (
    let g := vget s.audio.groups group
    if g.stopAt ≠ some 0 then s
    else { s with audio := { s.audio with groups := vset s.audio.groups group {} } })

/-! ### Host commands -/

/-- A change of a route is accepted, or the route is not in the running production (R238). -/
def State.changeRoute (s : State) (route : Nat) (g : Option Nat) (m : Option Bool) : State × Reply :=
  match s.routeAt route with
  | none => (s, .refuse 0x0501 [])
  | some (p, e) => ({ s with audio := s.audio.askRoute p route e g m s.time.tick }, .accept [] true)

/-- AUDIO_GAIN_SET (R238). -/
def execAudioGainSet (h : Hdr) (route gain : Nat) (s : State) : Host.Outcome State Fault Refusal :=
  .next (runCmd Cmd.audioGainSet h
    (fun s => s.changeRoute route (some gain) none) s)

/-- AUDIO_MUTE_SET (R238). -/
def execAudioMuteSet (h : Hdr) (route mute : Nat) (s : State) : Host.Outcome State Fault Refusal :=
  .next (runCmd Cmd.audioMuteSet h
    (fun s => s.changeRoute route none (some (mute != 0))) s)

/-- A port that the running production sets as input or output. -/
def State.usedPort (s : State) (port : Nat) : Option (Fin 32 × APort) :=
  (finOf 32 port).bind (fun i => (s.running.bind (fun p => p.ports[port]?)).bind (fun e =>
    if e.direction = 1 ∨ e.direction = 2 then some (i, e) else none))

/-- AUDIO_PORT_RESTART (R239). -/
def execAudioPortRestart (h : Hdr) (port : Nat) (s : State) : Host.Outcome State Fault Refusal :=
  .next (runCmd Cmd.audioPortRestart h (fun s =>
    match s.usedPort port with
    | none => (s, .refuse 0x0502 [])
    | some (i, e) => (s.restartPort e i 0, .accept [] true)) s)

/-- A port's status. -/
def portBytes (e : APort) (x : APortState) : List Byte :=
  leBytes 1 e.direction ++ leBytes 1 (boolNat x.risk + 2 * boolNat x.nonpcm) ++ [0, 0] ++ leBytes 4 x.overruns
    ++ leBytes 4 x.underruns ++ leBytes 4 x.restarts

/-- AUDIO_STATUS (R239). -/
def execAudioStatus (h : Hdr) (port : Nat) (s : State) : Host.Outcome State Fault Refusal :=
  .next (runCmd Cmd.audioStatus h (fun s =>
    match s.usedPort port with
    | none => (s, .refuse 0x0502 [])
    | some (i, e) => (s, ok (portBytes e (vget s.audio.ports i)))) s)

end Sys2Proof.Machine
end

