-- ==== Sys2Proof/Machine/Checks.lean ====
section
/-! DEFINITION. The families of check-value units (R534 to R539), of the test port (R540 to R542), of the self-test report
(R543, R544) and of the monitors (R579 to R581). -/

namespace Sys2Proof.Machine

/-! ### Check-value units -/

/-- A command on a unit: a number above 15 is refused with CU_NUMBER (R536). -/
def withUnit (unit : Nat) (body : Fin 16 → State → State × Reply) (s : State) : State × Reply :=
  match finOf 16 unit with
  | none => (s, .refuse 0x0C01 [])
  | some u => body u s

/-- A change of one unit. -/
def State.setCu (s : State) (u : Fin 16) (c : CheckUnit) : State := { s with cu := vset s.cu u c }

/-- A double-bit error in a unit's running value: FAULT, with CU_FAULT (R538, R539). -/
def State.cuFault (s : State) (u : Fin 16) : State :=
  let c := vget s.cu u
  (s.setCu u { c with fault := true }).raise (s.ev (740 + u) 0x0C10 [(2, u.val), (1, c.poly), (4, c.fed)])

/-- CU_CONFIG (R536, R538). -/
def execCuConfig (h : Hdr) (unit polynomial : Nat) (s : State) : Host.Outcome State Fault Refusal :=
  .next (runCmd Cmd.cuConfig h
    (withUnit unit (fun u s =>
      if 5 < polynomial then (s, .refuse 0x0C02 [])
      else (s.setCu u { poly := polynomial, r := BitVec.ofNat 32 (crcParam polynomial).init }, ok []))) s)

/-- The bytes that a CU_FEED names, or its refusal (R466, R536). -/
def feedBytes (s : State) (source length bulkOffset : Nat) (data : List Byte) : Except Nat (List Byte) :=
  if source = 0 then (if length = 0 ∨ 228 < length then .error 0x0C02 else .ok (slice data 0 length))
  else if source = 1 then
    (if length = 0 ∨ 262144 < length then .error 0x0C02
     else match s.bulk bulkOffset length with
       | none => .error 0x0006
       | some bs => .ok bs)
  else .error 0x0C02

/-- CU_FEED (R535 to R538); `eccBad` is a double-bit error met in the running value. -/
def execCuFeed (h : Hdr) (unit source length bulkOffset : Nat) (data : List Byte) (eccBad : Bool) (s : State) :
    Host.Outcome State Fault Refusal :=
  .next (runCmd (Cmd.cuFeed source length) h
    (withUnit unit (fun u s =>
      let c := vget s.cu u
      match feedBytes s source length bulkOffset data with
      | .error st => (s, .refuse st [])
      | .ok bs =>
        if c.fault then (s, .refuse 0x0C02 [])
        else if eccBad then (s.cuFault u, .refuse 0x0C02 [])
        else
          (s.setCu u { c with r := BitVec.ofNat 32 (crcFeed (crcParam c.poly) c.r.toNat bs)
                              fed := satAdd 32 c.fed bs.length }, ok []))) s)

/-- CU_READ (R535, R536, R538). -/
def execCuRead (h : Hdr) (unit : Nat) (eccBad : Bool) (s : State) : Host.Outcome State Fault Refusal :=
  .next (runCmd Cmd.cuRead h
    (withUnit unit (fun u s =>
      let c := vget s.cu u
      if c.fault then (s, .refuse 0x0C02 [])
      else if eccBad then (s.cuFault u, .refuse 0x0C02 [])
      else (s, ok (leBytes 4 c.r.toNat ++ leBytes 4 (c.r.toNat ^^^ (crcParam c.poly).xorOut))))) s)

/-- CU_WRITE (R5, R536, R538): bits above the width are ignored. -/
def execCuWrite (h : Hdr) (unit : Nat) (value : U32) (s : State) : Host.Outcome State Fault Refusal :=
  .next (runCmd Cmd.cuWrite h
    (withUnit unit (fun u s =>
      let c := vget s.cu u
      (s.setCu u { c with r := BitVec.ofNat 32 (value.toNat % 2 ^ (crcParam c.poly).width), fault := false, fed := 0 },
        ok []))) s)

/-! ### Self-test report -/

/-- The memories of R544, in id order. -/
def sramIds : List Nat :=
  [0x0000, 0x0100, 0x0200, 0x0300] ++ (List.range 10).flatMap (fun m => (List.range 16).map (fun e => 0x1000 + 0x100 * m + e))
    ++ (List.range 16).map (0x2000 + ·) ++ (List.range 16).map (0x2100 + ·) ++ (List.range 12).map (0x3000 + ·)

/-- One entry of the report: only Prompter SRAM is tested in a warm boot (R543). -/
def Report.entry (r : Report) (id : Nat) : List Byte :=
  let words := ((r.fails.find? (fun f => f.id == id)).map (·.words)).getD 0
  let result := if r.kind = 1 ∧ id ≠ 0 then 0 else if words = 0 then 1 else 2
  leBytes 2 id ++ leBytes 1 result ++ leBytes 1 (if result = 2 then min 255 words else 0)

/-- The self-test report (R544). -/
def Report.bytes (r : Report) : List Byte :=
  [0x4D, 0x55, 0x53, 0x54] ++ leBytes 1 r.kind ++ leBytes 1 (min 208 r.fails.length) ++ leBytes 2 208
    ++ leBytes 4 r.duration ++ leBytes 4 r.cause ++ List.replicate 16 0 ++ sramIds.flatMap r.entry

/-- SELFTEST_REPORT (R544). -/
def execSelftestReport (h : Hdr) (s : State) : Host.Outcome State Fault Refusal :=
  .next (runCmd Cmd.selftestReport h
    (fun s => (s, ok (s.boot.report.getD ⟨0, [], 0, 0⟩).bytes)) s)

/-! ### The test port -/

/-- The identification register: version 0x2, part 0x4816, manufacturer 0x615, and 1 (R540). -/
def idcodeValue : Nat := 0x24816C2B

/-- The data register that an instruction selects (R540). -/
def TapInstr.register : TapInstr → TapReg
  | .idcode => .identification
  | .samplePreload | .extest | .extestPulse | .extestTrain => .boundary
  | .highz | .clamp | .bypass => .bypass

/-- The boundary instructions are open: a BOUNDARY token, or a test boot (R529, R545). -/
def State.tapOpen (s : State) : Bool := s.sec.boundary || (s.boot.bootsel == 7 && s.boot.state == 2)

/-- An instruction that executes while the port is locked (R529, R540). -/
def TapInstr.whileLocked : TapInstr → Bool
  | .idcode | .samplePreload | .bypass => true
  | _ => false

/-- A link under test goes down (R541, R306). -/
def State.linkUnderTest (s : State) (i : Fin 12) : State :=
  let l := vget s.links i
  let s1 := s.abortEye i
  (s1.setLink i { vget s1.links i with state := 0, ckLock := false, since := s.time.fclk, test := none, txc := l.txc.idle }).raiseAll
    (evIf (decide (l.state = 8 ∨ l.state = 9)) (s.ev (632 + i) 0x0711 [(1, 0)]))

/-- A link runs a full training after the port leaves a test instruction (R541); an unused one stays untrained (R338). -/
def State.linkAfterTest (s : State) (i : Fin 12) : State :=
  let l := vget s.links i
  if l.role = 0 then s else s.setLink i (l.fullTraining s.time.fclk)

/-- An instruction is selected; a locked one selects BYPASS (R529, R540 to R542). -/
def State.tapSelect (s : State) (want : TapInstr) : State :=
  let i := if s.tapOpen || want.whileLocked then want else .bypass
  let tap := { s.tap with ir := i }
  let s1 := { s with tap := { tap with underTest := tap.drives } }
  if tap.drives && !s.tap.underTest then (List.finRange 12).foldl State.linkUnderTest s1
  else if s.tap.underTest && !tap.drives then (List.finRange 12).foldl State.linkAfterTest s1
  else s1

/-- TEST_LOGIC_RESET (R529, R540). -/
def execTestLogicReset (s : State) : Host.Outcome State Fault Refusal := .next (s.tapSelect .idcode)

/-- IDCODE (R1, R540). -/
def execIdcode (s : State) : Host.Outcome State Fault Refusal := .next (s.tapSelect .idcode)

/-- SAMPLE/PRELOAD (R540, R541): the boundary register's update stage is loaded; no output is driven. -/
def execSamplePreload (data : List Bool) (s : State) : Host.Outcome State Fault Refusal :=
  let s1 := s.tapSelect .samplePreload
  .next { s1 with tap := { s1.tap with preload := data } }

/-- EXTEST (R541, R542). -/
def execExtest (s : State) : Host.Outcome State Fault Refusal := .next (s.tapSelect .extest)

/-- HIGHZ (R542). -/
def execHighz (s : State) : Host.Outcome State Fault Refusal := .next (s.tapSelect .highz)

/-- CLAMP (R542). -/
def execClamp (s : State) : Host.Outcome State Fault Refusal := .next (s.tapSelect .clamp)

/-- EXTEST_PULSE (R541, R542). -/
def execExtestPulse (s : State) : Host.Outcome State Fault Refusal := .next (s.tapSelect .extestPulse)

/-- EXTEST_TRAIN (R541, R542). -/
def execExtestTrain (s : State) : Host.Outcome State Fault Refusal := .next (s.tapSelect .extestTrain)

/-- BYPASS (R529, R540). -/
def execBypass (s : State) : Host.Outcome State Fault Refusal := .next (s.tapSelect .bypass)

/-! ### Monitors -/

/-- THERMAL_SAMPLE (R579, R580), in 1/16 °C: THERM_N works through every reset; firmware raises the events. -/
def execThermalSample (sensor : Fin 4) (reading : Int) (s : State) : Host.Outcome State Fault Refusal :=
  let m := s.mon
  let temp := vset m.temp sensor reading
  let was := vget m.warned sensor
  let warn := !was && decide (2400 ≤ reading)
  let normal := was && decide (reading < 2320)
  let trip := temp.toList.any (fun t => decide (2528 ≤ t))
  let cool := temp.toList.all (fun t => decide (t < 2400))
  let m1 := { m with temp := temp, warned := vset m.warned sensor (if s.up then (was || warn) && !normal else was)
                     tripped := trip || (m.tripped && !cool) }
  .next (State.raiseAll { s with mon := m1 }
    (if s.up then
      evIf warn (s.ev (790 + sensor) 0x0C90 [(2, reading)]) ++ evIf normal (s.ev (790 + sensor) 0x0C91 [(2, reading)])
        ++ evIf (m1.tripped && !m.tripped) (s.ev (790 + sensor) 0x0C92 [(2, reading)])
    else []))

/-- A reading outside its monitor's range (R581): VDD_CORE outside its target, VDD_FUSE above 0.3 V. -/
def State.supplyBad (s : State) (monitor : Fin 2) (mV : Nat) : Bool :=
  if monitor = 0 then !inTarget s.boot.vcoreCode mV else decide (300 < mV)

/-- SUPPLY_SAMPLE (R441, R442, R459, R581). -/
def execSupplySample (monitor : Fin 2) (mV : Nat) (s : State) : Host.Outcome State Fault Refusal :=
  let m := s.mon
  let bad := s.supplyBad monitor mV
  let was := vget m.alarm monitor
  let m1 := { m with supply := vset m.supply monitor mV, alarm := vset m.alarm monitor (if s.up then bad else was) }
  let boot := if monitor = 0 then { s.boot with vcoreOk := inTarget s.boot.vcoreCode mV } else s.boot
  .next (
    if s.up then
      (State.raiseAll { s with mon := m1, boot := boot }
        (evIf (bad && !was) (s.ev (794 + monitor) 0x0C98 [(2, mV)]) ++ evIf (!bad && was) (s.ev (794 + monitor) 0x0C99 [(2, mV)]))).review
    else { s with mon := m1, boot := boot })

/-- TELEMETRY (R579), added by minor 2 (R476). -/
def execTelemetry (h : Hdr) (s : State) : Host.Outcome State Fault Refusal :=
  .next (runCmd Cmd.telemetry h
    (fun s => (s, ok (s.mon.temp.toList.flatMap (leInt 2) ++ s.mon.supply.toList.flatMap (leBytes 2) ++ [0, 0, 0, 0]))) s)

end Sys2Proof.Machine
end

