-- ==== Sys2Proof/Machine/HostOps.lean ====
section
/-! DEFINITION. The host address space (R462 to R470): what a word reads as, and what writing one does. Every route to the
space goes through these two operations (R345, R462). -/

namespace Sys2Proof.Machine

/-- An address of the host space is mapped (R462). -/
def mapped (a : Nat) : Bool := decide (a < 0x10000) || (decide (0x100000 ≤ a) && decide (a < 0x200000))

/-- Mailbox n of the window's register group (R465). -/
def State.mbAt (s : State) (n : Nat) : Mailbox := (s.host.mbs.toList.drop n).headD {}

/-- A mailbox register's value (R465, R467). -/
def State.mbWord (s : State) (n r : Nat) : Nat :=
  let m := s.mbAt n
  match r with
  | 0x00 => 0x100000 + cmdBase s.host.mbs n
  | 0x04 => 0x100000 + cplBase s.host.mbs n
  | 0x08 => m.depth
  | 0x0C => m.cmdWr.toNat
  | 0x10 => m.cmdRd.toNat
  | 0x14 => m.cplWr.toNat
  | 0x18 => m.cplRd.toNat
  | 0x1C => m.ctrl
  | _ => 0

/-- A host-window register's value (R465); an offset that is not named reads 0 (R462). -/
def State.windowWord (s : State) (a : Nat) : Nat :=
  match a with
  | 0x0000 => 0x4816
  | 0x0004 => 1
  | 0x0008 => 0x24816C2B
  | 0x000C => 0x0100
  | 0x0010 => s.boot.status
  | 0x0014 => s.boot.vcoreCode
  | 0x0018 => s.boot.loadReg
  | 0x001C => s.boot.fw.version
  | 0x0020 => 0x0102 + 0x10000 * (match s.host.sess with | none => 0 | some m => 0x0100 + m)
  | 0x0024 => s.host.scratch
  | 0x0028 => s.host.sessNum + 0x1000000 * s.host.sessRoute
  | 0x0040 => s.intStatus
  | 0x0044 => s.host.intEnable ||| 0x200
  | 0x0080 => 0x100000
  | 0x0084 => 0x100000
  | 0x0088 => 0x140000
  | 0x008C => s.evt.wr.toNat
  | 0x0090 => s.evt.rd.toNat
  | a => if 0x100 ≤ a ∧ a < 0x200 then s.mbWord ((a - 0x100) / 0x20) (a % 0x20) else 0

/-- A word of the host space; an unmapped word reads 0 (R464). -/
def State.hostWord (s : State) (a : Nat) : Nat :=
  if a < 0x10000 then s.windowWord (4 * (a / 4))
  else if mapped a then leNat (readBytes s.host.board (a - 0x100000) 4) else 0

/-- The doorbell (R468, R470): the command index is written, and an index beyond the ring faults the mailbox. `route` is
0 for SPI and 1 + l for VC0 of link Ll (R465, R475). -/
def State.ringDoorbell (s : State) (mb : Fin 8) (value : U32) (route : Nat) : State :=
  let m := vget s.host.mbs mb
  let s1 := { s with host := { s.host with
    mbs := vset s.host.mbs mb { m with cmdWr := value }
    bellRoute := if mb = 0 then route else s.host.bellRoute } }
  if m.depth < U32.dist value m.cmdRd ∧ m.fault = false then s1.faultMb mb else s1

/-- Journal records that are still live, and each mailbox's newest (R479, R480). -/
def Journal.prune (j : Journal) (mb : Nat) (from_ upto : U32) : Journal :=
  let passed := fun (r : JRec) => decide (r.mb = mb) && decide (U32.dist r.cplIndex from_ < U32.dist upto from_)
  let newest := fun (r : JRec) => !(j.recs.any (fun q => decide (q.mb = r.mb) && decide (r.seq < q.seq)))
  { j with recs := j.recs.filter (fun r => !passed r || newest r) }

/-- The completion read index written (R469, R479): outside [read, write] it is ignored. -/
def State.consume (s : State) (mb : Fin 8) (value : U32) : State :=
  let m := vget s.host.mbs mb
  if U32.dist m.cplWr m.cplRd < U32.dist value m.cplRd then s
  else
    { s with
      host := { s.host with mbs := vset s.host.mbs mb { m with cplRd := value } }
      journal := s.journal.prune mb m.cplRd value }

/-- RESET written to a mailbox (R470): it waits for the command in progress. -/
def State.askReset (s : State) (mb : Fin 8) : State :=
  let m := vget s.host.mbs mb
  if m.long.isSome then { s with host := { s.host with mbs := vset s.host.mbs mb { m with resetDue := true } } }
  else s.resetMb mb

/-- A write of `value` in an FCLK cycle clears write-1-to-clear bit 10 + i: not when hardware set it in that cycle (R6). -/
def HostWin.clears (h : HostWin) (value fclk i : Nat) : Bool := bitOf value (10 + i) && h.setAt.getD i 0 != fclk + 1

/-- INT_STATUS's write-1-to-clear bits (R6, R465). -/
def HostWin.clearInt (h : HostWin) (value fclk : Nat) : HostWin :=
  { h with ringFault := h.ringFault && !h.clears value fclk 0, sessClosed := h.sessClosed && !h.clears value fclk 1
           replayed := h.replayed && !h.clears value fclk 2 }

/-- A write of one mailbox register (R465); the read-only ones ignore it. -/
def State.writeMbReg (s : State) (mb : Fin 8) (r : Nat) (v : U32) (route : Nat) : State :=
  match r with
  | 0x0C => s.ringDoorbell mb v route
  | 0x18 => s.consume mb v
  | 0x1C => if v.getLsbD 8 then s.askReset mb else s
  | _ => s

/-- A write of one word of the host space (R5, R462, R465); an unmapped word is not written. -/
def State.writeHost (s : State) (a : Nat) (v : U32) (route : Nat) : State :=
  if 0x100000 ≤ a then
    (if mapped a then { s with host := { s.host with board := writeBytes s.host.board (a - 0x100000) (leBytes 4 v.toNat) } }
     else s)
  else
    match a with
    | 0x0018 => { s with boot := { s.boot with loadReg := v.toNat % 2 ^ 17 + 2 ^ 24 * (v.toNat / 2 ^ 24 % 4) } }
    | 0x0024 => { s with host := { s.host with scratch := v.toNat } }
    | 0x0040 => { s with host := s.host.clearInt v.toNat s.time.fclk }
    | 0x0044 => { s with host := { s.host with intEnable := v.toNat % 0x200 + 0x400 * (v.toNat / 0x400 % 8) + 0x200 } }
    | 0x0090 => s.writeRd v
    | a =>
      match finOf 8 ((a - 0x100) / 0x20) with
      | none => s
      | some mb => if 0x100 ≤ a then s.writeMbReg mb (a % 0x20) v route else s

/-- Words written at ascending addresses (R345, R464). -/
def State.writeWords (route : Nat) : Nat → List U32 → State → State
  | _, [], s => s
  | a, v :: vs, s => State.writeWords route (a + 4) vs (s.writeHost a v route)

/-- The words of bytes, least significant byte first (R463). -/
def leWords : List Byte → List U32
  | a :: b :: c :: d :: t => (d ++ c ++ b ++ a) :: leWords t
  | _ => []

/-- The SPI target and the host window answer: not while a reset is held, nor between a warm entry's end and its boot (R24,
R452, R459, R480). -/
def State.hostAnswers (s : State) : Bool :=
  s.boot.phase == .running || s.boot.phase == .waitHost || s.boot.phase == .warmEntry

/-- The read or write of `n` words at `a` touches an address that is unmapped or no multiple of 4 (R344, R462). -/
def badRange (a n : Nat) : Bool := decide (a % 4 ≠ 0) || (List.range n).any (fun i => !mapped (a + 4 * i))

end Sys2Proof.Machine
end

