-- ==== Sys2Proof/Machine/HostWindow.lean ====
section
/-! DEFINITION. The family of the host window, SPI and VC0 register transactions (R344 to R346, R462 to R470), and the
journal head (R479). -/

namespace Sys2Proof.Machine

/-- DOORBELL (R468, R470). -/
def execDoorbell (mb : Fin 8) (value : U32) (route : Nat) (s : State) : Host.Outcome State Fault Refusal :=
  .next (if s.hostAnswers then s.ringDoorbell mb value route else s)

/-- CPL_RD_WRITE (R469, R479). -/
def execCplRdWrite (mb : Fin 8) (value : U32) (s : State) : Host.Outcome State Fault Refusal :=
  .next (if s.hostAnswers then s.consume mb value else s)

/-- MAILBOX_RESET (R470). -/
def execMailboxReset (mb : Fin 8) (s : State) : Host.Outcome State Fault Refusal :=
  .next (if s.hostAnswers then s.askReset mb else s)

/-- INT_STATUS_WRITE (R6, R465). -/
def execIntStatusWrite (value : U32) (s : State) : Host.Outcome State Fault Refusal :=
  .next (if s.hostAnswers then { s with host := s.host.clearInt value.toNat s.time.fclk } else s)

/-- HOST_WINDOW_WRITE (R5, R462, R465). -/
def execHostWindowWrite (address : Nat) (value : U32) (s : State) : Host.Outcome State Fault Refusal :=
  .next (if s.hostAnswers ∧ address % 4 = 0 then s.writeHost address value 0 else s)

/-- SPI_TRANSACTION (R463, R464): a write takes effect whole, or fails and writes nothing; a read returns its words. -/
def execSpiTransaction (op : SpiOp) (s : State) : Host.Outcome State Fault Refusal :=
  .next (
    if s.hostAnswers = false then s
    else
      match op with
      | .read a n =>
        let word := fun i => if i < 64 ∧ (a + 4 * i) % 4 = 0 then s.hostWord (a + 4 * i) else 0
        { s with host := { s.host with spiOut := (List.range n).flatMap (fun i => leBytes 4 (word i)) } }
      | .write a bs =>
        let n := bs.length / 4
        let count := decide (bs.length % 4 ≠ 0) || decide (64 < n) || decide (n = 0)
        let addr := badRange a (ceilDiv bs.length 4)
        if count || addr then { s with host := { s.host with spiFailed := true, spiAddr := addr, spiCount := count } }
        else State.writeWords 0 a (leWords bs) s)

/-- SPI_STATUS (R464): the last failed transaction, cleared by reading. -/
def execSpiStatus (s : State) : Host.Outcome State Fault Refusal :=
  let h := s.host
  .next (
    if s.hostAnswers then
      { s with host := { h with
          spiOut := leBytes 1 (boolNat h.spiFailed + 2 * boolNat h.spiAddr + 4 * boolNat h.spiCount)
          spiFailed := false, spiAddr := false, spiCount := false } }
    else s)

/-- The status of a VC0 transaction (R344). -/
def regStatus (a n : Nat) : Nat := if n = 0 ∨ 64 < n then 2 else if badRange a n then 1 else 0

/-- A REG_RESPONSE body (R344). -/
def regResponse (tag a n st : Nat) (data : List Byte) : List Byte :=
  leBytes 4 tag ++ leBytes 4 a ++ leBytes 2 n ++ leBytes 2 st ++ data

/-- The register transaction at the head came on an auxiliary link, as L9 is while the boot ROM waits (R338, R341, R456). -/
def State.regLink (s : State) (link : Fin 12) : Bool := (s.headMsg link 0).role == 3 && s.hostAnswers

/-- REG_READ (R344, R345, R346, R462). -/
def execRegRead (link : Fin 12) (tag address count : Nat) (s : State) : Host.Outcome State Fault Refusal :=
  .next (
    if s.hasMsg link 0 1 (regResponse tag address count 0 []) ∧ s.regLink link then
      let st := regStatus address count
      let data := if st = 0 then (List.range count).flatMap (fun i => leBytes 4 (s.hostWord (address + 4 * i))) else []
      (s.popInbox link 0).send link 0 3 (regResponse tag address count st data)
    else s)

/-- REG_WRITE (R344, R345, R346, R462): a failed transaction writes nothing. -/
def execRegWrite (link : Fin 12) (tag address count : Nat) (words : List U32) (s : State) :
    Host.Outcome State Fault Refusal :=
  .next (
    if s.hasMsg link 0 2 (regResponse tag address count 0 (words.flatMap (fun w => leBytes 4 w.toNat)))
        ∧ s.regLink link then
      let st := if words.length ≠ count then 2 else regStatus address count
      let s1 := s.popInbox link 0
      let s2 := if st = 0 then State.writeWords (1 + link.val) address words s1 else s1
      s2.send link 0 3 (regResponse tag address count st [])
    else s)

/-- The oldest live record and the newest of one mailbox area (R479); 0 where there is none. -/
def Journal.area (j : Journal) (mb : Nat) : Nat × Nat :=
  let own := j.recs.filter (fun r => decide (r.mb = mb))
  ((own.head?.map (·.seq)).getD 0, (own.getLast?.map (·.seq)).getD 0)

/-- What the head holds now (R479, R503). -/
def State.journalHead (s : State) : JHead :=
  { areas := (List.range 8).map s.journal.area
    session := s.host.sess.map (fun m => (s.host.sessNum, s.host.sessRoute, m))
    depths := s.host.mbs.toList.map (·.depth)
    epoch := s.twin.epoch }

/-- The head is written on P17 (R22, R479). -/
def State.writeHead (s : State) : State :=
  { s with
    ddr := s.ddr.writeJournal (s.journalAt 0) 4096 s.time.fclk
    journal := { s.journal with head := some s.journalHead, headAt := s.time.fclk + 1 } }

/-- JOURNAL_HEAD_WRITE (R479): every 1 ms. -/
def execJournalHeadWrite (s : State) : Host.Outcome State Fault Refusal :=
  .next (if s.up ∧ (s.journal.headAt = 0 ∨ s.journal.headAt + 799999 ≤ s.time.fclk) then s.writeHead else s)

end Sys2Proof.Machine
end

