-- ==== Sys2Proof/Machine/Recon.lean ====
section
/-! DEFINITION. The data path of the units on samples: composed quads and the preview ring (R192, R211), the coarse stage of
a context (R152 to R156, R163), floor choices, reconstruction and the loop filters (R75, R104, R105, R107, R122, R165). -/

namespace Sys2Proof.Machine

/-! ### Composed quads -/

/-- A quad is read through composition (R192 to R208), and rounded to the coded bit depth (R102). -/
def State.readQuad (e : Fin 16) (s : State) (j : Job) (d : UnitDesc) : State :=
  let g := vget s.engines e
  let q := d.quad
  let out := s.composed j g q
  (s.work e (fun c => { c with comp := cset [] c.comp q (out.map (roundOut j.tile.cod.bitDepth)) })).previewQuad j g.q.frame
    (4 * j.col g + q % 4) (4 * g.q.row + q / 4) out

/-! ### The coarse stage -/

/-- The slot of a search cache that holds a picture column of a reference for CTU row k (R152). -/
def Engine.colSlot (g : Engine) (cache buffer rows col k : Nat) : Option ColSlot :=
  ((g.slots.filter (fun (y : Nat × ColSlot) => y.1 / 64 == cache)).find? (fun (y : Nat × ColSlot) =>
    y.2.col == col && y.2.row == columnRow rows k && y.2.buffer == buffer)).map (·.2)

/-- The motion field's vector for a reference (R156): zero outside the tile (R154). -/
def mfAt (a : Tile) (m : Cells MField) (ref : Nat) (x k : Int) : Int × Int :=
  if 0 ≤ x ∧ x < a.w ∧ 0 ≤ k ∧ k < a.ctx.rows then
    let v := cget {} m (a.ctu x.toNat k.toNat)
    if ref = 0 then (v.x0, v.y0) else (v.x1, v.y1)
  else (0, 0)

/-- The coarse search of one reference for the CTU at (x, k) of the tile (R151 to R155, R163): its steering vector and the
quads' coarse vectors. It reads the columns that the cache's slots hold; one that no slot holds is not valid (DESIGN CHOICE,
notes/assumptions/73). -/
def State.coarse (s : State) (e : Fin 16) (j : Job) (r : CtxRec) (ref buffer x k : Nat) : (Int × Int) × List (Int × Int) :=
  let g := vget s.engines e
  let col := j.ctx.tileX j.tile.t + x
  let v := fun dx dk => mfAt j.tile r.mf ref ((x : Int) + dx) ((k : Int) + dk)
  let left := v (-1) 0
  let above := v 0 (-1)
  let right := v 1 (-1)
  let pred := (median3 left.1 above.1 right.1, median3 left.2 above.2 right.2)
  let slot := fun c => g.colSlot ref buffer j.ctx.rows c k
  let view : RefView :=
    { ctx := j.ctx
      block := fun c u => match slot c with | some y => y.blocks.getD (u - y.row) [] | none => []
      valid := fun c u => s.refOk j r buffer c u && (match slot c with | some y => !y.bad | none => false) }
  let c : Coarse := ⟨view, (s.curLevels e j x k).quarter, 16 * col, 16 * k, (j.lambda (cget 0 r.box.qpRow k)).2.1, pred⟩
  let f := c.search [(0, 0), left, v 0 0, above, right, v 1 0, v 0 1] (j.tile.ctu x k) (r.frame % 2 ^ 32)
  (f.2, (List.range 16).map (fun q => c.quad q f.1 f.2))

/-- The coarse stage of the CTU at (x, k), both references, of those that the operation enables (`on`, by bits): a result that can be read 480 cycles later, and the motion field
(R75, R154 to R156). -/
def State.coarseCtu (s : State) (e : Fin 16) (j : Job) (r : CtxRec) (on x k : Nat) : Steer × CtxRec :=
  let refs := r.enabled j.tile.cod.structure_
  let one := fun (i : Nat) => match (refs[i]?).filter (fun _ => on.testBit i) with | some b => s.coarse e j r i b x k | none => ((0, 0), [])
  let a := one 0
  let b := one 1
  let t := j.tile.ctu x k
  let v : MField := ⟨a.1.1, a.1.2, b.1.1, b.1.2⟩
  let quads := (List.range 16).foldl (fun m q =>
    cset (0, 0) (cset (0, 0) m (2 * q) (a.2.getD q (0, 0))) (2 * q + 1) (b.2.getD q (0, 0))) []
  (⟨t, v, s.cycle + 480, quads⟩, { r with mf := cset {} r.mf t v })

/-! ### Choices -/

/-- What MD records for a floor CTU (R122, R165): floor intra at the codec's highest QP; floor skip with the zero vector of
ref0, as a skip CU with its merge index, or as a CU with reference index 0 whose MVD cancels the predictor. -/
def Job.floorMd (j : Job) (g : Engine) : MdChoice :=
  if g.c.intraFlr then { floor := 2, qp := j.tile.cod.qpMax }
  else
    let p := (j.predictors g.bare 0 0).headD (0, 0)
    match Config.mergeIndex (j.codeInts ++ (g.r.entropy : Int) :: mdInts g.left.md) with
    | some i => { floor := 1, inter := some 0, merge := some (i % j.tools.mergeCands), qp := g.c.qp }
    | none => { floor := 1, inter := some 0, mvd := (-p.1, -p.2), qp := g.c.qp }

/-- A quad lies in a CU that MD has chosen for an earlier quad of its block (R104, R105). -/
def CtuWork.joins (c : CtuWork) (q : Nat) : Option MdChoice :=
  [64, 32].findSome? (fun n =>
    let m := cget {} c.md (blockLead n q)
    if m.size = n ∧ blockLead n q ≠ q ∧ (m.inter = none ∨ cget false c.badRef q = false) then some m else none)

/-- MD's choice for a quad of a normal CTU (R82, R104, R105, R115, R122, R127, R159, R166): in the refresh band intra;
otherwise among its inter candidates, all below the maximum cost, and intra. -/
def State.chooseQuad (s : State) (e : Fin 16) (j : Job) (r : CtxRec) (d : UnitDesc) : MdChoice :=
  let g := vget s.engines e
  let q := d.quad
  match g.c.joins q with
  | some m => m
  | none =>
    let f := fun (i : Nat) => cget {} g.c.fine (2 * q + i)
    let fineInts := (List.range 2).flatMap (fun i =>
      [(f i).mv.1, (f i).mv.2, ((f i).cost : Int), (f i).whole.1, (f i).whole.2, (f i).coarse.1, (f i).coarse.2] ++ ints (f i).parts)
    let ops := j.codeInts ++ d.ints ++ [g.c.qp, ((j.lambda g.c.qp).1 : Int), (cget maxCost g.c.intra q : Nat), (cget maxCost g.c.bi q : Nat)]
      ++ fineInts ++ ints (cget [] g.c.comp q) ++ g.nearInts
    let all := if j.tile.inBand (r.sweepFrame j.tile.cod.sweepN) (j.col g) then [] else s.interCands e j r q
    let pick := fun (k : Nat) => Config.modeChoice ((k : Int) :: ops)
    match all[pick 0 % (all.length + 1)]? with
    | some m => { m with part := pick 1 % j.tools.puParts, mode := pick 2, qp := g.c.qp }
    | none =>
      let sizes := j.cuSizes g q
      let n := sizes.getD (pick 3 % sizes.length) 8
      { size := n, part := if n = 8 ∧ j.tools.nxn = true ∧ pick 4 % 2 = 1 then 3 else 0, mode := pick 2, qp := g.c.qp }

/-! ### Reconstruction -/

/-- Samples of a quad. -/
def quadSize (chroma : Nat) : Nat := [384, 512, 768].getD chroma 384

/-- Reconstructed samples that the operands fix. -/
def Job.samples (j : Job) (f : Nat → Nat) : List Nat :=
  (List.range (quadSize j.ctx.chroma)).map (fun i => f i % 2 ^ j.tile.cod.bitDepth)

/-- MD's decision of a floor CTU is recorded, once for the CTU (R122, R165). -/
def State.floorMode (s : State) (e : Fin 16) (j : Job) : State :=
  s.work e (fun c => { c with md := cset {} c.md 16 (j.floorMd (vget s.engines e)) })

/-- The composed picture of a floor CTU is summed and enters the preview ring (R122, R211). -/
def State.floorIn (s : State) (e : Fin 16) (j : Job) : State :=
  let g := vget s.engines e
  (s.work e (fun c => { c with summary := (s.jobScene j g).blockSums j.tile.cod.bitDepth (j.col g) g.q.row })).previewCtu e j
    (List.range 16)

/-- A floor intra CTU's DC coefficients from its block means, none where the row or the CTU has no input (R75, R82, R122,
R165). -/
def State.floorTq (s : State) (e : Fin 16) (j : Job) : State :=
  let g := vget s.engines e
  let coded := g.c.intraFlr && !s.repeats j g && !g.sourceBad j.tab
  let sums := if g.c.summary = [] then (s.jobScene j g).blockSums j.tile.cod.bitDepth (j.col g) g.q.row else g.c.summary
  let ops := j.codeInts ++ [j.tile.cod.qpMax] ++ ints sums ++ g.bare.nearInts
  let bins := if coded then Config.quadBins ops % (floorIntraBins j.ctx.chroma + 1) else 0
  s.work e (fun c => { c with tq := cset {} c.tq 16 ⟨if bins = 0 then 0 else 1 + Config.content ops, 6 * bins, bins, false⟩ })

/-- A floor CTU's reconstruction (R122, R165): ref0's co-located CTU under floor skip; under floor intra the DC prediction
with its DC coefficients. -/
def State.floorRecon (s : State) (e : Fin 16) (j : Job) : State :=
  match s.jobRec e j with
  | none => s
  | some r =>
    let g := vget s.engines e
    let k := s.refCtu j.ctx r.ref0 (j.col g) g.q.row
    let ops := j.codeInts ++ [j.tile.cod.qpMax, ((cget {} g.c.tq 16).coef : Int)] ++ g.bare.nearInts
    let one := fun (q : Nat) =>
      if g.c.intraFlr then j.samples (fun i => Config.reconSample ((q : Int) :: ops) i)
      else (k.recon.getD q []).map (fun x => if j.tile.cod.bitDepth = 8 then x / 4 else x)
    s.work e (fun c => { c with recon := (List.range 16).foldl (fun m q => cset [] m q (one q)) [] })

/-- A quad passes a loop filter (R75, R104, R105, R107 to R109): its samples are those that the filter makes of the CTU, the
left CTU and, where slice boundaries are crossed, the CTUs above. What later filters of the neighbours change in a quad's
right and lower lines is taken as part of the quad's own (DESIGN CHOICE, notes/assumptions/71). -/
def State.filterQuad (s : State) (e : Fin 16) (j : Job) (d : UnitDesc) (stage : Nat) (sets : List Int) : State :=
  let g := vget s.engines e
  let ops := (stage : Int) :: j.codeInts ++ d.ints ++ sets ++ [g.c.qp, boolNat (decide (g.c.floor ≠ 0))] ++ mdInts g.c.md ++ ints g.c.after.flatten
    ++ ints g.left.out.flatten ++ g.aboveInts j.tools.acrossSlices
  s.work e (fun c => { c with
    filtered := cset [] c.filtered d.quad (j.samples (Config.filterSample ops)), stage := cset 0 c.stage d.quad stage
    dbk := if stage = 1 then cset {} c.dbk d.quad d else c.dbk })

/-- The derived coefficients are latched at the frame's first ALF (R77, R107). -/
def State.latchFilter (s : State) (e : Fin 16) (j : Job) : State :=
  let g := vget s.engines e
  match g.r.alfSeen, s.jobRec e j with
  | false, some r =>
    (s.setEngine e { g with r := { g.r with alfSeen := true } }).putRec e j { r with filterNow := r.filterNext }
  | _, _ => s

/-- The sets that ALF and CC-ALF use (R105, R107): the fixed ones, with CC-ALF off, before the first derivation. -/
def Job.alfSets (j : Job) (r : Option CtxRec) : List Int :=
  let n := (r.map CtxRec.filterNow).getD 0
  [(n : Int), boolNat (j.tools.ccAlf && n != 0)]

/-- ALF accumulates a quad's statistics (R75, R77). -/
def State.alfNote (s : State) (e : Fin 16) (d : UnitDesc) : State :=
  let g := vget s.engines e
  s.setEngine e { g with r := { g.r with
    alfStats := Config.content ((g.r.alfStats : Int) :: ints (cget [] g.c.comp d.quad) ++ ints (g.c.outQuad d.quad)) } }

/-! ### Issue -/

/-- What a slice holds of a CTU is taken back. -/
def Slice.without (k : Slice) (ctu : Nat) : Slice :=
  let kept := (k.parts.zip k.ctus).filter (fun y => y.2 != some ctu)
  { k with parts := kept.map (·.1), ctus := kept.map (·.2), written := (kept.getLast?.map (fun y => y.1.1)).getD 0 }

/-- The units make again, of a CTU that has become a floor CTU, what they had made of it: its work was `c`, and `coded` says
that BN had coded it. -/
def State.remake (s : State) (e : Fin 16) (j : Job) (c : CtuWork) (coded : Bool) : State :=
  let s1 := s.floorMode e j
  let s2 := if c.tq = [] then s1 else s1.floorTq e j
  let s3 := if c.recon = [] then s2 else s2.floorRecon e j
  let s4 := c.dbk.foldl (fun (t : State) y => t.filterQuad e j y.2 1 []) s3
  let s5 := if coded then s4.floorBin e j else s4
  ((List.range 16).filter (fun q => c.crf.units.getD q 0 != 0)).foldl (fun (t : State) q => t.stageQuad e j q) s5

/-- A floor block runs: its CTU is a floor CTU. -/
def Engine.inFloor (g : Engine) : Bool := g.q.inBlock && g.q.floor

/-- A normal CTU whose frame-shared source is found invalid behind its decision is coded as a repeat floor CTU (R82): its
bits and bins are taken back, and what the units had made of it they make again of the floor CTU (DESIGN CHOICE,
notes/assumptions/45: the rule does not say how). -/
def State.refloor (s : State) (e : Fin 16) (j : Job) : State :=
  let g := vget s.engines e
  match g.c.undo, s.jobRec e j with
  | some w, some r =>
    if g.inFloor ∨ g.sourceBad j.tab = false then s
    else
      let here := fun (context tile row frame : Nat) =>
        context == g.q.context && tile == g.q.tile && row == g.q.row && frame == g.q.frame
      let mine := fun (x : BinRun) => here x.context x.tile x.row x.frame && x.ctu == some g.q.ctu
      let slice := fun (k : Slice) => here k.context k.tile k.row k.frame && !k.ended
      let coded := g.bins.any mine || g.chunk.slices.any (fun k => slice k && k.ctus.contains (some g.q.ctu))
      let g1 := { g with
        c := { g.c with md := [], tq := [], filtered := [], stage := [] }
        r := { g.r with
          known := w.known, bn := w.bn, shifts := w.shifts, bypass := w.bypass, range := w.range, entropy := w.entropy
          fill := w.fill, fillAt := w.fillAt, fillDue := w.fillDue, clipped := w.clipped, normal := w.normal, sumQp := w.sumQp }
        bins := g.bins.filter (fun x => !mine x)
        chunk := { g.chunk with slices := g.chunk.slices.map (fun k => if slice k then k.without g.q.ctu else k) } }
      ((s.setEngine e g1).setDecision e j r 4 ⟨4, g.c.qp, g.c.room, g.c.rb⟩).remake e j g.c coded
  | _, _ => s

/-- A unit operation issues, freezes its engine, or is not due (R62, R75, R80, R83): the state, and the job when it issues.
A tag that is read again behind the substitution of R81 and consumed late in the same block is substituted at once, with
a LATE_READ of its own (DESIGN CHOICE, notes/assumptions/63). A normal CTU whose source it finds invalid becomes a repeat
floor CTU (R82). -/
def State.issue (s : State) (e : Fin 16) (u op desc : Nat) : State × Option (Job × UnitDesc) :=
  match s.job e with
  | none => (s, none)
  | some j =>
    match j.tab.unitDesc u desc with
    | none => (s, none)
    | some d =>
      match s.reachWord e j.tab u (fun _ w => w.op u == (op, desc)) with
      | (s0, none) => (s0, none)
      | (s0, some (g, _)) =>
        let late := d.tags.filter (fun t => !(cget {} g.tags t).arrived)
        let s1 := s0.setEngine e g
        let s1 := if late = [] then s1 else s1.lateRead e late
        -- a coarse column's validity is kept by its slot (R163)
        let eff := if u = 2 then d.tags.filter (fun t => decide (2 ≤ (cget {} g.tags t).desc.cls)) else d.tags
        let g1 := (g.substitute late).consume eff d.quad
        let lost := g1.c.badLayers.filter (fun l => !g.c.badLayers.contains l)
        let s2 := State.raiseAll (s1.setEngine e g1)
          (lost.map (fun l => s.ev (756 + e.val) 0x0010 [(2, g.q.context), (2, g.q.row), (2, g.q.ctu), (2, l)]))
        let s2 := if lost = [] then s2 else s2.recompose e j
        let s3 := if g1.q.startDue ∧ g1.q.lateSeen ∧ g1.recordCame then
            (s2.setEngine e g1.takeRecord).frameStart e j
          else s2
        (s3.refloor e j, some (j, d))

/-- A unit operation: when it issues, `f` gives its action on the state, the job and its descriptor. -/
def State.unit (s : State) (e : Fin 16) (u op desc : Nat) (f : State → Job → UnitDesc → State) : State :=
  match s.issue e u op desc with
  | (s1, some (j, d)) => f s1 j d
  | (s1, none) => s1

end Sys2Proof.Machine
end

