-- ==== Sys2Proof/Machine/Units.lean ====
section
/-! DEFINITION. The commands of the data-path units IN to RW (R75 to R83, R107, R118, R122, R148 to R166, R179, R182).
A result stands in the state from its issue: the exact latencies of R75 are kept by the cue sheet's own waits, which
admission checks, and no consumer can issue before them (notes/assumptions/34). -/

namespace Sys2Proof.Machine

/-! ### IN -/

/-- IN.RDQ (R75, R192). -/
def execInRdq (e : Fin 16) (desc : Nat) (s : State) : Host.Outcome State Fault Refusal :=
  .next (s.unit e 0 1 desc (State.readQuad e))

/-- IN.FSQ (R75, R82, R192): as RDQ, from frame-shared lines that DR has landed. -/
def execInFsq (e : Fin 16) (desc : Nat) (s : State) : Host.Outcome State Fault Refusal :=
  .next (s.unit e 0 2 desc (State.readQuad e))

/-- IN.FLR (R75, R122, R211). -/
def execInFlr (e : Fin 16) (desc : Nat) (s : State) : Host.Outcome State Fault Refusal :=
  .next (s.unit e 0 3 desc (fun s j _ => s.floorIn e j))

/-! ### SV -/

/-- SV.LVL (R149). -/
def execSvLvl (e : Fin 16) (desc : Nat) (s : State) : Host.Outcome State Fault Refusal :=
  .next (s.unit e 1 1 desc (fun s j _ =>
    let g := vget s.engines e
    s.work e (fun c => { c with levels := s.curLevels e j g.q.ctu g.q.row })))

/-- SV.EXP (R149): the CTU's levels, as SV.LVL has loaded them or the sieve row store holds them, are staged. -/
def execSvExp (e : Fin 16) (desc : Nat) (s : State) : Host.Outcome State Fault Refusal :=
  .next (s.unit e 1 2 desc (fun s j _ =>
    let g := vget s.engines e
    let l := if g.c.levels = {} then s.curLevels e j g.q.ctu g.q.row else g.c.levels
    s.setEngine e { g with staged := g.staged ++ [{ ctu := j.num g, levels := l }] }))

/-! ### MC -/

/-- MC.CRS for the CTU after the one in work (R74, R152 to R156, R160, R163). -/
def execMcCrs (e : Fin 16) (desc : Nat) (s : State) : Host.Outcome State Fault Refusal :=
  .next (s.unit e 2 1 desc (fun s j d =>
    let g := vget s.engines e
    match j.nextCtu g, s.jobRec e j with
    | some (x, k), some r =>
      let a := s.coarseCtu e j r (Config.refEnables d.ints) x k
      (s.setEngine e { g with steers := a.1 :: g.steers.take 1 }).putRec e j a.2
    | _, _ => s))

/-! ### MF, IP and MD -/

/-- MF.QRF (R74, R159, R161, R163): for each enabled reference its result, and the bi cost. -/
def execMfQrf (e : Fin 16) (desc : Nat) (s : State) : Host.Outcome State Fault Refusal :=
  .next (s.unit e 3 1 desc (fun s j d =>
    match s.jobRec e j with
    | none => s
    | some r =>
      let q := d.quad
      let refs := (r.enabled j.tile.cod.structure_).zipIdx.filter (fun b => (Config.refEnables d.ints).testBit b.2)
      let res := refs.foldl (fun (m : Cells FineRes) b => cset {} m (2 * q + b.2) (s.fineRes e j r b.2 b.1 q)) []
      let one := fun (i : Nat) => cget {} res (2 * q + i)
      s.work e (fun c => { c with
        fine := res.foldl (fun m x => cset {} m x.1 x.2) c.fine
        bi := cset maxCost c.bi q (if refs.length = 2 then s.biRes e j r q (one 0) (one 1) else maxCost) })))

/-- IP.EST (R75). -/
def execIpEst (e : Fin 16) (desc : Nat) (s : State) : Host.Outcome State Fault Refusal :=
  .next (s.unit e 4 1 desc (fun s j d =>
    let g := vget s.engines e
    let ops := j.codeInts ++ d.ints ++ ints (cget [] g.c.comp d.quad) ++ g.nearInts
    s.work e (fun c => { c with intra := cset maxCost c.intra d.quad (min maxCost (Config.searchCost ops)) })))

/-- MD.SEL (R82, R115, R122, R127, R165, R166, R168, R178, R179). -/
def execMdSel (e : Fin 16) (desc : Nat) (s : State) : Host.Outcome State Fault Refusal :=
  .next (s.unit e 5 1 desc (fun s j d =>
    let s := s.decisionPoint e j false
    match s.jobRec e j with
    | none => s
    | some r =>
      let g := vget s.engines e
      if g.c.floor ≠ 0 then s.floorMode e j
      else s.work e (fun c => { c with md := cset {} c.md d.quad (s.chooseQuad e j r d) })))

/-- MD.FLR (R82, R165, R168, R179). -/
def execMdFlr (e : Fin 16) (desc : Nat) (s : State) : Host.Outcome State Fault Refusal :=
  .next (s.unit e 5 2 desc (fun s j _ =>
    (s.decisionPoint e j (vget s.engines e).q.floor).floorMode e j))

/-! ### TQ and IQ -/

/-- TQ.FWD (R175, R182): the quad's residual bins, at the CTU's QP and its λ_md; the residual is zeroed when a bound would
be passed. A floor CTU's coefficients are TQ.FLR's. -/
def execTqFwd (e : Fin 16) (desc : Nat) (s : State) : Host.Outcome State Fault Refusal :=
  .next (s.unit e 6 1 desc (fun s j d =>
    let g := vget s.engines e
    if g.c.floor ≠ 0 then (if d.quad = 0 then s.floorTq e j else s)
    else
      let ops := [g.c.qp, ((j.lambda g.c.qp).1 : Int)] ++ j.quadInts g d
      let coded := Config.quadBins (0 :: ops)
      let byp := Config.quadBins (1 :: ops)
      let bound := 6 * coded + byp
      let bins := coded + byp
      let clip := decide (g.c.room < g.c.runBits + sideBits + bound) || decide (g.c.rb < g.c.runBins + sideBins + bins)
      let coef := if bins = 0 then 0 else 1 + Config.content ops
      s.setEngine e { g with
        c := { g.c with
          tq := cset {} g.c.tq d.quad (if clip then ⟨0, 0, 0, true⟩ else ⟨coef, bound, bins, false⟩)
          runBits := if clip then g.c.runBits else g.c.runBits + bound
          runBins := if clip then g.c.runBins else g.c.runBins + bins }
        r := { g.r with clipped := g.r.clipped + boolNat clip } }))

/-- TQ.FLR (R75, R82, R122, R165). -/
def execTqFlr (e : Fin 16) (desc : Nat) (s : State) : Host.Outcome State Fault Refusal :=
  .next (s.unit e 6 2 desc (fun s j _ => s.floorTq e j))

/-- IQ.REC (R75). In a floor CTU the reconstruction is the floor's. -/
def execIqRec (e : Fin 16) (desc : Nat) (s : State) : Host.Outcome State Fault Refusal :=
  .next (s.unit e 7 1 desc (fun s j d =>
    let g := vget s.engines e
    if g.c.floor ≠ 0 then (if d.quad = 0 then s.floorRecon e j else s)
    else
      let ops := [g.c.qp, ((cget {} g.c.tq d.quad).coef : Int)] ++ j.quadInts g d
      s.work e (fun c => { c with recon := cset [] c.recon d.quad (j.samples (Config.reconSample ops)) })))

/-- IQ.FLR (R75). -/
def execIqFlr (e : Fin 16) (desc : Nat) (s : State) : Host.Outcome State Fault Refusal :=
  .next (s.unit e 7 2 desc (fun s j _ => s.floorRecon e j))

/-! ### LF and AL -/

/-- LF.DBK (R75, R104, R105): deblocking is on. -/
def execLfDbk (e : Fin 16) (desc : Nat) (s : State) : Host.Outcome State Fault Refusal :=
  .next (s.unit e 8 1 desc (fun s j d => s.filterQuad e j d 1 []))

/-- LF.SAO (R75, R104, R105, R165): off for a floor CTU, and where tools bit 0 is clear. -/
def execLfSao (e : Fin 16) (desc : Nat) (s : State) : Host.Outcome State Fault Refusal :=
  .next (s.unit e 8 2 desc (fun s j d =>
    if (vget s.engines e).c.floor ≠ 0 ∨ bitOf j.tile.cod.tools 0 = false then s else s.filterQuad e j d 2 []))

/-- AL.ALF (R75, R77, R105, R107, R165): off for a floor CTU, and where tools bit 1 is clear. -/
def execAlAlf (e : Fin 16) (desc : Nat) (s : State) : Host.Outcome State Fault Refusal :=
  .next (s.unit e 9 1 desc (fun s j d =>
    let s := (s.latchFilter e j).alfNote e d
    if (vget s.engines e).c.floor ≠ 0 ∨ bitOf j.tile.cod.tools 1 = false then s
    else s.filterQuad e j d 3 (j.alfSets (s.jobRec e j))))

/-- AL.DER (R77): one derivation at a time, from the statistics that the frame has accumulated. -/
def execAlDer (e : Fin 16) (desc : Nat) (s : State) : Host.Outcome State Fault Refusal :=
  .next (s.unit e 9 2 desc (fun s j _ =>
    let g := vget s.engines e
    match g.r.derAt with
    | some _ => s
    | none =>
      s.setEngine e { g with r := { g.r with
        derAt := some s.cycle, derCtx := j.ctx.context, derived := 1 + Config.content (2 :: (g.r.alfStats : Int) :: j.codeInts) } }))

/-- DER_COMPLETE (R77): 49,152 cycles after the issue, into the record of the context it derived for, wherever it stands. -/
def execDerComplete (e : Fin 16) (s : State) : Host.Outcome State Fault Refusal :=
  let g := vget s.engines e
  .next (
    match g.r.derAt with
    | none => s
    | some a =>
      if s.cycle < a + 49152 then s
      else
        let g1 := { g with r := { g.r with derAt := none } }
        match g.record g.r.derCtx with
        | some r => s.setEngine e (g1.setRecord g.r.derCtx { r with filterNext := g.r.derived })
        | none =>
          let k := 4 * g.r.derCtx + g.q.tile
          { s.setEngine e g1 with ddr := { s.ddr with
              recs := cset none s.ddr.recs k ((cget none s.ddr.recs k).map (fun r => { r with filterNext := g.r.derived })) } })

/-! ### BN -/

/-- BN.BIN (R167, R179, R182, R183): the quad's residual bins stand in TQ's result; its bits lie within TQ's bound and its
side syntax within s_side: its bits within what the CTU's quads have left, its bins within a sixteenth (DESIGN CHOICE,
notes/assumptions/73). A floor CTU's bits are counted with quad 0. -/
def execBnBin (e : Fin 16) (desc : Nat) (s : State) : Host.Outcome State Fault Refusal :=
  .next (s.unit e 10 1 desc (fun s j d =>
    let g := vget s.engines e
    if g.c.floor ≠ 0 then (if d.quad = 0 then s.floorBin e j else s)
    else
      let t := cget {} g.c.tq d.quad
      let ops := j.codeInts ++ d.ints ++ (cget {} g.c.md d.quad).ints ++ [(t.coef : Int), g.r.entropy, g.r.range]
      let side := Config.quadBits (0 :: ops) % (sideBits - g.c.side + 1)
      -- each bypass bin takes one bit
      let byp := (6 * t.bins - t.bound) / 5
      let bits := byp + Config.quadBits (1 :: ops) % (t.bound - byp + 1)
      let sideB := Config.quadBins (0 :: ops) % (sideBins / 16 + 1)
      (s.work e (fun c => { c with side := c.side + side })).addBits e (side + bits) (t.bins + sideB) byp
        (opTiming 10 1 j.chromaClass).1 true ops))

/-- BN.SLH (R74, R138, R246): the slice header, as the operation's parameters name it, and the start of the row. -/
def execBnSlh (e : Fin 16) (desc : Nat) (s : State) : Host.Outcome State Fault Refusal :=
  .next (s.unit e 10 2 desc (fun s j d =>
    let s := s.enterRow e j
    let g := vget s.engines e
    if g.r.sliceOpen then s
    else (s.setEngine e { g with r := { g.r with entropy := Config.content ((g.r.entropy : Int) :: d.ints) } }).openSlice e j))

/-- BN.FLR (R75, R166, R167). -/
def execBnFlr (e : Fin 16) (desc : Nat) (s : State) : Host.Outcome State Fault Refusal :=
  .next (s.unit e 10 3 desc (fun s j _ => s.floorBin e j))

/-- BN.EOS (R73, R75, R114, R123, R167, R170, R180, R185, R186, R191). -/
def execBnEos (e : Fin 16) (desc : Nat) (s : State) : Host.Outcome State Fault Refusal :=
  .next (s.unit e 10 4 desc (fun s j _ => s.endRow e j))

/-! ### RW -/

/-- RW.CRF (R116 to R118): one quad, with the last one the CTU is staged; in a floor block the whole CTU. -/
def execRwCrf (e : Fin 16) (desc : Nat) (s : State) : Host.Outcome State Fault Refusal :=
  .next (s.unit e 11 1 desc (fun s j d =>
    let g := vget s.engines e
    if g.q.floor ∧ g.q.inBlock then s.stageCrf e j
    else
      let s1 := s.stageQuad e j d.quad
      if d.quad = 15 then s1.stageCrf e j else s1))

end Sys2Proof.Machine
end

