-- ==== Sys2Proof/Machine/Dma.lean ====
section
/-! DEFINITION. The DR and DW units (R73, R79, R84, R119, R149, R152, R158, R160) and the hard-wired floor sequence after
an uncorrectable cue word or descriptor (R94). -/

namespace Sys2Proof.Machine

/-- Base address of a descriptor (R73, R88, R434): the bases of the context record, a layer's buffer, or 0. Before a record
has come, those of the context's first record. -/
def State.dmaBase (s : State) (j : Job) (g : Engine) (base : Nat) : Nat :=
  let c := j.ctx.context
  let bases := match g.baseRecord c with
    | some r => if r.bases = [] then j.prod.bases j.tile r else r.bases
    | none => j.prod.bases j.tile (j.tile.firstRec j.prod.id)
  if base ≤ 5 then bases.getD base 0
  else if base = 14 then bases.getD 6 0
  else if base = 15 then 0
  else
    let i := base - 6
    let l := (j.prod.sets.getD j.ctx.layers {}).layers.getD i {}
    let buf := (((s.ctxSt c).latch g.q.frame).bufs.getD i none).getD 0
    if l.kind = 2 then j.prod.region 5 (2 * l.source + buf) else j.prod.region 4 (3 * l.source + buf)

/-- Offset of an access from its base (R73). -/
def Engine.dmaOffset (g : Engine) (d : DrDesc) : Nat := d.offset + g.q.ctu * d.strideCtu + g.q.row * d.strideRow

/-- The DDR5 address of an access (R73). -/
def State.dmaAddress (s : State) (j : Job) (g : Engine) (d : DrDesc) : Nat := s.dmaBase j g d.base + g.dmaOffset d

/-- The DDR5 address of a write of a reference: in the write buffer of R113 (R149). -/
def State.writeAddress (s : State) (j : Job) (g : Engine) (d : DrDesc) : Nat :=
  match g.record j.ctx.context with
  | some r => j.prod.partBase j.ctx r.write j.tile.t + g.dmaOffset d
  | none => s.dmaAddress j g d

/-- A DMA operation issues, or freezes its engine with the rest of its word (R62, R80): the state, the job, and the
descriptor, when it issues. -/
def State.issueDma (s : State) (e : Fin 16) (u desc : Nat) : State × Option (Job × DrDesc) :=
  match s.job e with
  | none => (s, none)
  | some j =>
    match (if u = 12 then j.tab.dr else j.tab.dw)[desc]? with
    | none => (s, none)
    | some d =>
      match s.reachWord e j.tab u (fun _ w => w.op u == (1, desc)) with
      | (s1, none) => (s1, none)
      | (s1, some (g, _)) => (s1.setEngine e g, some (j, d))

/-- The CTU whose quads a source or layer read serves: the one in work when the rest of its block consumes the tag, or when no
block runs, and else the next one of the slot (R46, R86, R89). -/
def Job.reader (j : Job) (g : Engine) (tag : Nat) : Option (Nat × Nat) :=
  if g.q.inBlock = false ∨ (g.blockTags j.tab).contains tag then some (g.q.ctu, g.q.row) else j.nextCtu g

/-- The quads that a source read (none) or a layer's read skips: those of its CTU that a layer above covers (R205). A read for
a later slot skips nothing. -/
def State.readMasks (s : State) (j : Job) (g : Engine) (d : DrDesc) (layer : Option Nat) (q : Nat) : Bool :=
  match j.reader g d.tag with
  | some (x, k) => (s.jobScene j g).masks layer (j.ctx.tileX j.tile.t + x) k q
  | none => false

/-- What a read that its engine issues now brings: the engine with the search cache that it fills, and the bytes that it
fetches (R119, R152, R158, R205). -/
def State.readPlan (s : State) (j : Job) (g : Engine) (d : DrDesc) : Engine × List (Nat × Nat) :=
  let a := s.dmaAddress j g d
  let bytes := 64 * d.length
  let src := readNo d.tag (((cget {} g.tags d.tag).gen + 1) % 16)
  let masks := fun (layer : Option Nat) => s.readMasks j g d layer
  let r := (g.baseRecord j.ctx.context).getD (j.tile.firstRec j.prod.id)
  let cache := d.dest == 1 || d.dest == 2
  match d.cls with
  | 0 | 1 =>
    if d.isFill then
      match s.fill j g r d src with
      | some (x, parts) => ({ g with slots := cset {} g.slots (64 * (d.dest - 1) + d.destAddr / 4352) x }, parts)
      | none => (g, [])
    else
      match if cache then fineSet j.chromaClass d.destAddr else none with
      | some set =>
        let level := fineLevel j.chromaClass d.destAddr
        let w := s.window j g r d set level src
        ({ g with windows := cset {} g.windows (winKey (d.dest - 1) set level) w.1 }, boundParts bytes w.2)
      | none => (g, if d.cls = 0 then s.crfParts j r d a else [(a, bytes)])
  | 2 =>
    if d.dest = 3 then (g, unmaskedParts a bytes (masks none)) else (g, [(a, bytes)])
  | 3 => (g, unmaskedParts a bytes (masks (some (d.base - 6))))
  | _ => (g, [(a, bytes)])

/-- DR.RD (R73, R79, R119, R152, R158, R205). -/
def execDrRd (e : Fin 16) (desc : Nat) (s : State) : Host.Outcome State Fault Refusal :=
  .next (
    match s.issueDma e 12 desc with
    | (s1, none) => s1
    | (s1, some (j, d)) =>
      let p := s1.readPlan j (vget s1.engines e) d
      (s1.setEngine e p.1).issueRead e d.tag p.2 d)

/-- DW.WR (R73, R84, R90, R113, R120, R149). -/
def execDwWr (e : Fin 16) (desc : Nat) (s : State) : Host.Outcome State Fault Refusal :=
  .next (
    match s.issueDma e 13 desc with
    | (s1, none) => s1
    | (s1, some (j, d)) =>
      let g := vget s1.engines e
      match d.cls with
      | 0 => s1.writeCrf e j (s1.writeAddress j g d)
      | 1 => s1.writeLevels e j (s1.writeAddress j g d) d.length
      | 4 =>
        let c := j.ctx.context
        let w := s1.issueWrite e c 4 (s1.dmaAddress j g d) (64 * d.length)
        if w.2 then
          { w.1 with ddr := { w.1.ddr with recs := cset none w.1.ddr.recs (4 * c + j.tile.t) (s1.jobRec e j) } }
        else w.1.setEngine e (let h := vget w.1.engines e; { h with lost := (c :: h.lost).dedup })
      | k => (s1.issueWrite e j.ctx.context k (s1.dmaAddress j g d) (64 * d.length)).1)

/-! ### The hard-wired floor sequence -/

/-- One CTU of the hard-wired floor sequence: its decision, reconstruction, bits, CRF and levels (R86, R94, R165). It
counts as a lateness floor (notes/assumptions/36). -/
def State.hardCtu (s : State) (e : Fin 16) (j : Job) : State :=
  let s0 := (s.work e (fun _ => {})).floorIn e j
  let s1 := ((s0.decisionPoint e j true).openSlice e j).floorMode e j
  let s2 := (((s1.floorTq e j).floorRecon e j).floorBin e j).stageCrf e j
  let g := vget s2.engines e
  let r := (g.record j.ctx.context).getD {}
  let part := j.prod.partBase j.ctx r.write j.tile.t
  let s3 := s2.writeCrf e j (part + ctuReservation j.ctx.chroma * j.num g)
  let h := vget s3.engines e
  let s4 := (s3.setEngine e { h with staged := h.staged ++ [{ ctu := j.num g, levels := s3.curLevels e j g.q.ctu g.q.row }] }).writeLevels
    e j (part + j.ctx.quarterPlane j.tile.t + quarterOffset j.ctx.rows g.q.ctu g.q.row) 20
  let k := (vget s4.engines e).keepRow
  s4.setEngine e { k with q := { k.q with ctu := k.q.ctu + 1 } }

/-- The rest of a row, and its end. -/
def State.hardRow (s : State) (e : Fin 16) (j : Job) : State :=
  let g := vget s.engines e
  let s1 := (List.range (j.tile.w - g.q.ctu)).foldl (fun (a : State) _ => a.hardCtu e j) s
  (s1.enterRow e j).openSlice e j |>.endRow e j

/-- The rest of the slot: this row, and, for a frame-shared context, every later one. -/
def State.hardSlot (s : State) (e : Fin 16) (j : Job) : State :=
  let rows := if j.ctx.mode = 1 then j.ctx.rows - (vget s.engines e).q.row else 1
  (List.range rows).foldl (fun (a : State) _ => a.hardRow e j) s

/-- CTUs of the slot still to code. -/
def State.ctusLeft (s : State) (e : Fin 16) (j : Job) : Nat :=
  let g := vget s.engines e
  (if j.ctx.mode = 1 then (j.ctx.rows - g.q.row) * j.tile.w else j.tile.w) - g.q.ctu

/-- CUE_ECC_FAULT (R94, R95, R96): an ECC error that the engine meets in its cue memory (0), descriptor tables (1) or record
store (2): a single-bit error is corrected without delay; a double-bit one in a cue word or descriptor abandons the slot, and so
does one in the record store, of which R94 does not speak (DESIGN CHOICE, notes/assumptions/73). -/
def execCueEccFault (e : Fin 16) (memory : Nat) (address : Nat) (error : EccError) (s : State) :
    Host.Outcome State Fault Refusal :=
  .next (
    match s.job e with
    | none => s
    | some j =>
      match error with
      | .single =>
        let g := vget s.engines e
        State.raise (s.setEngine e { g with n := { g.n with eccFixed := satAdd 32 g.n.eccFixed 1 } })
          (s.ev (644 + e.val) 0x0001 [(1, memory), (4, address)])
      | .double stagingBad =>
        let g := vget s.engines e
        let left := s.ctusLeft e j
        let s0 := s.setEngine e { g with
          failed := g.failed || stagingBad
          q := { g.q with inBlock := false, outer := [], frozenAt := none, frzSeen := 0, waiting := [], hold := none, calls := [], loops := [] } }
        let s1 := if g.q.startDue then (s0.setEngine e (vget s0.engines e).takeRecord).frameStart e j else s0
        let s2 := (s1.hardSlot e j).endSlot e
        (s2.raise (s2.ev (644 + e.val) 0x0002 [(1, memory), (4, address), (4, g.q.slot), (4, left)])).review)

/-! ### Status -/

/-- The cycles since the engine's last frame mark (R95). -/
def State.engineCycle (s : State) (e : Nat) : Nat :=
  match s.running.bind (fun p => p.engine e) with
  | some t => s.cycle - 2 * markTick t.cycleDen t.cycleNum (markIndex t.cycleDen t.cycleNum s.time.tick)
  | none => 0

/-- L at a cycle, a freeze in progress included. -/
def Engine.lateNow (g : Engine) (cycle : Nat) : Nat :=
  if g.q.inSlot then satAdd 32 g.q.lateness ((g.q.frozenAt.map (cycle - ·)).getD 0) else 0

/-- The engine as its status counts it at a cycle: with the cycles of a freeze in progress (R95). -/
def Engine.counted (g : Engine) (cycle : Nat) : Engine :=
  { g with n := { g.n with
      latenessMax := max g.n.latenessMax (g.lateNow cycle)
      freezeCycles := satAdd 64 g.n.freezeCycles (((g.q.frozenAt.map (cycle - ·)).getD 0) - g.q.frzSeen) } }

/-- The engine once its counters have been read: the L that stands counts towards the next lateness_max (R95). -/
def Engine.countRead (g : Engine) (cycle : Nat) : Engine :=
  { g with n := { latenessMax := g.lateNow cycle }, q := { g.q with frzSeen := (g.q.frozenAt.map (cycle - ·)).getD 0 } }

/-- An engine status record (R95). -/
def Engine.bytes (g : Engine) (e cycles : Nat) : List Byte :=
  leBytes 1 e ++ leBytes 1 g.state ++ leBytes 1 g.half.val ++ [0] ++ leBytes 4 g.q.slot ++ leBytes 4 g.q.lateL
    ++ leBytes 4 g.n.latenessMax ++ leBytes 4 g.n.freezes ++ leBytes 8 g.n.freezeCycles ++ leBytes 4 g.n.floorBlocks
    ++ leBytes 4 g.n.substs ++ leBytes 4 g.n.poisoned ++ leBytes 4 g.n.dropped ++ leBytes 4 g.n.eccFixed
    ++ leBytes 8 cycles ++ leBytes 8 0

/-- ENGINE_STATUS (R95, 0x0B01): counters are cleared on read. -/
def execEngineStatus (h : Hdr) (first count : Nat) (s : State) : Host.Outcome State Fault Refusal :=
  .next (runCmd Cmd.engineStatus h (fun s =>
    if count = 0 ∨ 16 < first + count then (s, .refuse 0x0B02 [])
    else
      let one := fun (e : Nat) => match finOf 16 e with
        | some i => ((vget s.engines i).counted s.cycle).bytes e (s.engineCycle e)
        | none => []
      let engines := (List.finRange 16).foldl (fun (v : Vector Engine 16) i =>
        if first ≤ i.val ∧ i.val < first + count then vmod v i (fun g => g.countRead s.cycle) else v) s.engines
      ({ s with engines := engines }, ok (recordsFrom one first count))) s)

end Sys2Proof.Machine
end

