-- ==== Sys2Proof/Machine/Ingest.lean ====
section
/-! DEFINITION. Frame marks, lines and window closes (R32, R93, R139 to R144, R188, R197, R199, R343, R348 to R350, R493),
and the run-time rate commands and the context status (R187, R188, 0x0301, 0x0302, 0x0B03). -/

namespace Sys2Proof.Machine

/-! ### Frame marks -/

/-- A rate change takes effect at the context's mark n (R93, R188, R191). -/
def State.applyRate (s : State) (p : Production) (c : Ctx) (n : Nat) : State :=
  let x := s.ctxSt c.context
  match x.pending with
  | none => s
  | some h =>
    if n < h.frame then s
    else
      -- a frame-shared context's earlier change may still wait for its slot
      let all := match x.due with | some d => h.over_ d.1 | none => h
      let s1 := s.setCtx c.context { x with
        pending := none, due := if c.mode = 1 then some (all, List.range c.tiles) else x.due }
      let s2 := if c.mode = 1 then s1
        else (List.range c.tiles).foldl (fun (t : State) i =>
          match finOf 16 (c.engines.getD i 16) with
          | none => t
          | some e =>
            let g := vget t.engines e
            match g.record c.context with
            | some r => t.setEngine e (g.setRecord c.context { r with box := r.box.change h })
            | none => t) s1
      let b := (((s.recordOf c 0).getD ((p.tile c 0).firstRec p.id)).box.change all).core
      s2.raise (s.ev c.context 0x0305 [(4, n), (1, b.schedSel), (4, b.rAvg), (1, b.qpLo), (1, b.qpHi)])

/-- The reconstruction digest of a row (R493): the CRC-32C of its CTU digests in tile order. -/
def State.rowDigest (s : State) (c : Ctx) (buffer k : Nat) : Nat :=
  crc32c ((List.range c.tiles).flatMap (fun t => (List.range (c.tileW t)).flatMap (fun x =>
    leBytes 4 (cget CtuCrf.none_ s.ddr.refs (refKey c.context buffer t (k * c.tileW t + x))).digest)))

/-- The FRAME_RECORD of a context's latest ended frame (R493). -/
def State.frameRec (s : State) (p : Production) (c : Ctx) (f : FrameEnd) : FrameRec :=
  let x := s.ctxSt c.context
  let q := cget {} s.flow.queues c.context
  let b := f.box.core
  { context := c.context, rows := c.rows, frameCount := f.frame % 2 ^ 32, production := p.id, floorRows := b.floorRows
    box := { b with pending := x.pending.map (fun h =>
      (h.sched.getD b.schedSel, h.qpLo.getD b.qpLo, h.qpHi.getD b.qpHi, h.rAvg.getD b.rAvg, h.frame % 2 ^ 32)) }
    lx := (List.range 128).map (fun k => cget 0 f.box.lx k), qpRowPrev := (List.range 128).map (fun k => cget 0 f.box.qpPrev k)
    blocks := f.blocks, nextSeq := q.next, acked := q.acked
    digests := (List.range c.rows).map (fun k =>
      (s.rowDigest c f.buffer k, crc32c (cget {} x.rows (128 * f.frame + k)).bytes)) }

/-- The lead's FRAME_RECORD, and the resident records written to DDR5 for its block digests (R92, R493). -/
def State.sendRecord (s : State) (p : Production) (c : Ctx) : State :=
  match (s.ctxSt c.context).lastEnd with
  | none => s
  | some f =>
    if s.twin.role ≠ 1 ∨ s.twin.mode ≠ 1 then s
    else
      let s1 := s.send 11 6 0x60 (recBytes (s.frameRec p c f))
      if c.mode = 1 then s1
      else (List.range c.tiles).foldl (fun (t : State) i =>
        match finOf 16 (c.engines.getD i 16) with
        | none => t
        | some e =>
          match (vget t.engines e).record c.context with
          | none => t
          | some r =>
            { t with ddr := t.ddr.writeRec ⟨e, p.region 1 c.context, 4 * c.context + i, r⟩ t.time.fclk }.noteQueues t.ddr) s1

/-- A context at its frame mark (R93, R188, R197, R493). -/
def State.contextMark (s : State) (p : Production) (c : Ctx) (n : Nat) : State :=
  let s1 := s.geometryLatch p c n
  let x := s1.ctxSt c.context
  let s2 := s1.setCtx c.context { x with
    closed := cdrop (512 * (n - 2)) x.closed, repeats := cdrop (512 * (n - 2)) x.repeats
    previewBad := cdrop (512 * (n - 2)) x.previewBad, previewLines := cdrop (8192 * (n - 2)) x.previewLines
    stats := cdrop (n - 2) x.stats, rows := cdrop (128 * (n - 3)) x.rows }
  (s2.applyRate p c n).sendRecord p c

/-- The mark of a source's frame n goes out on each link that carries the source (R343, R347). -/
def State.sayMark (s : State) (q : Source) (source n : Nat) : State :=
  ((q.links.filter (fun l => decide (l < 12))).dedup).foldl (fun (t : State) l =>
    match finOf 12 l with
    | some i => t.send i 1 0x11 (leBytes 2 source ++ leBytes 2 (n % 65536) ++ leBytes 4 0 ++ leBytes 8 s.now)
    | none => t) s

/-- FRAME_MARK of a source that the production in force declares (R32, R343, R347, R395). -/
def execFrameMark (source : Nat) (s : State) : Host.Outcome State Fault Refusal :=
  .next (
    match s.prodAt s.time.tick with
    | none => s
    | some p =>
      match p.source source with
      | none => s
      | some q =>
        if s.up = false ∨ isMark (q.rateNum, q.rateDen) s.time.tick = false then s
        else
          let n := markIndex q.rateNum q.rateDen s.time.tick
          (p.contexts.filter (fun c => c.source == source)).foldl (fun (t : State) c => t.contextMark p c n)
            (s.sayMark q source n))

/-! ### Lines -/

/-- A LINE body (R348). -/
def lineMsgBytes (m : LineMsg) : List Byte :=
  leBytes 2 m.source ++ leBytes 2 m.frameCount ++ leBytes 2 m.line ++ leBytes 2 m.firstPixel ++ leBytes 2 m.pixelCount
    ++ leBytes 1 m.format ++ List.replicate 5 0 ++ m.data

/-- The column range that a pixel lies in (R342). -/
def Source.rangeOf (q : Source) (x : Nat) : Option Nat :=
  (List.range q.linkCount).find? (fun i =>
    decide (q.xStart.getD i 0 ≤ x) && decide (x < (if i + 1 < q.linkCount then q.xStart.getD (i + 1) 0 else q.width)))

/-- The first case of R350 that a line of a declared source falls under. -/
def Source.rejects (q : Source) (link : Nat) (m : LineMsg) : Option Nat :=
  match q.rangeOf m.firstPixel with
  | none => some 1
  | some i =>
    let last := if i + 1 < q.linkCount then q.xStart.getD (i + 1) 0 else q.width
    if q.links.getD i 0xFF ≠ link then some 1
    else if last < m.firstPixel + m.pixelCount then some 2
    else if m.format ≠ q.format then some 3
    else if m.data.length ≠ ceilDiv (lineBits m.format m.line m.pixelCount) 8 then some 4
    else if q.height ≤ m.line then some 5
    else if m.firstPixel % 2 = 1 ∨ m.pixelCount % 2 = 1 ∨ m.pixelCount < 2 ∨ 8192 < m.pixelCount then some 6
    else none

/-- The production and the frame that a line belongs to (R52, R343). -/
def State.lineFrame (s : State) (m : LineMsg) : Option (Production × Source × Nat) :=
  s.prods.findSome? (fun x => (x.1.source m.source).bind (fun q =>
    (frameOf (markIndex q.rateNum q.rateDen s.time.tick) m.frameCount).bind (fun n =>
      if inRange x (markTick q.rateNum q.rateDen n) then some (x.1, q, n) else none)))

/-- A declared source's entry: the frame's production's, or any that declares it. -/
def State.lineSource (s : State) (m : LineMsg) : Option Source :=
  match s.lineFrame m with
  | some x => some x.2.1
  | none => s.prods.findSome? (fun x => x.1.source m.source)

/-- A line is discarded (R350): counted, and reported within its rate. -/
def State.rejectLine (s : State) (link : Fin 12) (m : LineMsg) (q : Option Source) (cause : Nat) : State :=
  let l := vget s.links link
  let count := satAdd 32 l.rejected 1
  let key := 8 * m.source + cause
  let last := cget 0 s.lineRejects key
  let period : Nat → Nat := fun tick => match q with | some q => markIndex q.rateNum q.rateDen tick | none => tick / 800000
  let due := decide (last = 0) || decide (period (last - 1) < period s.time.tick)
  let s1 := s.setLink link { l with rejected := count }
  let s2 := if due then { s1 with lineRejects := cset 0 s1.lineRejects key (1 + s.time.tick) } else s1
  s2.raiseAll (evIf due (s.ev 824 0x071B [(2, m.source), (2, link.val), (1, cause), (4, count)]))

/-- Byte offset of a line's first pixel in a buffer of its source, whose lines follow one another as R349 packs them
(notes/assumptions/7). -/
def Source.lineOffset (q : Source) (m : LineMsg) : Nat :=
  m.line * ceilDiv (lineBits q.format 0 q.width) 8 + lineBits q.format 0 m.firstPixel / 8

/-- The layer ring as a line leaves it. -/
def State.ringAfter (s : State) (p : Production) (q : Source) (n : Nat) (m : LineMsg) : Ring :=
  ((s.ringOf p m.source).line q n m (fun i => s.heldBy (s.ringKind p m.source) m.source i)).1

/-- An accepted line reaches its contexts and its layer ring (R102, R139 to R142, R199, R424). Port P21 writes what is new of
it into the source's frame buffer and into its ring; a copy that brings nothing new is not written. -/
def State.takeLine (s : State) (p : Production) (q : Source) (n : Nat) (m : LineMsg) : State :=
  let cs := p.contexts.filter (fun c => c.source == m.source)
  let bytes := m.data.length
  let shared := cs.any (fun c => c.mode == 1 && s.lineBrings p c n m == 2)
  let ring := decide ((p.shownBy m.source) ≠ []) && q.ringOpen n s.time.tick
  let after := s.ringAfter p q n m
  let stores := ring && decide (after.bufs ≠ (s.ringOf p m.source).bufs)
  let room := s.ddr.hasRoom 21 ((boolNat shared + boolNat stores) * bytes)
  let s1 := cs.foldl (fun (t : State) c => t.ctxLine p c n m room) s
  let s2 := if ring && (room || !stores) then s1.ringLine p q n m else s1
  if shared = false ∧ stores = false then s2
  else if room then
    let buf := ((after.bufferOf n).map (·.val)).getD 0
    let put := fun (on : Bool) (kind index : Nat) (d : Ddr) =>
      if on then d.writeRole 21 (p.region kind index + q.lineOffset m) bytes s2.time.fclk else d
    { s2 with ddr := put stores 4 (3 * m.source + buf) (put shared 3 (2 * m.source + n % 2) s2.ddr) }
  else s2.portFull 21 bytes

/-- A line at its delivery (R326, R350): discarded with the first case that applies, or offered to its frame. A body shorter than
its header (`short`) disagrees with any pixel_count. -/
def State.lineComes (s : State) (link : Fin 12) (m : LineMsg) (short : Bool) : State :=
  match s.lineSource m with
  | none => s.rejectLine link m none 0
  | some q =>
    match (if short then some (min 4 ((q.rejects link m).getD 4)) else q.rejects link m) with
    | some cause => s.rejectLine link m (some q) cause
    | none =>
      match s.lineFrame m with
      | some (p, q, n) => if s.up then s.takeLine p q n m else s
      | none => s

/-- LINE (R7, R22, R139 to R142, R326, R343, R348 to R350, R363), as at its delivery. In a warm entry every window is closed. -/
def execLine (link : Fin 12) (m : LineMsg) (s : State) : Host.Outcome State Fault Refusal :=
  .next (
    let whole := s.hasMsg link 2 0x20 (lineMsgBytes m) (reserved [(11, 5)])
    if whole || (m.data.isEmpty && s.hasShort link 2 0x20 (lineMsgBytes m) (reserved [(11, 5)])) then
      (s.atDelivery link 2 (fun t => t.lineComes link m (!whole))).popInbox link 2
    else s)

/-! ### Window closes -/

/-- The frame whose row WINDOW_CLOSE settles: the latest whose window has closed and that has not been settled (R140,
R141). -/
def State.closing (s : State) (context tile row : Nat) : Option (Production × Ctx × Nat) :=
  s.prods.reverse.findSome? (fun x => (x.1.ctx context).bind (fun c =>
    if tile < c.tiles ∧ row < c.rows then
      let i := c.indexAt s.time.tick
      [i + 1, i, i - 1].findSome? (fun n =>
        let w := c.window (x.1.tab (c.engines.getD tile 0)) n row
        if inRange x (c.markTick n) ∧ w.2 ≤ s.cycle ∧ cget false (s.ctxSt context).closed (rowKey n tile row) = false then
          some (x.1, c, n)
        else none)
    else none))

/-- WINDOW_CLOSE of a context's row on one tile (R140, R141, R144, R147). -/
def execWindowClose (context : Nat) (tile : Nat) (row : Nat) (s : State) : Host.Outcome State Fault Refusal :=
  .next (
    match s.closing context tile row with
    | some (p, c, n) => if s.up then s.closeRow p c n tile row else s
    | none => s)

/-! ### Rate commands -/

/-- The frame mark at which a change accepted now takes effect (R188): the first at least 100 µs away. -/
def State.effectFrame (s : State) (c : Ctx) : Nat :=
  let t := tickOf (s.now + 100000)
  let n := c.indexAt t
  if c.markTick n = t then n else n + 1

/-- A change is accepted: it replaces a pending one field by field (R188). -/
def State.acceptRate (s : State) (c : Ctx) (h : RateChange) : State × Reply :=
  let x := s.ctxSt c.context
  let n := s.effectFrame c
  let h := { h with frame := n }
  (s.setCtx c.context { x with pending := some (match x.pending with | some o => h.over_ o | none => h) },
    .accept (leBytes 4 n) true)

/-- CONTEXT_RATE_SET (R187, R188). -/
def execContextRateSet (h : Hdr) (context schedSel rAvg : Nat) (s : State) : Host.Outcome State Fault Refusal :=
  .next (runCmd Cmd.contextRateSet h (fun s =>
    match s.running.bind (fun p => (p.ctx context).map (fun c => (p, c))) with
    | none => (s, .refuse 0x0303 [])
    | some (p, c) =>
      let b := p.boxOf c
      let rate := (b.scheds.getD schedSel (0, 0)).1
      if b.schedCount ≤ schedSel ∨ b.mode = 0 ∧ schedSel ≠ 0 ∨ b.mode = 1 ∧ (rAvg < b.rAvgMin ∨ rate < rAvg) then
        (s, .refuse 0x0301 [])
      else s.acceptRate c { sched := some schedSel, rAvg := if b.mode = 1 then some rAvg else none }) s)

/-- CONTEXT_QP_LIMITS_SET (R187, R188). -/
def execContextQpLimitsSet (h : Hdr) (context : Nat) (qpLo : Int) (qpHi : Nat) (s : State) :
    Host.Outcome State Fault Refusal :=
  .next (runCmd Cmd.contextQpLimitsSet h (fun s =>
    match s.running.bind (fun p => (p.ctx context).map (fun c => (p, c))) with
    | none => (s, .refuse 0x0303 [])
    | some (p, c) =>
      let b := p.boxOf c
      if qpLo < b.qpLoMin ∨ (qpHi : Int) < qpLo ∨ b.qpHiMax < qpHi then (s, .refuse 0x0302 [])
      else s.acceptRate c { qpLo := some qpLo, qpHi := some (qpHi : Int) }) s)

/-- The context status record: sums over the tiles, and the first tile's settings. -/
def State.ctxBytes (s : State) (context : Nat) : List Byte :=
  let x := s.ctxSt context
  let recs := match s.running.bind (fun p => p.ctx context) with
    | some c => (List.range c.tiles).filterMap (fun t => s.recordOf c t)
    | none => []
  let r := recs.headD {}
  let sum := fun (f : BoxRec → Nat) => (recs.map (fun y => f y.box.core)).sum
  leBytes 2 context ++ leBytes 1 x.state ++ leBytes 1 (boolNat r.sweeping + 2 * boolNat r.captured) ++ leBytes 4 x.frame
    ++ leBytes 4 (sum (·.frameBits)) ++ leBytes 2 (sum (·.floorCtus)) ++ leBytes 2 (sum (·.clipped))
    ++ rowMap (recs.flatMap (fun y => y.box.core.floorLast)) ++ leBytes 4 x.rowsRepeated ++ leBytes 4 x.linesDup
    ++ leBytes 4 x.lateReads ++ leBytes 1 r.box.core.schedSel ++ leInt 1 r.box.core.qpLo ++ leInt 1 r.box.core.qpHi
    ++ leBytes 1 ((recs.map (fun y => y.box.core.cause)).foldl Nat.lor 0) ++ leBytes 4 r.box.core.rAvg ++ leBytes 4 x.sweeps
    ++ leBytes 4 x.starts ++ leBytes 4 0

/-- CONTEXT_STATUS: its counters are cleared on read. -/
def execContextStatus (h : Hdr) (context : Nat) (s : State) : Host.Outcome State Fault Refusal :=
  .next (runCmd Cmd.contextStatus h (fun s =>
    if 512 ≤ context then (s, .refuse 0x0B02 [])
    else
      let x := s.ctxSt context
      (s.setCtx context { x with rowsRepeated := 0, linesDup := 0, lateReads := 0, sweeps := 0, starts := 0 },
        ok (s.ctxBytes context))) s)

end Sys2Proof.Machine
end

