-- ==== Sys2Proof/Machine/Composition.lean ====
section
/-! DEFINITION. The commands of composition: latches, layers, graphics and preview (R197, R206, R207, R209 to R212, R353,
0x0401 to 0x0404). -/

namespace Sys2Proof.Machine

/-! ### The content latch -/

/-- The frame of a context whose composition starts at the present tick (R197). -/
def State.startsNow (s : State) (context : Nat) : Option SlotPlace :=
  s.prods.findSome? (fun x => (x.1.ctx context).bind (fun c => (finOf 16 c.firstEngine).bind (fun e =>
    (List.range (x.1.tab e).slots.length).findSome? (fun i => (s.slotPlace e i).filter (fun p =>
      p.ctx.context == context && (p.ctx.mode == 1 || p.slot.row == 0))))))

/-- CONTENT_LATCH (R197, R207, R218, R221, R227). -/
def execContentLatch (context : Nat) (s : State) : Host.Outcome State Fault Refusal :=
  .next (
    match s.startsNow context with
    | some p => if s.slotsRun p.ctx p.frame then s.contentLatchAt p.prod p.ctx p.frame s.time.tick else s
    | none => s)

/-! ### Layer commands -/

/-- The layer that a command names: the production, the context and the used layer. -/
def State.layerAt (s : State) (context layer : Nat) : Option (Production × Ctx × Layer) :=
  s.running.bind (fun p => (p.ctx context).bind (fun c => (p.sets[c.layers]?).bind (fun l =>
    ((l.layers[layer]?).filter (fun y => y.kind != 0)).map (fun y => (p, c, y)))))

/-- A change of a layer joins those that wait for the geometry latch; one of the same kind that waits is replaced
(R209). -/
def State.changeLayer (s : State) (c : Ctx) (h : LayerChange) : State × Reply :=
  let x := s.ctxSt c.context
  let n := s.effectFrame c
  let same := fun (o : LayerChange) => o.layer == h.layer && o.geo.isSome == h.geo.isSome
  (s.setCtx c.context { x with changes := (x.changes.filter (fun o => !same o)) ++ [{ h with frame := n }] },
    .accept (leBytes 4 n) true)

/-- LAYER_GEOMETRY_SET (R195, R201, R209). -/
def execLayerGeometrySet (h : Hdr) (context layer : Nat) (dst src : Rect) (s : State) : Host.Outcome State Fault Refusal :=
  .next (runCmd Cmd.layerGeometrySet h (fun s =>
    match s.layerAt context layer with
    | none => (s, .refuse 0x0412 [])
    | some (p, c, l) =>
      if l.fits p.pairs ((List.range c.tiles).map c.tilePx) dst src then
        s.changeLayer c { layer := layer, frame := 0, geo := some (dst, src) }
      else (s, .refuse 0x0410 [])) s)

/-- LAYER_OPACITY_SET (R206, R209). -/
def execLayerOpacitySet (h : Hdr) (context layer opacity : Nat) (s : State) : Host.Outcome State Fault Refusal :=
  .next (runCmd Cmd.layerOpacitySet h (fun s =>
    match s.layerAt context layer with
    | none => (s, .refuse 0x0412 [])
    | some (_, c, l) =>
      if 256 < opacity ∨ l.opaque_ = true ∧ opacity ≠ 256 then (s, .refuse 0x0410 [])
      else s.changeLayer c { layer := layer, frame := 0, opacity := some opacity }) s)

/-- One layer's 24 bytes of LAYER_STATUS: its latched geometry and state. -/
def layerBytes (l : Layer) (g : Geo) (state stale : Nat) : List Byte :=
  leBytes 1 l.kind ++ leBytes 1 state ++ [0, 0] ++ leBytes 4 stale ++ Rect.bytes g.dst ++ Rect.bytes g.src

/-- LAYER_STATUS (R209): the geometry of the latest geometry latch, the states of the latest content latch. -/
def execLayerStatus (h : Hdr) (context : Nat) (s : State) : Host.Outcome State Fault Refusal :=
  .next (runCmd Cmd.layerStatus h (fun s =>
    match s.running.bind (fun p => (p.ctx context).bind (fun c => p.sets[c.layers]?)) with
    | none => (s, .refuse 0x0412 [])
    | some set =>
      let x := s.ctxSt context
      let l := x.latches.headD {}
      let shown := (x.latches.find? Latch.content).getD {}
      (s, ok ((List.range 8).flatMap (fun i =>
        let y := set.layers.getD i {}
        layerBytes y (l.geo.getD i y.geo) (shown.states.getD i 0) (x.notReady.getD i 0))))) s)

/-! ### Graphics -/

/-- A pair's commit: the back buffer becomes the front (R210); none where the pair is unknown or its back buffer has not
been released. -/
def State.commitPair (s : State) (pair : Nat) : Option State :=
  let g := cget {} s.pairs pair
  if pair < ((s.running.map (fun p => p.pairs.length)).getD 0) ∧ g.backFree then
    some { s with pairs := cset {} s.pairs pair { g with front := 1 - g.front, committed := true, backFree := false } }
  else none

/-- GRAPHIC_COMMIT (R209, R210). -/
def execGraphicCommit (h : Hdr) (pair : Nat) (s : State) : Host.Outcome State Fault Refusal :=
  .next (runCmd Cmd.graphicCommit h (fun s =>
    match s.commitPair pair with
    | some s1 => (s1, .accept [] true)
    | none => (s, .refuse 0x0411 [])) s)

/-- A VC5 commit packet (R210, R353); one that GRAPHIC_COMMIT would refuse changes nothing. -/
def execGraphicCommitPacket (link : Fin 12) (pair : Nat) (s : State) : Host.Outcome State Fault Refusal :=
  .next (
    if s.hasMsg link 5 0x52 (leBytes 2 pair ++ List.replicate 6 0) (reserved [(2, 6)]) = false then s
    else let s1 := s.popInbox link 5; (s1.commitPair pair).getD s1)

/-- GRAPHIC_WRITE (R210, R353, R358, R424): pixel words land in the back buffer, within its size. -/
def execGraphicWrite (link : Fin 12) (pair : Nat) (offset : Nat) (data : List Byte) (s : State) :
    Host.Outcome State Fault Refusal :=
  .next (
    if s.hasMsg link 5 0x51 (leBytes 2 pair ++ [0, 0] ++ leBytes 4 offset ++ data) (reserved [(2, 2)]) = false then s
    else
      let s1 := s.popInbox link 5
      let g := cget {} s1.pairs pair
      match s1.running.bind (fun p => (p.pairs[pair]?).map (fun y => (p, y))) with
      | none => s1
      | some (p, y) =>
        if g.backFree = false then s1.raise (s1.ev (632 + link.val) 0x071C [(2, pair), (4, data.length)])
        else if s1.ddr.hasRoom 21 data.length = false then s1.portFull 21 data.length
        else
          let back := 1 - g.front
          let bytes := data.take (y.stride * y.height - offset)
          let buf := writeBytes (g.buf back) offset bytes
          { s1 with
            pairs := cset {} s1.pairs pair (if back = 0 then { g with buf0 := buf } else { g with buf1 := buf })
            ddr := s1.ddr.writeRole 21 (p.region 5 (2 * pair + back) + offset) data.length s1.time.fclk })

/-- The contexts that show a graphic pair. -/
def Production.showsPair (p : Production) (pair : Nat) : List Ctx :=
  p.contexts.filter (fun c => (p.sets.getD c.layers {}).layers.any (fun l => l.kind == 2 && l.source == pair))

/-- GRAPHIC_RELEASED (R210, R227): no frame in composition holds the former front buffer. The event uses the source of the
first context that shows the pair. -/
def execGraphicReleased (pair : Nat) (s : State) : Host.Outcome State Fault Refusal :=
  let g := cget {} s.pairs pair
  .next (
    if g.backFree ∨ s.heldBy 2 pair (1 - g.front) then s
    else
      let s1 := { s with pairs := cset {} s.pairs pair { g with backFree := true } }
      let cs := (s.running.map (fun p => p.showsPair pair)).getD []
      s1.raiseAll ((cs.take 1).map (fun c => s.ev c.context 0x0407 [(2, pair)])))

/-! ### Preview -/

/-- The tick at which a preview line of frame n is sent (R212), rounded down. -/
def Production.previewTick (p : Production) (c : Ctx) (n line : Nat) : Nat :=
  let t := p.tab c.firstEngine
  let mark := c.markTick n
  if c.mode = 0 then
    let sl := (t.slotsOf c.context).getD (line / 64) {}
    mark + (sl.offset + sl.duration) / 2 + 32000 + line % 64 * c.rateDen * 800000000 / (c.rateNum * c.totalLines)
  else
    let d := ((t.slotsOf c.context).headD {}).duration
    let frame := c.markTick (n + 1) - mark
    mark + frame + ceilDiv (4 * c.slotEnd) 5 + 32000 + line * (frame - d / 2 - 64000) / c.height

/-- The frame whose preview line is due at this tick (R211). -/
def State.previewFrame (s : State) (context line : Nat) : Option (Production × Ctx × Nat) :=
  s.prods.findSome? (fun x => (x.1.ctx context).bind (fun c =>
    let i := c.indexAt s.time.tick
    [i, i - 1, i - 2].findSome? (fun n =>
      if inRange x (c.markTick n) ∧ line < c.height ∧ x.1.previewTick c n line = s.time.tick then some (x.1, c, n) else none)))

/-- A line of a frame's preview has come back from DDR5 sound (R212). -/
def State.previewHere (s : State) (c : Ctx) (n line : Nat) : Bool :=
  let x := s.ctxSt c.context
  let serves : ReadFor := .preview c.context n (line / 16)
  decide (cget [] x.previewLines (8192 * n + line) ≠ []) && !(s.ddr.reads.any (fun r => decide (r.2 = serves)))
    && !(cget false x.previewBad (512 * n + line / 16))

/-- A preview line goes out, one packet for each tile, or is skipped (R211, R212, R227, R310). -/
def State.sendPreview (s : State) (c : Ctx) (set : LayerSet) (link : Fin 12) (n line : Nat) : State :=
  let data := cget [] (s.ctxSt c.context).previewLines (8192 * n + line)
  if s.previewHere c n line then
    (List.range c.tiles).foldl (fun (t : State) i =>
      let px := c.tilePx i
      t.send link 2 0x20 (lineMsgBytes ⟨set.prevSource, n % 65536, line, px.1, px.2 - px.1, previewFormat c.chroma,
        data.getD i []⟩)) s
  else
    let x := s.ctxSt c.context
    let k := satAdd 32 x.previewSkips 1
    State.raise (s.setCtx c.context { x with previewSkips := k }) (s.ev c.context 0x0406 [(4, n), (4, k)])

/-- PREVIEW_LINE_SEND (R211, R212, R227, R310). -/
def execPreviewLineSend (context : Nat) (line : Nat) (s : State) : Host.Outcome State Fault Refusal :=
  .next (
    match s.previewFrame context line with
    | none => s
    | some (p, c, n) =>
      let set := p.sets.getD c.layers {}
      match finOf 12 set.prevLink with
      | none => s
      | some link =>
        if set.preview = false ∨ s.up = false ∨ s.twin.role = 2 then s else s.sendPreview c set link n line)

end Sys2Proof.Machine
end

