-- ==== Sys2Proof/Machine/GreenRoom.lean ====
section
/-! DEFINITION. The green room: the 0x02xx commands and SWAPPING (R49 to R54, R432, R433, R441, R481 to R484). -/

namespace Sys2Proof.Machine

/-- The green room with a new state, and GREEN_ROOM_STATE where it changes (R50, R484). -/
def State.greenTo (s : State) (g : GreenRoom) : State :=
  let old := s.green.state
  State.raiseAll { s with green := g } (evIf (decide (old ≠ g.state)) (s.ev 825 0x0220 [(1, old), (1, g.state)]))

/-- The checks of R393, R431, R432, R433 and R441 on a production about to be cued; the code of the first that fails. -/
def State.cueBlock (s : State) (p : Option Production) : Option Nat :=
  let d := (p.getD {}).descr
  let r := (s.running.getD {}).descr
  let b := (s.before.getD {}).descr
  if s.time.valid = false then some 0x0245
  else if s.ddrFailed then some 0x0248
  else if p.isSome ∧ s.running.isSome ∧ (d.channels, d.rate, d.refresh, d.interleave, d.density, d.ranks)
      ≠ (r.channels, r.rate, r.refresh, r.interleave, r.density, r.ranks) then some 0x0246
  else if p.isSome ∧ s.flow.hasSaved ∧ s.before.isSome ∧ (d.channels, d.interleave, d.density, d.ranks)
      ≠ (b.channels, b.interleave, b.density, b.ranks) then some 0x0247
  else if inTarget s.boot.vcoreCode (vget s.mon.supply 0) = false then some 0x0249
  else none

/-- The ready time: 200 µs from now, or 2.2 ms where the cue changes the DDR5 rate (R54). -/
def State.readyTime (s : State) (p : Production) : Nat :=
  s.now + (if s.running.isNone ∧ p.descr.rate ≠ s.ddr.rate then 2200000 else 200000)

/-- DDR5 under the cued production's settings before the first cue (R432): the rate changes, and is reported. -/
def State.cueDdr (s : State) (p : Production) : State :=
  if s.running.isSome then s
  else
    let d := p.descr
    State.raiseAll
      { s with ddr := { s.ddr with rate := d.rate, refresh := d.refresh, interleave := d.interleave } }
      (evIf (decide (d.rate ≠ s.ddr.rate)) (s.ev 722 0x091B [(1, s.ddr.rate), (1, d.rate)]))

/-- The cue is set: CUED, CUE_SET, and CUE_DEFERRED (R54, R482). -/
def State.setCue (s : State) (p : Production) (point : Nat) (deferred : Bool) : State :=
  let s1 := (s.cueDdr p).greenTo { s.green with state := 4, request := none, cuePoint := point }
  s1.raiseAll (s.ev 825 0x0221 [(8, point), (4, p.id)] :: evIf deferred (s.ev 825 0x0222 [(8, point)]))

/-- A pending cue is cancelled with a reason (R53, R54). -/
def State.cancelCue (s : State) (reason : Nat) : State :=
  State.raise { s with green := { s.green with request := none } } (s.ev 825 0x0223 [(2, reason)])

/-- A passed admission: ADMITTED with the production (R48, R482). -/
def State.admitted (s : State) : State :=
  s.greenTo { s.green with state := 3, prod := some (production s.green.staging) }

/-- A refused admission of an image whose signature fails raises SIGNATURE_REFUSED under the command that ran it (R48, R533). -/
def State.noteRefusal (s : State) (opcode : Nat) (d : Detail) : State :=
  if d.reason = 0x0203 then s.sigRefused opcode 2 d.reason else s

/-- A pending cue once loading is complete: admission, then the cue point (R54, R482). -/
def State.runPending (s : State) : State :=
  match s.green.request with
  | none => s
  | some request =>
    match s.admission s.green.staging with
    | some d => (({ s with green := { s.green with detail := d } } : State).noteRefusal 0x0203 d).cancelCue d.reason
    | none =>
      let s1 := s.admitted
      let p := production s.green.staging
      match s1.cueBlock (some p) with
      | some c => s1.cancelCue c
      | none =>
        match fixCue s.running p request (s1.readyTime p) s.cycle with
        | .error c => s1.cancelCue c
        | .ok (point, deferred) => s1.setCue p point deferred

/-- The loaded image's tables enter the green-room halves (R50, R70, R71). An engine that has still to switch takes them
when it does (R55). -/
def State.writeHalves (s : State) (img : List Byte) : State :=
  let p := parseImage img
  { s with engines := Vector.ofFn (fun e : Fin 16 =>
      let g := vget s.engines e
      match p.engine e with
      | none => g
      | some t => if g.switchDue then g else { g with halves := vset g.halves (1 - g.half) t }) }

/-- PRODUCTION_LOAD of one accepted chunk (R481). -/
def State.loadChunk (s : State) (offset : Nat) (chunk : List Byte) : State × Reply :=
  let g := s.green
  let staging := if offset = 0 then chunk else g.staging ++ chunk
  let size := if offset = 0 then field chunk 8 4 else g.size
  let done := decide (staging.length = size)
  let st := if done then 2 else 1
  let s1 := s.greenTo { g with state := st, staging := staging, size := size, prod := none }
  let s2 := if done then (s1.writeHalves staging).runPending else s1
  (s2, ok (leBytes 4 staging.length ++ leBytes 1 st ++ [0, 0, 0]))

/-- PRODUCTION_LOAD (R51, R481). -/
def execProductionLoad (h : Hdr) (imageOffset length bulkOffset : Nat) (s : State) : Host.Outcome State Fault Refusal :=
  .next (runCmd Cmd.productionLoad h
    (fun s =>
      let g := s.green
      let got := if g.state = 1 then g.staging.length else 0
      if 2 < g.state then (s, .refuse 0x0240 [])
      else if imageOffset ≠ got then (s, .refuse 0x0241 [])
      else if length = 0 then (s, .refuse 0x0006 [])
      else match s.bulk bulkOffset length with
        | none => (s, .refuse 0x0006 [])
        | some chunk =>
          let size := if imageOffset = 0 then field chunk 8 4 else g.size
          if imageOffset = 0 ∧ (length < 64 ∨ headerOk chunk = false) then (s, .refuse 0x0201 [])
          else if 48 * 2 ^ 20 < size then (s, .refuse 0x024A [])
          else if size < imageOffset + length then (s, .refuse 0x0241 [])
          else s.loadChunk imageOffset chunk) s)

/-- PRODUCTION_CHECK (R48, R49, R51, R482, R483). -/
def execProductionCheck (h : Hdr) (s : State) : Host.Outcome State Fault Refusal :=
  .next (runCmd Cmd.productionCheck h
    (fun s =>
      let g := s.green
      if g.state ≠ 2 ∧ g.state ≠ 3 then (s, .refuse 0x0240 [])
      else match s.admission g.staging with
        | some d =>
          ((s.greenTo { g with state := 2, prod := none, detail := d }).noteRefusal 0x0202 d, .refuse d.reason (d.bytes (s.host.sess.getD 2)))
        | none => (s.admitted, ok (leBytes 4 (production g.staging).id))) s)

/-- The result of PRODUCTION_CUE. -/
def cueResult (point id : Nat) (pending : Bool) : List Byte :=
  leBytes 8 point ++ leBytes 4 id ++ leBytes 1 (boolNat pending) ++ [0, 0, 0]

/-- PRODUCTION_CUE (R51 to R54, R482). A cue accepted in LOADED completes with PENDING, and its admission runs at once. -/
def execProductionCue (h : Hdr) (request : Nat) (s : State) : Host.Outcome State Fault Refusal :=
  .next
    (let go := fun (s : State) =>
      let g := s.green
      let id := if g.staging.length < 64 then 0 else field g.staging 0x14 4
      if g.state = 0 ∨ 3 < g.state then (s, .refuse 0x0240 [])
      else if g.state = 3 then
        match g.prod with
        | none => (s, .refuse 0x0240 [])
        | some p =>
          match s.cueBlock (some p) with
          | some c => (s, .refuse c [])
          | none =>
            match fixCue s.running p request (s.readyTime p) s.cycle with
            | .error c => (s, .refuse c [])
            | .ok (point, deferred) => (s.setCue p point deferred, .accept (cueResult point p.id false) true)
      else
        match s.cueBlock (if g.state = 2 then some (parseImage g.staging) else none) with
        | some c => (s, .refuse c [])
        | none => ({ s with green := { g with request := some request } }, .accept (cueResult 0 id true) true)
     let s1 := runCmd Cmd.productionCue h go s
     if s1.green.state = 2 then s1.runPending else s1)

/-- PRODUCTION_ABORT (R51). -/
def execProductionAbort (h : Hdr) (s : State) : Host.Outcome State Fault Refusal :=
  .next (runCmd Cmd.productionAbort h
    (fun s =>
      if s.green.state = 5 then (s, .refuse 0x0243 [])
      else (s.greenTo { detail := s.green.detail }, ok [])) s)

/-- PRODUCTION_STATUS (R50, R472, R483). -/
def execProductionStatus (h : Hdr) (s : State) : Host.Outcome State Fault Refusal :=
  .next (runCmd Cmd.productionStatus h
    (fun s =>
      let g := s.green
      let minor := s.host.sess.getD 2
      let id := if 64 ≤ g.staging.length then field g.staging 0x14 4 else 0
      let point := if g.state = 4 ∨ g.state = 5 then g.cuePoint else 0
      (s, ok (leBytes 4 ((s.running.map (·.id)).getD 0) ++ leBytes 4 id ++ leBytes 1 g.state
        ++ leBytes 1 (boolNat g.request.isSome + 2 * boolNat s.flow.hasSaved) ++ [0, 0] ++ leBytes 4 g.staging.length
        ++ leBytes 4 g.size ++ [0, 0, 0, 0] ++ leBytes 8 point ++ g.detail.bytes minor))) s)

/-- SWAPPING (R50, R54): 200 µs before the cue point. -/
def execSwapping (s : State) : Host.Outcome State Fault Refusal :=
  .next (if s.up ∧ s.green.state = 4 ∧ s.green.cuePoint ≤ s.now + 200000 then s.greenTo { s.green with state := 5 } else s)

end Sys2Proof.Machine
end

