-- ==== Sys2Proof/Machine/Packets.lean ====
section
/-! DEFINITION. What a ladle builds from a task: RTP and transport stream packets (R240, R254 to R258), and the filler
NAL units (R170, R249). Fields of RFC 3550, RFC 7798, RFC 9328, RFC 8285 and ISO/IEC 13818-1 stand in those standards'
bit order. -/

namespace Sys2Proof.Machine

/-! ### NAL units -/

/-- A filler data NAL unit that counts fb bytes with its start code (R167, R170). -/
def fillerNal (vvc : Bool) (fb : Nat) : List Byte :=
  (if vvc then [0x00, 0xC9] else [0x4C, 0x01]) ++ List.replicate (fb - 7) 0xFF ++ [0x80]

/-- One fragmentation unit: the payload header, the FU header and the bytes [o, o + n) of a NAL unit of `len` bytes whose
first two bytes are h0 and h1 (R255). `picEnd` says that the NAL unit is the picture's last. -/
def fuPacket (vvc picEnd : Bool) (h0 h1 : Byte) (o len : Nat) (data : List Byte) : List Byte :=
  let s := boolNat (decide (o = 2))
  let e := boolNat (decide (o + data.length = len))
  let x := h0.toNat
  let y := h1.toNat
  (if vvc then
      leBytes 1 x ++ leBytes 1 (29 * 8 + y % 8) ++ leBytes 1 (128 * s + 64 * e + 32 * (e * boolNat picEnd) + y / 8)
    else leBytes 1 (x / 128 * 128 + 98 + x % 2) ++ leBytes 1 y ++ leBytes 1 (128 * s + 64 * e + x / 2 % 64))
    ++ data

/-- The fragmentation units of the bytes from offset o to `stop` of a NAL unit (R246, R255). -/
def fuPackets (vvc picEnd : Bool) (h0 h1 : Byte) (f len : Nat) : Nat → Nat → List Byte → List (List Byte)
  | 0, _, _ => []
  | k + 1, o, data =>
    if data = [] then []
    else
      let d := data.take f
      fuPacket vvc picEnd h0 h1 o len d :: fuPackets vvc picEnd h0 h1 f len k (o + d.length) (data.drop f)

/-- The RTP payloads of a whole NAL unit (R255). -/
def nalPackets (vvc picEnd : Bool) (maxPacket : Nat) (n : List Byte) : List (List Byte) :=
  if n.length + 12 ≤ maxPacket then [n]
  else fuPackets vvc picEnd (n.getD 0 0) (n.getD 1 0) (maxPacket - 15) n.length n.length 2 (n.drop 2)

/-- The bytes of a VIDEO_CHUNK's segment. -/
def Task.segment (t : Task) : List Byte := (List.range t.bytes).map (fun i => sliceByte t.parts (t.start + i))

/-- The filler sizes that a task emits after its slice: those of every tile of the row, in tile order (R249). -/
def Task.fillers (t : Task) (st : StreamSt) : List Nat :=
  if t.rowEnd then (st.filler ++ [t.filler]).filter (fun n => decide (0 < n)) else []

/-- The RTP payloads of a video task (R249, R255). -/
def Task.videoPayloads (t : Task) (vvc : Bool) (maxPacket : Nat) (st : StreamSt) : List (List Byte) :=
  let fill := (t.fillers st).map (fillerNal vvc)
  let last := t.auEnd && fill.isEmpty
  let own :=
    match t.kind with
    | .auPrefix => t.nals.flatMap (nalPackets vvc false maxPacket)
    | _ =>
      if t.trunc.isSome then []
      else if t.nal + 12 ≤ maxPacket then [t.segment]
      else
        -- the payload header of a NAL unit's later fragments, and their place, stand in the stream's fragmentation state
        let first := t.start = 0
        let o := if first then 2 else st.frag.getD 2 t.start
        let h := fun (i : Nat) => if first then sliceByte t.parts i else BitVec.ofNat 8 (st.frag.getD i 0)
        fuPackets vvc last (h 0) (h 1) (maxPacket - 15) t.nal t.bytes o (if first then t.segment.drop 2 else t.segment)
  own ++ fill.zipIdx.flatMap (fun y => nalPackets vvc (t.auEnd && y.2 + 1 == fill.length) maxPacket y.1)

/-! ### Transport streams -/

/-- PCR bytes of a house time in ns (R257): base and extension of 27 MHz. -/
def pcrBytes (ns : Nat) : List Byte :=
  let x := ns * 27 / 1000
  beBytes 6 (x / 300 % 2 ^ 33 * 2 ^ 15 + 0x3F * 512 + x % 300)

/-- One TS packet: the header, an adaptation field when there is one, and the payload. -/
def tsPacket (pid cc : Nat) (pusi : Bool) (adapt : Option (List Byte)) (payload : List Byte) : List Byte :=
  [0x47] ++ beBytes 2 (boolNat pusi * 0x4000 + pid % 8192) ++ leBytes 1 ((if adapt.isSome then 0x30 else 0x10) + cc % 16)
    ++ (match adapt with | some a => leBytes 1 a.length ++ a | none => []) ++ payload

/-- The TS packets of PES bytes (R257): the packets, the bytes left, and the continuity counter after them. `flush` ends
the PES with stuffing in its last packet. -/
def tsCut (pid : Nat) (flush : Bool) : Nat → Nat → Bool → Option (List Byte) → List Byte → List (List Byte) × List Byte × Nat
  | 0, cc, _, _, d => ([], d, cc)
  | k + 1, cc, pusi, pcr, d =>
    let room := if pcr.isSome then 176 else 184
    let af := pcr.map (fun p => 0x10 :: p)
    if room ≤ d.length then
      let r := tsCut pid flush k (cc + 1) false none (d.drop room)
      (tsPacket pid cc pusi af (d.take room) :: r.1, r.2)
    else if flush = false ∨ d = [] then ([], d, cc)
    else
      let n := 183 - d.length   -- adaptation field bytes after its length
      let a := match af with
        | some a => a ++ List.replicate (n - a.length) 0xFF
        | none => if n = 0 then [] else 0x00 :: List.replicate (n - 1) 0xFF
      ([tsPacket pid cc pusi (some a) d], [], cc + 1)

/-- A PSI section in one TS packet: pointer field, section, CRC-32 and stuffing. -/
def psiPacket (pid cc : Nat) (section_ : List Byte) : List Byte :=
  let p := 0x00 :: section_ ++ beBytes 4 (crcOf 2 section_)
  tsPacket pid cc true none (p ++ List.replicate (184 - p.length) 0xFF)

/-- The program association section; its transport_stream_id is open. -/
def patSection (q : Strm) : List Byte :=
  [0x00, 0xB0, 0x0D, Config.codedByte 0 0, Config.codedByte 0 1, 0xC1, 0x00, 0x00] ++ beBytes 2 q.program
    ++ beBytes 2 (0xE000 + q.pidPmt % 8192)

/-- The program map section: one video stream, which carries the PCR. -/
def pmtSection (q : Strm) (vvc : Bool) : List Byte :=
  [0x02, 0xB0, 0x12] ++ beBytes 2 q.program ++ [0xC1, 0x00, 0x00] ++ beBytes 2 (0xE000 + q.pidVideo % 8192) ++ [0xF0, 0x00]
    ++ [if vvc then 0x33 else 0x24] ++ beBytes 2 (0xE000 + q.pidVideo % 8192) ++ [0xF0, 0x00]

/-- The PES header of an access unit: PTS, no DTS. -/
def pesHeader (time90 : Nat) : List Byte :=
  let t := time90 % 2 ^ 33
  [0x00, 0x00, 0x01, 0xE0, 0x00, 0x00, 0x80, 0x80, 0x05] ++ leBytes 1 (0x21 + t / 2 ^ 30 * 2)
    ++ beBytes 2 (t / 2 ^ 15 % 2 ^ 15 * 2 + 1) ++ beBytes 2 (t % 2 ^ 15 * 2 + 1)

/-- Byte-stream form of a NAL unit. -/
def startCode (n : List Byte) : List Byte := [0x00, 0x00, 0x00, 0x01] ++ n

/-- The byte stream that a video task adds to its PES. -/
def Task.tsBytes (t : Task) (vvc : Bool) (st : StreamSt) : List Byte :=
  (match t.kind with
    | .auPrefix => pesHeader t.time90 ++ t.nals.flatMap startCode
    | _ => if t.trunc.isSome then [] else if t.start = 0 then startCode t.segment else t.segment)
    ++ (t.fillers st).flatMap (fun n => startCode (fillerNal vvc n))

/-- TS packets in one item: at most seven, and no more than the stream's packets hold (R257, R259). -/
def Strm.tsInItem (q : Strm) : Nat := max 1 (min 7 ((q.maxPacket - (if q.rtp then 12 else 0)) / 188))

/-- A list in groups of at most n. -/
def groupsOf (n : Nat) : Nat → List (List Byte) → List (List Byte)
  | 0, _ => []
  | k + 1, l => if l = [] then [] else (l.take n).flatten :: groupsOf n k (l.drop n)

/-- A bare item of a FIXED_SIZE stream at its full length; the bytes that fill it are open (R256, notes/assumptions/47). -/
def Strm.fillBare (q : Strm) (item : List Byte) : List Byte :=
  if q.fixedSize ∧ q.rtp = false then item ++ (List.range (q.fixed - item.length)).map (fun i => Config.codedByte 0 (2 + i)) else item

/-- The TS items of a video task and the stream state after it (R257). Time is that of the release stamps: the tables go out when
100 ms have passed, a PCR when 20 ms have. -/
def Task.tsItems (t : Task) (q : Strm) (vvc : Bool) (st : StreamSt) : List (List Byte) × StreamSt :=
  let now := t.stamp
  let psi := decide (st.lastPat = 0) || decide (st.lastPat + 100000000 ≤ now)
  let tables := if psi then [psiPacket 0 st.ccPat (patSection q), psiPacket q.pidPmt st.ccPmt (pmtSection q vvc)] else []
  let pcr := decide (st.lastPcr = 0) || decide (st.lastPcr + 20000000 ≤ now)
  let data := st.tsRest ++ t.tsBytes vvc st
  let start := st.pesStart || t.kind == .auPrefix
  let r := tsCut q.pidVideo t.auEnd (data.length + 1) st.ccVideo start (if pcr then some (pcrBytes now) else none) data
  let sent := !r.1.isEmpty
  let items := groupsOf q.tsInItem (r.1.length + 2) (tables ++ r.1)
  (items.map q.fillBare, { st with
    ccVideo := r.2.2 % 16, ccPat := if psi then (st.ccPat + 1) % 16 else st.ccPat
    ccPmt := if psi then (st.ccPmt + 1) % 16 else st.ccPmt, tsRest := r.2.1, pesStart := start && !sent
    lastPcr := if pcr && sent then now else st.lastPcr, lastPat := if psi then now else st.lastPat })

/-! ### RTP -/

/-- The padding of a FIXED_SIZE packet that is short by n bytes (R256): P, the header extension, the padding. -/
def rtpPad (n : Nat) : Nat × List Byte × List Byte :=
  let octets := fun k => if k = 0 then [] else List.replicate (k - 1) (0 : Byte) ++ leBytes 1 k
  if n = 0 then (0, [], [])
  else if n < 256 then (1, [], octets n)
  else
    let w := (n - 4) / 4
    let r := n - 4 - 4 * w
    (boolNat (decide (r ≠ 0)), [0xBE, 0xDE] ++ beBytes 2 w ++ List.replicate (4 * w) 0, octets r)

/-- An RTP packet (R254, R256). -/
def rtpPacket (q : Strm) (marker : Bool) (seq time90 : Nat) (payload : List Byte) : List Byte :=
  let pad := rtpPad (if q.fixedSize then q.fixed - (12 + payload.length) else 0)
  leBytes 1 (0x80 + 0x20 * pad.1 + 0x10 * boolNat (!pad.2.1.isEmpty)) ++ leBytes 1 (128 * boolNat marker + q.payload % 128)
    ++ beBytes 2 seq ++ beBytes 4 time90 ++ beBytes 4 q.ssrc ++ pad.2.1 ++ payload ++ pad.2.2

/-- A stream's packets carry RTP headers: every kind but a bare transport stream (R257). -/
def Strm.hasRtp (q : Strm) : Bool := q.kind != 1 || q.rtp

/-- Length of a packet with n bytes of content (R254, R256). -/
def Strm.packetLen (q : Strm) (n : Nat) : Nat := if q.hasRtp then (if q.fixedSize then max q.fixed (12 + n) else 12 + n) else n

/-! ### A task's packets -/

/-- The contents of a task's packets in order, before their RTP headers, and the stream state after the task (R249,
R255 to R258). -/
def Task.contents (t : Task) (q : Strm) (vvc : Bool) (st : StreamSt) : List (List Byte) × StreamSt :=
  match t.kind with
  | .audio | .ancillary | .event => ([t.payload], st)
  | _ =>
    let cut := t.kind == .videoChunk && t.trunc.isNone && decide (q.maxPacket < t.nal + 12 ∧ t.start + t.bytes < t.nal)
    let head := fun (i : Nat) => if t.start = 0 then (sliceByte t.parts i).toNat else st.frag.getD i 0
    let st1 := { st with
      frag := if cut then [head 0, head 1, t.start + t.bytes] else []
      filler := if t.rowEnd then [] else if t.after.isSome && t.kind == .videoChunk then st.filler ++ [t.filler] else st.filler }
    if q.kind = 1 then
      let r := t.tsItems q vvc st
      (r.1, { r.2 with filler := st1.filler })
    else (t.videoPayloads vvc q.maxPacket st, st1)

end Sys2Proof.Machine
end

