-- ==== Sys2Proof/Machine/FlowOps.lean ====
section
/-! DEFINITION. Queues, gap markers, commits and ladles (R245 to R252, R260 to R269), and the rows of a stream as
ROW_RECORD reports them (R494). -/

namespace Sys2Proof.Machine

/-! ### Queues -/

/-- A queue. -/
def State.queue (s : State) (q : Nat) : Queue := cget {} s.flow.queues q

/-- A queue replaced. -/
def State.setQueue (s : State) (q : Nat) (x : Queue) : State := { s with flow := { s.flow with queues := cset {} s.flow.queues q x } }

/-- The state of a stream identity. -/
def State.strm (s : State) (k : Nat) : StreamSt := cget {} s.flow.streams k

/-- It replaced. -/
def State.setStrm (s : State) (k : Nat) (x : StreamSt) : State :=
  { s with flow := { s.flow with streams := cset {} s.flow.streams k x } }

/-- The state of the stream that a queue carries. -/
def State.queueStrm (s : State) (q : Nat) : StreamSt := s.strm (s.queue q).sid

/-- A queue's entry in the running production, or in the last that enabled it while the queue drains (R57, R270). -/
def State.qEntry (s : State) (q : Nat) : QEntry :=
  let find := fun (p : Production) => p.queues.find? (fun e => e.queue == q && e.enable)
  ((s.running.bind find).orElse (fun _ => s.old.reverse.findSome? (fun x => find x.1))).getD {}

/-- A queue's scheduler entry in the production that ran a number of swaps ago, or in one before it (R284). -/
def State.schedOf (s : State) (q ago : Nat) : SchedEntry :=
  let find := fun (p : Production) => p.scheds.find? (fun y => y.queue == q)
  ((find (s.prodAgo ago)).orElse (fun _ => (s.old.reverse.drop ago).findSome? (fun x => find x.1))).getD {}

/-- A context has an engine that has failed (R27). -/
def State.ctxFailed (s : State) (c : Ctx) : Bool :=
  c.engines.any (fun e => match finOf 16 e with | some e => (vget s.engines e).failed | none => false)

/-- A frame of a context has still to be coded on some tile. -/
def State.frameLeft (s : State) (c : Ctx) (n : Nat) : Bool :=
  let x := s.ctxSt c.context
  !s.ctxFailed c && decide ((cget {} x.stats n).ends < c.tiles)
    && (match x.lastEnd with | some f => decide (f.frame ≤ n) | none => true)

/-- The last frame that a former production codes for a context has still to be coded (R8, R9); at the last swap its time had
not passed. -/
def State.oldLeft (s : State) (q : Nat) : Bool :=
  let cue := tickOf ((s.old.getLast?.map (·.2)).getD 0)
  s.prods.any (fun (x : Production × Nat × Option Nat) =>
    match x.2.2, x.1.ctx q with
    | some stop, some c =>
      let n := c.indexAt (stop - 1)
      decide (cue < stop + tickOf x.1.tail) && inRange x (c.markTick n) && s.frameLeft c n
    | _, _ => false)

/-- Something of a queue is still to leave, or still to come (R57). -/
def State.queueBusy (s : State) (q : Nat) : Bool :=
  let x := s.queue q
  decide (x.fill ≠ 0) || x.gap.isSome || (s.flow.tasks ++ s.flow.outside).any (fun t => t.queue == q)
    || decide (q < 512) && (s.oldLeft q || s.engines.toList.any (fun g => g.chunk.slices.any (fun k => k.context == q)))

/-- A draining queue of which nothing is left is disabled (R57). -/
def State.endDrain (s : State) (q : Nat) : State :=
  let x := s.queue q
  if x.state = 2 ∧ s.queueBusy q = false then s.setQueue q { x with state := 0 } else s

/-- A queue's capacity (R260). -/
def QEntry.capacity (e : QEntry) : Nat := 18432 + e.middle

/-- The event source of a queue's occurrences (R273). -/
def queueSource (q : Nat) : Nat := if q < 512 then q else 822

/-- How many swaps ago the production ran that an item's work belongs to (R284): the latest whose first item is not behind
it. -/
def Queue.itemAgo (x : Queue) (i : Item) : Nat :=
  ((x.bounds.reverse.find? (fun b => !seqBefore i.seq b.2)).map (·.1)).getD x.ago

/-- When the first item of a later production stands at the head, the queue takes its rate and burst, and T is clipped; a
rate that waits for the next refill still waits (R280, R284). -/
def State.promote (s : State) (q : Nat) : State :=
  let x := s.queue q
  match x.head with
  | [] => s
  | i :: _ =>
    let n := x.itemAgo i
    if n = x.ago then s
    else
      let e := s.schedOf q n
      s.setQueue q { x with ago := n, bounds := x.bounds.filter (fun b => decide (b.1 < n)), rate := e.rate, burst := e.burst
                            tokens := min x.tokens (65536 * e.burst) }

/-! ### Rows -/

/-- An item joins its row's record (R494). -/
def State.noteRow (s : State) (q key : Nat) (i : Item) : State :=
  let x := s.ctxSt q
  let r := cget {} x.rows key
  if r.closed then s
  else
    let r1 := { r with first := if r.count = 0 then i.seq else r.first, count := r.count + 1, bytes := r.bytes ++ i.payload }
    s.setCtx q { x with rows := cset {} x.rows key r1 }

/-! ### Commits -/

/-- An item is committed (R262): it takes the queue's next sequence number, which marks the boundary when it is the first of
its production (R284). The lead sends a copy of an auxiliary queue's item (R496). -/
def State.putItem (s : State) (q ago : Nat) (rowAt : Option Nat) (i : Item) : State :=
  let x := s.queue q
  let i := { i with seq := x.next }
  let first := decide (ago < (x.bounds.getLast?.map (·.1)).getD x.ago)
  let x1 := { x with tail := x.tail ++ [i], next := x.next + 1
                     bounds := if first then x.bounds ++ [(ago, x.next)] else x.bounds }
  let s1 := s.setQueue q { x1 with fillMax := max x1.fillMax x1.fill }
  let s2 := match rowAt with | some k => s1.noteRow q k i | none => s1
  if 512 ≤ q ∧ s.twin.role = 1 then s2.send 11 7 0x71 (itemBytes_ q i (s2.queueStrm q).rtpSeq) else s2

/-- The 16 bytes of a gap marker's payload (R263). -/
def gapBytes (g : Gap) : List Byte :=
  leBytes 4 g.count ++ leBytes 4 g.bytes ++ leBytes 2 g.rtpSeq ++ leBytes 1 g.cause ++ leBytes 1 g.causes ++ leBytes 4 0

/-- A refusal opens or joins the queue's pending gap marker (R263): causes 0 FULL, 1 TAIL, 2 TRUNCATED, 3 FAULT. -/
def State.addGap (s : State) (q ago count bytes rtpSeq cause stamp : Nat) (rowAt : Option Nat) : State :=
  let x := s.queue q
  let g := match x.gap with
    | some g => { g with count := min (g.count + count) (2 ^ 32 - 1), bytes := g.bytes + bytes, causes := Nat.lor g.causes (2 ^ cause) }
    | none => ⟨count, bytes, rtpSeq, cause, 2 ^ cause, stamp, rowAt, ago⟩
  s.setQueue q { x with gap := some g, refused := satAdd 32 x.refused count }

/-- A queue's pending gap marker is committed (R263). -/
def State.commitGap (s : State) (q : Nat) : State :=
  let x := s.queue q
  match x.gap with
  | none => s
  | some g =>
    let s1 := (s.setQueue q { x with gap := none }).putItem q g.ago g.rowAt ⟨2, false, false, 0, g.stamp, gapBytes g⟩
    s1.raise (s1.ev (queueSource q) 0x0601 [(2, q), (4, x.next.toNat), (4, g.count), (1, g.cause)])

/-- A packet's commit, or its refusal (R262, R263): FULL by the item alone, since a pending marker has the reserve; TAIL by the
item and the marker that commits before it. -/
def State.commitPacket (s : State) (q ago : Nat) (rowAt : Option Nat) (rtpSeq : Nat) (i : Item) : State :=
  let x := s.queue q
  let refuse := fun cause => s.addGap q ago 1 i.payload.length rtpSeq cause i.release rowAt
  if (s.qEntry q).capacity - 32 < x.fill + itemBytes i then refuse 0
  else if 9216 < itemsBytes x.tail + itemBytes i + (if x.gap.isSome then 32 else 0) then refuse 1
  else (s.commitGap q).putItem q ago rowAt i

/-! ### Ladles -/

/-- A stream's codec is VVC. -/
def State.taskVvc (s : State) (t : Task) : Bool :=
  let p := s.prodAgo t.ago
  match p.ctx t.queue with
  | some c => (p.codingOf c).codec == 1
  | none => false

/-- The ladle that a ready task may go to now (R250). -/
def State.ladleFor (s : State) (t : Task) : Option (Fin 16) :=
  let p := s.prodAgo t.ago
  let used := (List.finRange 16).filter (fun (l : Fin 16) => bitOf p.ladleMask l.val)
  let idle := used.filter (fun l => (vget s.flow.ladles l).task.isNone && decide ((vget s.flow.ladles l).busyTo ≤ s.time.fclk))
  match used.find? (fun l => (s.strm t.sid).preferred == some l.val) with
  | none => idle.head?
  | some l =>
    if idle.contains l then some l
    else if t.readyAt + tickOf p.affinity ≤ s.time.fclk then idle.head?
    else none

/-- A task is waiting in a ready list. -/
def Flow.waits (f : Flow) (t : Task) : Bool := t.counter == 0 && f.ladles.toList.all (fun l => l.task != some t.id)

/-- Order of the ready lists: priority, then ready time, then creation (R250). -/
def State.before_ (s : State) (a b : Task) : Bool :=
  let x := ((s.taskStrm a).priority, a.readyAt, a.id)
  let y := ((s.taskStrm b).priority, b.readyAt, b.id)
  decide (x.1 < y.1) || x.1 == y.1 && (decide (x.2.1 < y.2.1) || x.2.1 == y.2.1 && decide (x.2.2 < y.2.2))

/-- A task begins on a ladle (R245, R250, R251): the stream state moves to it when another ladle or none caches it. -/
def State.dispatchTo (s : State) (t : Task) (l : Fin 16) : State :=
  let f := s.flow
  let x := vget f.ladles l
  let cached := x.cache.contains t.sid
  let r := t.contents (s.taskStrm t) (s.taskVvc t) (s.strm t.sid)
  let ladles := Vector.ofFn (fun (i : Fin 16) =>
    let y := vget f.ladles i
    if i = l then
      { y with task := some t.id, packets := r.1, all := r.1, redo := 0, busyTo := s.time.fclk + 32 + (if cached then 0 else 64)
               cache := (t.sid :: y.cache.filter (fun q => q != t.sid)).take 64 }
    else { y with cache := y.cache.filter (fun q => q != t.sid) })
  { s with flow := { f with
      ladles := ladles, streams := cset {} f.streams t.sid { r.2 with preferred := some l.val }, dispAt := some s.time.fclk } }

/-- The task that a ladle runs. -/
def State.ladleTask (s : State) (l : Fin 16) : Option Task :=
  (vget s.flow.ladles l).task.bind (fun i => s.flow.tasks.find? (fun t => t.id == i))

/-- The task with this id changed. -/
def State.setTask (s : State) (t : Task) : State :=
  { s with flow := { s.flow with tasks := s.flow.tasks.map (fun x => if x.id = t.id then t else x) } }

/-- A ladle replaced. -/
def State.setLadle (s : State) (l : Fin 16) (x : Ladle) : State := { s with flow := { s.flow with ladles := vset s.flow.ladles l x } }

/-- A task completes (R246, R248, R252): its segment leaves the chunk store, its ladle is idle, its successor's counter
falls, and a task that waits outside joins those in flight. -/
def State.completeTask (s : State) (l : Fin 16) (t : Task) : State :=
  let st := s.strm t.sid
  let s1 := (s.setLadle l { vget s.flow.ladles l with task := none, packets := [], all := [], redo := 0 }).setStrm t.sid
    { st with position := st.position + 1, cursor := t.after.getD st.cursor }
  let s2 := match finOf 16 t.engine with
    | some e =>
      let g := vget s1.engines e
      s1.setEngine e { g with chunk := { g.chunk with used := g.chunk.used - t.stored } }
    | none => s1
  let f := { s2.flow with tasks := s2.flow.tasks.filter (fun (x : Task) => x.id != t.id) ++ s2.flow.outside.take 1
                          outside := s2.flow.outside.drop 1 }
  { s2 with flow := (s2.flow.outside.take 1).foldl (fun (f : Flow) (x : Task) => f.settle s.time.fclk x.queue) (f.settle s.time.fclk t.queue) }

/-- Packets of a task that no commit has taken, and their bytes with their RTP headers. -/
def Ladle.rest (x : Ladle) (q : Strm) : Nat × Nat :=
  let l := x.packets.drop x.redo
  (l.length, (l.map (fun c => q.packetLen c.length)).sum)

/-- The row of a task's items in its stream. -/
def Task.rowAt (t : Task) : Option Nat :=
  match t.kind with
  | .auPrefix | .videoChunk => some (128 * t.frame + t.row)
  | _ => none

end Sys2Proof.Machine
end

