-- ==== Sys2Proof/Machine/TwinRows.lean ====
section
/-! DEFINITION. The comparison of rows between lead and understudy (R494, R495, R499, R500). -/

namespace Sys2Proof.Machine

/-- The reference buffer that holds a context's frame. -/
def State.frameBuffer (s : State) (c : Ctx) (frame : Nat) : Option Nat :=
  let fromEnd := ((s.ctxSt c.context).lastEnd.filter (fun e => e.frame == frame)).map (·.buffer)
  fromEnd.orElse (fun _ => ((s.recordOf c 0).filter (fun r => r.frame == frame)).map (·.write))

/-- The row's record as this device has it (R494). -/
def State.ownRow (s : State) (c : Ctx) (frame row : Nat) : RowRec :=
  let r := cget {} (s.ctxSt c.context).rows (128 * frame + row)
  { queue := c.context, row := row, frameCount := frame % 2 ^ 32, firstSeq := r.first, count := r.count
    bitstream := crc32c r.bytes, recon := ((s.frameBuffer c frame).map (fun b => s.rowDigest c b row)).getD 0, floor := r.floor }

/-- The row's CTUs in the tables of references. -/
def rowKeys (c : Ctx) (buffer row : Nat) : List Nat :=
  (List.range c.tiles).flatMap (fun t => (List.range (c.tileW t)).map (fun x => refKey c.context buffer t (row * c.tileW t + x)))

/-- A queue's confirmed position moves up, and CONFIRM tells the lead (R494, R495). -/
def State.confirmTo (s : State) (q : Nat) (seq : U32) : State :=
  let x := s.queue q
  if seqBefore x.confirmed seq then (s.setQueue q { x with confirmed := seq }).send 11 6 0x63 (confirmBytes q seq) else s

/-- A row of the understudy against the lead's record (R495, R499, R500): the confirmation or the request for items, the
unrepaired set and the request for its CTUs, and the frame's counts. -/
def State.compareRow (s : State) (c : Ctx) (frame : Nat) (r : RowRec) : State :=
  let o := s.ownRow c frame r.row
  let same := o.firstSeq == r.firstSeq && o.count == r.count && o.bitstream == r.bitstream
  let reconSame := o.recon == r.recon
  let keys := ((s.frameBuffer c frame).map (fun b => rowKeys c b r.row)).getD []
  let ask : ItemAsk := ⟨r.queue, r.firstSeq, r.count, 128 * frame + r.row, []⟩
  let s1 := if same then s.confirmTo r.queue (r.firstSeq + BitVec.ofNat 32 r.count)
    else { s with twin := { s.twin with itemAsk := s.twin.itemAsk ++ [ask] } }.send 11 7 0x70
      (itemAskBytes r.queue r.firstSeq r.count)
  let un := keys.foldl (fun m k => cset false m k (!reconSame)) s1.twin.unrepaired
  let s2 := { s1 with twin := { s1.twin with unrepaired := un } }
  let s3 := if reconSame then s2
    else { s2 with twin := { s2.twin with rowAsk := s2.twin.rowAsk ++ [(c.context, frame, r.row)] } }.send 11 7 0x72
      (rowAskBytes c.context r.frameCount r.row)
  let d0 := if r.row = 0 then (0, 0) else cget (0, 0) s3.twin.diffs c.context
  let d := (d0.1 + boolNat (!reconSame), d0.2 + boolNat (!same))
  let ended := decide (r.row + 1 = c.rows)
  let w := s3.twin
  let s4 := { s3 with twin := { w with
    diffs := cset (0, 0) w.diffs c.context (if ended then (0, 0) else d)
    compared := if ended then satAdd 32 w.compared 1 else w.compared
    divergent := if ended && (decide (0 < d.1) || decide (0 < d.2)) then satAdd 32 w.divergent 1 else w.divergent } }
  s4.raiseAll (evIf (ended && decide (0 < d.1)) (s.ev 773 0x0A10 [(2, c.context), (4, r.frameCount), (2, d.1), (1, 0)])
    ++ evIf (ended && decide (0 < d.2)) (s.ev 773 0x0A10 [(2, c.context), (4, r.frameCount), (2, d.2), (1, 1)]))

/-- A row's last item has committed (R494, R495): the lead sends ROW_RECORD; the understudy compares when it holds the
lead's. -/
def State.closeRowItems (s : State) (q frame row : Nat) : State :=
  let x := s.ctxSt q
  let s1 := s.setCtx q { x with rows := cmod {} x.rows (128 * frame + row) (fun r => { r with closed := true }) }
  match s1.prods.findSome? (fun y => (y.1.ctx q).bind (fun c => if inRange y (c.markTick frame) then some c else none)) with
  | none => s1
  | some c =>
    if s.exact = false then s1
    else if s.twin.role = 1 then s1.send 11 6 0x61 (rowRecBytes (s1.ownRow c frame row))
    else if s.twin.role = 2 then
      let mine := fun (r : RowRec) => r.queue == q && r.row == row && r.frameCount == frame % 2 ^ 32
      match s1.twin.rowRecs.find? mine with
      | none => s1
      | some r =>
        (State.compareRow { s1 with twin := { s1.twin with rowRecs := s1.twin.rowRecs.filter (fun y => !mine y) } } c frame r).review
    else s1

end Sys2Proof.Machine
end

