-- ==== Sys2Proof/Machine/Flow.lean ====
section
/-! DEFINITION. The commands of segments, tasks, ladles and queues (09), with the ancillary messages (R353). -/

namespace Sys2Proof.Machine

/-! ### Segments -/

/-- The room that a segment's opening reserves: the largest segment that the stream can close (R246, R247). -/
def Strm.segmentRoom (q : Strm) : Nat := max 8192 (q.maxPacket - 12)

/-- The last fragment boundary 2 + j × f that keeps the segment that begins at `done` at or below S (R246). -/
def Strm.boundary (q : Strm) (done : Nat) : Nat :=
  let f := q.maxPacket - 15
  2 + (done + max 8192 (f + 2) - 2) / f * f

/-- Where the segment that begins at `done` of a NAL unit of n bytes ends (R246): at that boundary when the NAL unit is fragmented
and reaches past it, else at its end. -/
def Strm.segmentEnd (q : Strm) (n done : Nat) : Nat := if n + 12 ≤ q.maxPacket then n else min n (q.boundary done)

/-- The production, context and stream entry of a slice. -/
def State.sliceAt (s : State) (k : Slice) : Option (Production × Ctx × Strm) :=
  (s.prodAt k.frameTick).bind (fun p => (p.ctx k.context).map (fun c => (p, c, p.streams.getD c.stream {})))

/-- A slice's segment can close now (R246): the coder has written the slice's end, or it has written the boundary of a NAL unit
that has passed max_packet - 12 bytes. -/
def Slice.closable (k : Slice) (q : Strm) (done : Nat) : Bool :=
  k.whole || decide (q.maxPacket < k.bytesNow + 12) && decide (q.boundary done ≤ k.bytesNow)

/-- SEGMENT_OPEN (R247): room is reserved for the oldest slice's next segment, or the rest of the slice is lost. -/
def execSegmentOpen (e : Fin 16) (s : State) : Host.Outcome State Fault Refusal :=
  .next (
    let g := (vget s.engines e).code s.cycle
    let h := g.chunk
    match h.slices with
    | [] => s
    | k :: _ =>
      match s.sliceAt k with
      | none => s
      | some (_, _, q) =>
        if h.segOpen ∨ h.lost then s
        else if h.used + q.segmentRoom ≤ 131072 then
          s.setEngine e { g with chunk := { h with segOpen := true, used := h.used + q.segmentRoom } }
        else s.setEngine e { g with chunk := { h with lost := true } })

/-- A VIDEO_CHUNK task of a slice (R248, R249). -/
def chunkTask (c : Ctx) (k : Slice) (ago : Nat) (e : Fin 16) : Task :=
  { kind := .videoChunk, stream := c.stream, queue := c.context, ago := ago, row := k.row, frame := k.frame
    engine := e, stamp := c.stamp k.frame k.row, time90 := c.time90 k.frame, key := 1024 * k.frame + 8 * k.row + 1 + k.tile }

/-- A slice's last task: its filler, the end of its row and of its access unit, and the place that follows (R249). -/
def Task.ends (t : Task) (c : Ctx) (k : Slice) : Task :=
  let rowEnd := decide (k.tile + 1 = c.tiles)
  { t with
    filler := k.filler, rowEnd := rowEnd, auEnd := rowEnd && k.last
    after := some (if rowEnd = false then t.key + 1 else if k.last then 1024 * (k.frame + 1) else 1024 * k.frame + 8 * (k.row + 1) + 1) }

/-- The row's record notes that its slice holds floor CTUs (R494). -/
def State.noteFloor (s : State) (k : Slice) : State :=
  let x := s.ctxSt k.context
  if k.floor then s.setCtx k.context { x with rows := cmod {} x.rows (128 * k.frame + k.row) (fun r => { r with floor := true }) } else s

/-- SEGMENT_CLOSE (R246 to R248, R273): the oldest slice's segment ends at its NAL unit's end or at a fragment boundary;
a slice that has lost its rest ends with a TRUNCATED task, when its length is known. -/
def execSegmentClose (e : Fin 16) (s : State) : Host.Outcome State Fault Refusal :=
  .next (
    let g := (vget s.engines e).code s.cycle
    let h := g.chunk
    match h.slices with
    | [] => s
    | k :: rest =>
      match s.sliceAt k with
      | none => s
      | some (_, c, q) =>
        let t := chunkTask c k (s.framesAgo k.frameTick) e
        if h.lost then
          if k.whole = false then s
          else
          let sent := if h.done = 0 then 0 else (h.done - 2) / (q.maxPacket - 15)
          let count := packetsOf q.maxPacket k.bytes - sent
          let s1 := s.setEngine e { g with chunk := { h with lost := false, done := 0, slices := rest } }
          State.raise ((s1.noteFloor k).newTask ({ t with trunc := some (count, k.bytes - h.done) }.ends c k))
            (s.ev k.context 0x0602 [(4, k.frame), (2, k.row), (2, k.tile), (4, k.bytes - h.done)])
        else if h.segOpen = false ∨ k.closable q h.done = false then s
        else
          let size := if k.whole then k.bytes else k.bytesNow
          let stop := q.segmentEnd size h.done
          let whole := k.whole && stop == size
          let n := stop - h.done
          let t := { t with bytes := n, stored := n, nal := size, start := h.done, parts := k.parts }
          let s1 := s.setEngine e { g with chunk := { h with
              segOpen := false, used := h.used - q.segmentRoom + n, done := if whole then 0 else stop
              slices := if whole then rest else h.slices } }
          if whole then (s1.noteFloor k).newTask (t.ends c k) else s1.newTask t)

/-! ### Tasks -/

/-- TASK_DISPATCH (R245, R250, R251): the first task of the ready lists that an idle ladle may take; one in an FCLK cycle. -/
def execTaskDispatch (s : State) : Host.Outcome State Fault Refusal :=
  .next (
    if s.flow.dispAt = some s.time.fclk then s
    else
    let able := s.flow.tasks.filterMap (fun t => if s.flow.waits t then (s.ladleFor t).map (fun l => (t, l)) else none)
    match able with
    | [] => s
    | a :: rest =>
      let best := rest.foldl (fun (b : Task × Fin 16) x => if s.before_ x.1 b.1 then x else b) a
      s.dispatchTo best.1 best.2)

/-- AFFINITY_WAIT_EXPIRY (R250): the stream's held task goes to the lowest-numbered idle ladle. -/
def execAffinityWaitExpiry (stream : Nat) (s : State) : Host.Outcome State Fault Refusal :=
  .next (
    match s.flow.tasks.find? (fun t => t.stream == stream && s.flow.waits t) with
    | none => s
    | some t =>
      if s.flow.dispAt = some s.time.fclk ∨ s.time.fclk < t.readyAt + tickOf (s.prodAgo t.ago).affinity then s
      else
        match s.ladleFor t with
        | some l => s.dispatchTo t l
        | none => s)

/-- EVENT_TASK (R248, R258, R404): every 1 ms, or when 32 records are pending. -/
def execEventTask (s : State) : Host.Outcome State Fault Refusal :=
  .next (
    match s.running with
    | none => s
    | some p =>
      let u := s.evt
      if u.copies = [] ∨ u.copies.length < 32 ∧ s.time.fclk < u.lastTask + 800000 then s
      else
        let now := u.copies.take 32
        let s1 := { s with evt := { u with copies := u.copies.drop 32, lastTask := s.time.fclk } }
        p.streams.zipIdx.foldl (fun (t : State) (y : Strm × Nat) =>
          let q := y.1
          let mine := now.filter (fun (r : EvRec) => decide (q.evBase ≤ r.source) && decide (r.source < q.evBase + q.evCount))
          if q.kind ≠ 4 ∨ mine = [] then t
          else
            let bytes := mine.flatMap EvRec.bytes
            t.newTask { kind := .event, stream := y.2, queue := q.queue, payload := bytes, bytes := bytes.length, stamp := q.delay })
          s1)

/-- An ANCILLARY body (R353). -/
def ancillaryBytes (channel stamp : Nat) (payload : List Byte) : List Byte :=
  leBytes 2 channel ++ List.replicate 6 0 ++ leBytes 8 stamp ++ payload

/-- ANCILLARY (R248, R254, R258, R353): one packet for the channel's stream; a channel that no stream owns carries
nothing. -/
def execAncillary (link : Fin 12) (channel : Nat) (stamp : Nat) (payload : List Byte) (s : State) :
    Host.Outcome State Fault Refusal :=
  .next (
    if s.hasMsg link 5 0x50 (ancillaryBytes channel stamp payload) (reserved [(2, 6)]) = false then s
    else
      let s1 := s.popInbox link 5
      match s1.running.bind (fun p => (p.streamOf 3 channel).map (fun i => (i, p.streams.getD i {}))) with
      | none => s1
      | some (i, q) =>
        s1.newTask { kind := .ancillary, stream := i, queue := q.queue, payload := payload, bytes := payload.length
                     stamp := stamp + q.delay, time90 := stamp * 90000 / 1000000000 })

/-! ### Ladles -/

/-- A ladle's task has nothing left: it completes, and a row that it ends is closed (R494). -/
def State.endTask (s : State) (l : Fin 16) (t : Task) : State :=
  let s1 := s.completeTask l t
  if t.rowEnd then s1.closeRowItems t.queue t.frame t.row else s1

/-- A task kind's number (R248). -/
def TaskKind.code : TaskKind → Nat
  | .auPrefix => 0
  | .videoChunk => 1
  | .audio => 2
  | .ancillary => 3
  | .event => 4

/-- A packet is aborted out of position (R252): the commit unit refuses it, and it joins the queue's gap marker. -/
def State.abortPacket (s : State) (l : Fin 16) (t : Task) (content : List Byte) (rest : List (List Byte)) : State :=
  let st := s.strm t.sid
  let s1 := (s.setLadle l { vget s.flow.ladles l with packets := rest }).setTask { t with built := t.built + 1 }
  let s2 := (s1.setStrm t.sid { st with rtpSeq := (st.rtpSeq + 1) % 65536 }).addGap t.queue t.ago 1
    ((s.taskStrm t).packetLen content.length) st.rtpSeq 3 t.stamp t.rowAt
  s2.raise (s.ev (660 + l.val) 0x0020 [(2, t.stream), (1, t.kind.code), (1, 1), (1, 1)])

/-- A packet of a task is built and committed, or refused (R245, R252, R254, R262 to R264). One that had been committed before
an error is built again and no more (R19). An understudy commits nothing of its own to the auxiliary queues (R496). -/
def State.buildPacket (s : State) (l : Fin 16) (t : Task) (content : List Byte) (rest : List (List Byte)) : State :=
  let x := vget s.flow.ladles l
  let q := s.taskStrm t
  let st := s.strm t.sid
  let last := t.auEnd && rest.isEmpty
  let event := t.kind == .event
  let payload := if q.hasRtp then
      rtpPacket q last st.rtpSeq (if event then s.now * 90000 / 1000000000 else t.time90) content
    else content
  let cost := 64 + ceilDiv payload.length 16 + (if x.redo = 0 then 8 else 0)
  if s.time.fclk < x.busyTo + cost then s
  else if 0 < x.redo then
    let s1 := s.setLadle l { x with busyTo := x.busyTo + cost, packets := rest, redo := x.redo - 1 }
    if rest.isEmpty then s1.endTask l t else s1
  else if st.expects t = false then (s.setLadle l { x with busyTo := x.busyTo + cost }).abortPacket l t content rest
  else
    let t1 := { t with built := t.built + 1 }
    let s1 := (s.setLadle l { x with busyTo := x.busyTo + cost, packets := rest }).setTask t1
    let s2 :=
      if s.twin.role = 2 ∧ 512 ≤ t.queue then s1
      else
        let i : Item := ⟨1, last, decide (t.built < t.rebuilt), 0, if event then s.now + t.stamp else t.stamp, payload⟩
        let s2 := s1.setStrm t.sid { st with rtpSeq := (st.rtpSeq + 1) % 65536 }
        s2.commitPacket t.queue t.ago t.rowAt st.rtpSeq i
    if rest.isEmpty then s2.endTask l t1 else s2

/-- PACKET_COMMIT (R240, R245, R247, R249, R252, R254 to R258, R262 to R264, R494). -/
def execPacketCommit (l : Fin 16) (s : State) : Host.Outcome State Fault Refusal :=
  .next (
    match s.ladleTask l with
    | none => s
    | some t =>
      let x := vget s.flow.ladles l
      match t.trunc with
      | some (n, b) =>
        if s.time.fclk < x.busyTo + 8 then s
        else
          let t1 := { t with trunc := none }
          let s1 := (s.setLadle l { x with busyTo := x.busyTo + 8 }).setTask t1
          let s2 := (s1.addGap t.queue t.ago n b (s.strm t.sid).rtpSeq 2 t.stamp t.rowAt).commitGap t.queue
          if x.packets.isEmpty then s2.endTask l t1 else s2
      | none =>
        match x.packets with
        | [] => if s.time.fclk < x.busyTo then s else s.endTask l t
        | c :: rest => s.buildPacket l t c rest)

/-- GAP_MARKER_COMMIT (R263): at the release stamp of its first refused packet. -/
def execGapMarkerCommit (queue : Nat) (s : State) : Host.Outcome State Fault Refusal :=
  .next (
    let x := s.queue queue
    match x.gap with
    | none => s
    | some g => if s.now < g.stamp then s else s.commitGap queue)

/-- A task ends at its second error (R247, R264): a marker for what its slice has lost stands, and one for the packets that no
commit has taken. -/
def State.giveUp (s : State) (l : Fin 16) (t : Task) : State :=
  let rtp := (s.strm t.sid).rtpSeq
  let s1 := match t.trunc with
    | some (n, b) => ((s.setTask { t with trunc := none }).addGap t.queue t.ago n b rtp 2 t.stamp t.rowAt).commitGap t.queue
    | none => s
  let r := (vget s.flow.ladles l).rest (s.taskStrm t)
  let s2 := if r.1 = 0 then s1 else (s1.addGap t.queue t.ago r.1 r.2 rtp 3 t.stamp t.rowAt).commitGap t.queue
  s2.endTask l { t with trunc := none }

/-- LADLE_FAULT (R252, R264, R273): the packet in the ladle is aborted. After an error the task runs again from its segment, and a
second error ends it; a commit is out of position only when its stream stands at another place. -/
def execLadleFault (l : Fin 16) (outOfPosition : Bool) (s : State) : Host.Outcome State Fault Refusal :=
  .next (
    match s.ladleTask l with
    | none => s
    | some t =>
      let x := vget s.flow.ladles l
      let report := s.ev (660 + l.val) 0x0020 [(2, t.stream), (1, t.kind.code), (1, 0), (1, boolNat t.retried)]
      if outOfPosition then
        match x.packets with
        | c :: rest => if (s.strm t.sid).expects t then s else s.abortPacket l t c rest
        | [] => s
      else if t.retried then (s.giveUp l t).raise report
      else
        ((s.setLadle l { x with busyTo := s.time.fclk + 96, packets := x.all, redo := t.built }).setTask
          { t with retried := true, rebuilt := t.built + 1 }).raise report)

/-! ### The stockpot -/

/-- Items from the front of a list that fit in a number of bytes. -/
def fitting : Nat → List Item → List Item
  | _, [] => []
  | room, i :: t => if itemBytes i ≤ room then i :: fitting (room - itemBytes i) t else []

/-- A queue's stockpot region after its save area (R268, R270, R434). -/
def State.stockpotAt (s : State) (q : Nat) : Nat := (s.running.getD {}).region 7 0 + (s.qEntry q).offset + 19456

/-- The oldest tail item moves to the head, or to the middle through port P16 (R266). -/
def State.moveTail (s : State) (q : Nat) : State :=
  let x := s.queue q
  match x.tail with
  | [] => s
  | i :: rest =>
    if x.middle = [] ∧ x.refill = [] ∧ itemsBytes x.head + itemBytes i ≤ 9216 then
      s.setQueue q { x with head := x.head ++ [i], tail := rest }
    else if (s.qEntry q).middle < itemsBytes x.middle + itemBytes i ∨ s.ddr.state ≠ 1 then s
    else if s.ddr.hasRoom 16 (itemBytes i) then
      { s.setQueue q { x with middle := x.middle ++ [i], tail := rest } with
        ddr := s.ddr.writeRole 16 (s.stockpotAt q) (itemBytes i) s.time.fclk }
    else s.portFull 16 (itemBytes i)

/-- A head refill is issued when the head has 2 KiB free (R266). -/
def State.issueRefill (s : State) (q : Nat) : State :=
  let x := s.queue q
  let free := 9216 - itemsBytes x.head
  let take := fitting free x.middle
  if x.refill ≠ [] ∨ free < 2048 ∨ take = [] then s
  else
    { s.setQueue q { x with refill := take, middle := x.middle.drop take.length } with
      ddr := s.ddr.read 16 (s.stockpotAt q) (itemsBytes take) s.time.fclk (.stockpot q) }

/-- STOCKPOT_MOVE (R266). -/
def execStockpotMove (queue : Nat) (s : State) : Host.Outcome State Fault Refusal :=
  .next (((s.moveTail queue).issueRefill queue).promote queue)

/-- The marker that stands for a refill whose read was poisoned (R263, R429): the first item's number and stamp. -/
def faultMarker (l : List Item) : Item :=
  let i := l.headD ⟨1, false, false, 0, 0, []⟩
  let bytes := (l.map (fun (y : Item) => y.payload.length)).sum
  let rtp := beNat (slice i.payload 2 2)
  ⟨2, false, false, i.seq, i.release, gapBytes ⟨l.length, bytes, rtp, 3, 8, i.release, none, 0⟩⟩

/-- The reads of a queue's refill are all in (R266). -/
def State.refillIn (s : State) (queue : Nat) : Bool := !(s.ddr.reads.any (fun r => decide (r.2 = .stockpot queue)))

/-- STOCKPOT_REFILL_LAND (R266, R273, R429): the refill lands when its reads are all in; one that came poisoned makes it one
gap marker. -/
def execStockpotRefillLand (queue : Nat) (poisoned : Bool) (s : State) : Host.Outcome State Fault Refusal :=
  .next (
    let x := s.queue queue
    let bad := poisoned || x.refillBad
    match x.refill, s.refillIn queue with
    | [], _ | _, false => s
    | i :: _, true =>
      let items := if bad then [faultMarker x.refill] else x.refill
      let late := (items.filter (fun (y : Item) => decide (y.release < s.now))).length
      let s1 := s.setQueue queue { x with head := x.head ++ items, refill := [], refillBad := false, late := satAdd 32 x.late late }
      (s1.raiseAll
        (evIf bad (s.ev (queueSource queue) 0x0601 [(2, queue), (4, i.seq.toNat), (4, x.refill.length), (1, 3)])
          ++ evIf (decide (i.release < s.now))
            (s.ev (queueSource queue) 0x0603 [(2, queue), (4, i.seq.toNat), (4, s.now - i.release)]))).promote queue)

/-! ### Queue status -/

/-- A queue's status record (R271). -/
def queueBytes (q : Nat) (x : Queue) : List Byte :=
  leBytes 2 q ++ leBytes 1 x.state ++ [0] ++ leBytes 4 x.next.toNat ++ leBytes 4 x.released.toNat ++ leBytes 4 x.acked.toNat
    ++ leBytes 4 x.fill ++ leBytes 4 x.fillMax ++ leBytes 4 x.refused ++ leBytes 4 x.late

/-- QUEUE_STATUS (R271): counters are cleared on read. -/
def execQueueStatus (h : Hdr) (first count : Nat) (s : State) : Host.Outcome State Fault Refusal :=
  .next (runCmd Cmd.queueStatus h (fun s =>
    if count < 1 ∨ 126 < count ∨ 576 < first + count then (s, .refuse 0x0B02 [])
    else
      let clear := fun (t : State) (q : Nat) =>
        let x := t.queue q
        t.setQueue q { x with fillMax := x.fill, refused := 0, late := 0 }
      ((List.range count).foldl (fun (t : State) i => clear t (first + i)) s,
        ok (recordsFrom (fun q => queueBytes q (s.queue q)) first count))) s)

end Sys2Proof.Machine
end

