-- ==== Sys2Proof/Machine/Egress.lean ====
section
/-! DEFINITION. Egress scheduling (10): eligibility, selection, shapers, gates and acknowledgements (R274 to R288), with
the lead's confirmation gate (R497) and the epochs of acknowledgements (R503). -/

namespace Sys2Proof.Machine

/-- The event source of a queue in egress events (R290). -/
def egressSource (q : Nat) : Nat := if q < 512 then q else 823

/-! ### Gates -/

/-- The entry of a gate control list at a house time in ns, and the time at which it began (R281). -/
def Production.gateAt (p : Production) (ns : Nat) : Nat × Int :=
  let off : Int := ((ns : Int) - p.baseTime) % p.cycleNs
  let go : Nat × Int × Option (Nat × Int) := p.gcl.foldl (fun (a : Nat × Int × Option (Nat × Int)) e =>
    let stop := a.2.1 + e.1
    (a.1 + 1, stop, if a.2.2.isNone && decide (off < stop) then some (a.1, a.2.1) else a.2.2)) (0, 0, none)
  let r := go.2.2.getD (0, 0)
  (r.1, ns - off + r.2)

/-- The end of a class's open window that holds the entry in force (R282): none while closed; an end of none has no end. -/
def windowEnd (gcl : List (Nat × Nat)) (cls gate : Nat) (from_ : Int) : Option (Option Int) :=
  if gcl = [] then some none
  else if bitOf (gcl.getD gate (0, 0)).2 cls = false then none
  else if gcl.all (fun e => bitOf e.2 cls) then some none
  else
    let turn := gcl.drop gate ++ gcl.take gate
    some (some (from_ + ((turn.takeWhile (fun e => bitOf e.2 cls)).map (·.1)).sum))

/-- ns that an item of `payload` bytes takes on L10 at its present guaranteed payload (R282, R299). -/
def Link.itemNs (l : Link) (payload : Nat) : Nat := ceilDiv ((payload + 24) * 80) (payload100 l.rate (lanesOf l.txLanes).length)

/-! ### Eligibility -/

/-- L10 has VC4 credits for a whole message besides those that already wait (R274, R329). -/
def Link.hasCredits (l : Link) (vc : Fin 8) (body : Nat) : Bool :=
  let waiting := ((vget l.txQueue vc).map (fun m => msgCredits m.2.length)).sum
  l.state == 8 && vget l.creditOk vc
    && decide (waiting + msgCredits body ≤ (vget l.held vc + 65536 - vget l.spent vc) % 65536)

/-- A queue's head item with what its production schedules it by (R284). -/
structure Head where
  q      : Nat
  item   : Item
  cls    : Nat
  weight : Nat
  len    : Nat
  ago    : Nat
  deriving DecidableEq, Repr

/-- The accounting length of an item (R274, R278). -/
def SchedEntry.len (e : SchedEntry) (packetMode : Bool) (i : Item) : Nat :=
  if i.kind = 2 then 0 else if packetMode then 1 else i.payload.length + e.overhead

/-- The item that a queue's head gives (R265): an empty queue's is an idle item, which takes the next sequence number and the
present time and is stored nowhere. -/
def State.headItem (s : State) (q : Nat) : Option Item :=
  let x := s.queue q
  if x.fill = 0 then some ⟨0, false, false, x.next, s.now, []⟩ else x.head.head?

/-- The head of a queue. -/
def State.head (s : State) (q : Nat) : Option Head :=
  (s.headItem q).map (fun i =>
    let n := (s.queue q).itemAgo i
    let e := s.schedOf q n
    ⟨q, i, e.cls, e.weight, e.len (s.prodAgo n).packetMode i, n⟩)

/-- The gate of an item's class is open and the item fits (R282). -/
def State.gateFits (s : State) (h : Head) : Bool :=
  let p := s.prodAgo h.ago
  let g := if h.ago = 0 then (s.flow.gate, s.flow.gateAt) else p.gateAt s.now
  match windowEnd p.gcl h.cls g.1 g.2 with
  | none => false
  | some none => true
  | some (some e) => decide ((s.now : Int) + (vget s.links 10).itemNs h.item.payload.length ≤ e)

/-- A head is eligible (R274). A gap marker needs its stamp and the credits alone; an idle item never leaves (R265). -/
def State.eligible (s : State) (h : Head) : Bool :=
  let x := s.queue h.q
  h.item.kind != 0 && decide (h.item.release ≤ s.now) && (vget s.links 10).hasCredits 4 (24 + h.item.payload.length)
    && (h.item.kind == 2 || ((x.rate == 0 || decide (65536 * h.len ≤ x.tokens)) && s.gateFits h))

/-- The understudy has confirmed an item (R494). -/
def Queue.hasConfirmed (x : Queue) (seq : U32) : Bool := seqBefore seq x.confirmed

/-- The confirmation gate is in force (R497). -/
def State.gated (s : State) : Bool := s.twin.role == 1 && s.exact && !s.twin.lost && !s.twin.gateOff

/-- The queues that hold items, in order. -/
def State.heads (s : State) : List Head := (ckeys s.flow.queues).filterMap s.head

/-! ### Selection -/

/-- A weighted queue whose head's stamp has come becomes backlogged, at the present V (R276); one whose head is of no weighted
class is not. -/
def State.backlogs (s : State) : State :=
  s.heads.foldl (fun (t : State) h =>
    let x := t.queue h.q
    if h.cls ≠ 8 then (if x.backlog then t.setQueue h.q { x with backlog := false } else t)
    else if x.backlog = false ∧ h.item.kind ≠ 0 ∧ h.item.release ≤ t.now then t.setQueue h.q { x with backlog := true, s := t.flow.v }
    else t) s

/-- Items that the gate of R497 holds past their stamps: each is counted and reported once. -/
def State.confirmLate (s : State) : State :=
  if s.gated = false then s
  else s.heads.foldl (fun (t : State) h =>
    let x := t.queue h.q
    if t.eligible h = false ∨ x.hasConfirmed h.item.seq ∨ x.lateSeen = some h.item.seq ∨ t.now ≤ h.item.release then t
    else
      let t1 := t.setQueue h.q { x with lateSeen := some h.item.seq }
      State.raise { t1 with flow := { t1.flow with confLate := satAdd 32 t1.flow.confLate 1 } }
        (t.ev 773 0x0A13 [(2, h.q), (4, h.item.seq.toNat), (4, t.now - h.item.release)])) s

/-- Whether one eligible head goes before another (R275, R277). -/
def State.goesBefore (s : State) (a b : Head) : Bool :=
  if a.cls ≠ b.cls then decide (a.cls < b.cls)
  else
    let key := fun (h : Head) => if h.cls = 8 then (s.queue h.q).s else h.item.release
    decide (key a < key b) || key a == key b && decide (a.q < b.q)

/-- The item selected in this cycle (R275, R277, R497). -/
def State.select (s : State) : Option Head :=
  let able := s.heads.filter (fun h => s.eligible h && (!s.gated || (s.queue h.q).hasConfirmed h.item.seq))
  able.foldl (fun (b : Option Head) h =>
    match b with
    | none => some h
    | some x => if s.goesBefore h x then some h else some x) none

/-- The 24-byte header of an item on L10 (R285). -/
def linkHeader (q : Nat) (i : Item) (epoch : U16) (restart : Bool) : List Byte :=
  leBytes 2 i.payload.length ++ leBytes 2 q ++ leBytes 4 i.seq.toNat ++ leBytes 8 i.release ++ leBytes 2 epoch.toNat
    ++ leBytes 1 i.kind ++ leBytes 1 (boolNat i.auEnd + 2 * boolNat i.rebuilt + 4 * boolNat restart) ++ leBytes 4 0

/-- The selected item leaves on L10 and is freed from the head (R267, R275, R276, R279, R285, R286). -/
def State.release (s : State) (h : Head) : State :=
  let x := s.queue h.q
  let rest := x.head.drop 1
  let more := match rest with | i :: _ => decide (i.release ≤ s.now) | [] => false
  let weighted := decide (h.cls = 8)
  let f := (x.s + ceilDiv (h.len * 65536) h.weight) % 2 ^ 64   -- 64-bit tags
  let twinned := decide (0 < ((s.running.map (fun p => p.descr.twinMode)).getD 0))
  let open_ := s.twin.role == 1 && s.exact && s.twin.lost && !x.hasConfirmed h.item.seq
  let x1 := { x with
    unconf := if open_ then some (h.item.seq + 1) else x.unconf
    head := rest, released := h.item.seq + 1, restart := false
    tokens := if x.rate = 0 then x.tokens else x.tokens - 65536 * h.len
    f := if weighted then f else x.f
    s := if weighted && more then f else x.s
    backlog := weighted && more }
  let w := s.twin
  let s1 := { s.setQueue h.q x1 with
    twin := if open_ then { w with unconfCount := satAdd 32 w.unconfCount 1 } else w }
  let s2 := { s1 with flow := { s1.flow with v := if weighted then x.s else s1.flow.v } }
  let s3 := s2.send 10 4 0x40 (linkHeader h.q h.item (if twinned then s.twin.epoch else 0) x.restart ++ h.item.payload)
  let s4 := s3.promote h.q
  if open_ then s4.review else s4

/-- EGRESS_SELECT (R15, R267, R274 to R279, R282, R284 to R286, R497): at most once in an FCLK cycle. An understudy's
scheduler selects nothing, nor does a lead that has been fenced (R503). Queues that have drained are disabled (R57). -/
def execEgressSelect (s : State) : Host.Outcome State Fault Refusal :=
  .next (
    if s.up = false ∨ s.running.isNone ∨ s.twin.role = 2 ∨ s.twin.fenced ∨ s.flow.selAt = some s.time.fclk then s
    else
      let s1 := (State.backlogs { s with flow := { s.flow with selAt := some s.time.fclk } }).confirmLate
      let s2 := match s1.select with
        | none => s1
        | some h => s1.release h
      (ckeys s2.flow.queues).foldl State.endDrain s2)

/-! ### Shapers and gates -/

/-- Tokens that one refill adds (R279). -/
def refillTokens (packetMode : Bool) (rate : Nat) : Nat := if packetMode then rate * 65536 / 1000000 else rate * 8192 / 1000

/-- One queue's n refills up to microsecond `micro`: a rate that waits takes effect at the first of them after its acceptance
(R279, R280). -/
def State.refill (n micro : Nat) (s : State) (q : Nat) : State :=
  let x := s.queue q
  let mode := (s.prodAgo x.ago).packetMode
  let add := fun (k rate tokens : Nat) => if rate = 0 then tokens else min (tokens + k * refillTokens mode rate) (65536 * x.burst)
  match x.newRate with
  | none => s.setQueue q { x with tokens := add n x.rate x.tokens }
  | some (rate, at_) =>
    let k := min n (at_ - (micro - n))   -- refills at the old rate
    if k = n then s.setQueue q { x with tokens := add n x.rate x.tokens }
    else
      (s.setQueue q { x with rate := rate, newRate := none, tokens := add (n - k) rate (add k x.rate x.tokens) }).raise
        (s.ev (egressSource q) 0x0605 [(2, q), (4, rate), (8, 1000 * (micro - n + k + 1))])

/-- SHAPER_REFILL (R279, R280): the whole microseconds since the last refill. -/
def execShaperRefill (s : State) : Host.Outcome State Fault Refusal :=
  .next (
    let micro := s.now / 1000
    let n := micro - s.flow.lastRefill
    if s.running.isNone ∨ n = 0 then s
    else
      (ckeys s.flow.queues).foldl (State.refill n micro) { s with flow := { s.flow with lastRefill := micro } })

/-- GATE_ENTRY_CHANGE (R281): the entry of the running production's list at the present time. -/
def execGateEntryChange (s : State) : Host.Outcome State Fault Refusal :=
  .next (
    match s.running with
    | none => s
    | some p =>
      if p.gcl = [] then s
      else
        let g := p.gateAt s.now
        { s with flow := { s.flow with gate := g.1, gateAt := g.2 } })

/-- EGRESS_SHAPER_SET (R280). -/
def execEgressShaperSet (h : Hdr) (queue rate : Nat) (s : State) : Host.Outcome State Fault Refusal :=
  .next (runCmd Cmd.egressShaperSet h (fun s =>
    match s.running.bind (fun p => p.scheds.find? (fun e => e.queue == queue)) with
    | none => (s, .refuse 0x0602 [])
    | some e =>
      if rate < e.rateMin ∨ e.rateMax < rate then (s, .refuse 0x0601 [])
      else
        let x := s.queue queue
        (s.setQueue queue { x with newRate := some (rate, s.now / 1000) }, .accept [] true)) s)

/-! ### Acknowledgements -/

/-- The table of R287 on a device whose transmitters are active. -/
def State.takeAck (s : State) (q : Nat) (epoch : U16) (next : U32) : State :=
  let x := s.queue q
  if epoch.toNat < s.twin.epoch.toNat then s
  else if seqBefore x.acked next = false then s
  else if seqBefore x.released next then
    s.raise (s.ev (egressSource q) 0x0604 [(2, q), (2, epoch.toNat), (4, next.toNat), (4, x.released.toNat)])
  else (s.setQueue q { x with acked := next }).review

/-- An acknowledgement's epoch at a lead (R503): above the lead's own it is topped, or the lead is fenced. -/
def State.ackEpoch (s : State) (epoch : U16) : State :=
  let w := s.twin
  let w1 := { w with maxEpoch := if w.maxEpoch.toNat < epoch.toNat then epoch else w.maxEpoch }
  if w.role ≠ 1 ∨ epoch.toNat ≤ w.epoch.toNat then { s with twin := w1 }
  else if w.lost = false ∧ (w.beat.map (·.role)) = some 1 then
    State.raiseAll { s with twin := { w1 with fenced := true, fault := true } }
      (evIf (!w.fenced) (s.ev 774 0x0A22 [(2, epoch.toNat)]))
  else { s with twin := { w1 with epoch := epoch + 1 } }

/-- EGRESS_ACK (R287, R498, R503): the position by the device's epoch, then what R503 does with the epoch. -/
def execEgressAck (link : Fin 12) (queue : Nat) (epoch : U16) (next : U32) (s : State) : Host.Outcome State Fault Refusal :=
  .next (
    if s.hasMsg link 4 0x41 (leBytes 2 queue ++ leBytes 2 epoch.toNat ++ leBytes 4 next.toNat) = false then s
    else
      let s1 := s.popInbox link 4
      (if s1.twin.role ≠ 2 ∧ queue < 576 then s1.takeAck queue epoch next else s1).ackEpoch epoch)

end Sys2Proof.Machine
end

