-- ==== Sys2Proof/Machine/TwinOps.lean ====
section
/-! DEFINITION. The device's role and held transmitters (R310, R487), the understudy's items (R495, R498), and blocks of a record
(R501). -/

namespace Sys2Proof.Machine

/-- The role that a production gives a device (R487): with twin_mode 0 it acts as lead by itself. -/
def State.roleNow (s : State) : Nat := if s.twinMode = 0 then 0 else if s.twin.cast then 1 else 2

/-- One link enters or leaves HELD_IDLE with the device's role: its data lanes go idle, which aborts an eye scan (R312), or send
sixteen blocks before flits (R310). -/
def State.holdLink (s : State) (i : Fin 12) : State :=
  let l := vget s.links i
  if s.heldIdle i ∧ l.state = 8 then
    let s1 := s.abortEye i
    s1.setLink i { vget s1.links i with state := 9, since := s.time.fclk, txc := l.txc.idle }
  else if s.heldIdle i = false ∧ l.state = 9 then
    s.setLink i { l.startFlits with state := 8, since := s.time.fclk, idleDue := true }
  else s

/-- An understudy's held transmitters leave or enter HELD_IDLE with its role (R310, R504, R505). -/
def State.holdLinks (s : State) : State := (List.finRange 12).foldl State.holdLink s

/-! ### Items -/

/-- The items of a queue that are held, oldest first. -/
def Queue.items (x : Queue) : List Item := x.head ++ x.refill ++ x.middle ++ x.tail

/-- A change of every part of a queue. -/
def Queue.mapParts (x : Queue) (f : List Item → List Item) : Queue :=
  { x with head := f x.head, middle := f x.middle, refill := f x.refill, tail := f x.tail }

/-- Items that an acknowledged position has passed are freed (R267, R498). -/
def Queue.freeTo (x : Queue) (acked : U32) : Queue := x.mapParts (fun l => l.filter (fun i => !seqBefore i.seq acked))

/-- A video row's items replaced by the lead's (R495): `first` and `old` are the row's place and its items' number; later
items are renumbered to follow. -/
def replaceIn (first : U32) (old : Nat) (new : List Item) (last : Bool) (done : Bool) (l : List Item) : List Item × Bool :=
  let shift := fun (i : Item) => { i with seq := i.seq + BitVec.ofNat 32 new.length - BitVec.ofNat 32 old }
  let isOwn := fun (i : Item) => decide (U32.dist i.seq first < old)
  let before_ := l.filter (fun i => seqBefore i.seq first)
  let after := (l.filter (fun i => !seqBefore i.seq first && !isOwn i)).map shift
  let here := !done && (last || l.any (fun i => !seqBefore i.seq first))
  (before_ ++ (if here then new else []) ++ after, done || here)

/-- The whole queue with a row's items replaced. -/
def Queue.replaceRow (x : Queue) (first : U32) (old : Nat) (new : List Item) : Queue :=
  let a := replaceIn first old new false false x.head
  let b := replaceIn first old new false a.2 x.refill
  let c := replaceIn first old new false b.2 x.middle
  let d := replaceIn first old new true c.2 x.tail
  { x with head := a.1, refill := b.1, middle := c.1, tail := d.1
           next := x.next + BitVec.ofNat 32 new.length - BitVec.ofNat 32 old }

/-- The RTP sequence number that follows an item (R495). -/
def nextRtp (i : Item) : Nat := if i.kind = 2 then field i.payload 8 2 else (beNat (slice i.payload 2 2) + 1) % 65536

/-- Every item of an ITEM_REQUEST has come (R495): the row takes them, and is confirmed. -/
def State.repairItems (s : State) (a : ItemAsk) (rtpSeq : Nat) : State :=
  let c := s.ctxSt a.queue
  let r := cget {} c.rows a.key
  let shift := BitVec.ofNat 32 a.count - BitVec.ofNat 32 r.count
  let rows := c.rows.map (fun y => if a.key < y.1 then (y.1, { y.2 with first := y.2.first + shift }) else y)
  let r1 := { r with first := a.first, count := a.count, bytes := a.got.flatMap (·.payload) }
  let s1 := s.setCtx a.queue { c with rows := cset {} rows a.key r1 }
  let s2 := s1.setQueue a.queue ((s1.queue a.queue).replaceRow a.first r.count a.got)
  let s3 := s2.setStrm (s2.queue a.queue).sid { s2.queueStrm a.queue with rtpSeq := rtpSeq }
  { s3.confirmTo a.queue (a.first + BitVec.ofNat 32 a.count) with
    twin := { s3.twin with itemAsk := s3.twin.itemAsk.filter (fun b => b != a) } }

/-! ### Blocks of a record -/

/-- The signed 16-bit number at byte o of a block's bytes. -/
def blockWord (l : List Int) (o : Nat) : Int := leSigned (((l.drop o).take 2).map (BitVec.ofInt 8))

/-- A record with one block replaced by the lead's contents (R88, R501). -/
def CtxRec.setBlock (r : CtxRec) (b : Nat) (l : List Int) : CtxRec :=
  let n := fun i => (l.getD i 0).toNat
  let nats := fun i => (l.drop i).map Int.toNat
  match b with
  | 0 => { r with production := n 0, frame := n 1, poc := n 2, ingest := n 3, format := nats 4 }
  | 2 => { r with ref0 := n 0, ref1 := n 1, backdrop := n 2, write := n 3, spare := n 4, captured := l.getD 5 0 == 1
                  valid := (l.drop 6).foldl (fun m k => cset false m k.toNat true) [] }
  | 3 => { r with filterNow := n 0 }
  | 4 => { r with filterNext := n 0 }
  | 5 => { r with box := { r.box with lx := (List.range 128).foldl (fun m k => cset 0 m k (blockWord l (2 * k))) [] } }
  | 6 => { r with motion := l }
  | 7 => { r with sweepStart := n 0, sweepNo := n 1, sweeping := l.getD 2 0 == 1, lastPs := n 3, buffering := n 4 }
  | 8 | 9 | 10 | 11 =>
    let entry := fun (t : Nat) => (⟨blockWord l (8 * t), blockWord l (8 * t + 2), blockWord l (8 * t + 4), blockWord l (8 * t + 6)⟩ : MField)
    { r with mf := (List.range 512).foldl (fun m t => cset {} m (512 * (b - 8) + t) (entry t)) r.mf }
  | 12 => { r with bases := nats 0 }
  | _ => r

/-- A context's record changed wherever it stands: in use, or in DDR5. -/
def State.modRecord (s : State) (c : Ctx) (t : Nat) (f : CtxRec → CtxRec) : State :=
  let s1 := match finOf 16 (c.engines.getD t 16) with
    | none => s
    | some e =>
      let g := vget s.engines e
      match g.record c.context with
      | some r => s.setEngine e (g.setRecord c.context (f r))
      | none => s
  { s1 with ddr := { s1.ddr with
      recs := cmod none s1.ddr.recs (4 * c.context + t) (fun (o : Option CtxRec) => o.map f) } }

/-- The body of BLOCK_DATA (R501): the block's contents follow the head. -/
def blockBytes (context block : Nat) (content : List Int) : List Byte := blockAsk context block ++ content.flatMap (leInt 8)

end Sys2Proof.Machine
end

