-- ==== Sys2Proof/Machine/Swap.lean ====
section
/-! DEFINITION. The swap at the cue point (R9, R55 to R58, R124, R189, R236, R268, R269, R284, R341). -/

namespace Sys2Proof.Machine

/-! ### Contexts -/

/-- The production that a swap is compared with: the running one, or after a warm reset the one running before it
(R124). -/
def State.swapBase (s : State) : Option Production := s.running.orElse (fun _ => s.before)

/-- Two entries of a context agree in the fields whose change makes it start anew (R56). -/
def sameFormat (a b : Ctx) : Bool :=
  a.codec == b.codec && a.chroma == b.chroma && a.width == b.width && a.height == b.height && a.rateNum == b.rateNum
    && a.rateDen == b.rateDen && a.mode == b.mode && a.engineMask == b.engineMask

/-- The cause of a context's stream start at a swap (R56, R124): 0 it enters, 1 its format or coding entry changes. R147 names
the field's meaning by R124 alone, whose list has no numbers: they follow that list's order (DESIGN CHOICE,
notes/assumptions/72). -/
def startCause (base : Option Production) (p : Production) (c : Ctx) : Option Nat :=
  match base.bind (fun b => (b.ctx c.context).map (fun o => (b, o))) with
  | none => some 0
  | some (b, o) => if sameFormat o c ∧ b.codingOf o = p.codingOf c then none else some 1

/-- The discarded fields of a rate change as R191 masks them. -/
def RateChange.mask (h : RateChange) : Nat :=
  boolNat h.sched.isSome + 2 * boolNat h.rAvg.isSome + 4 * boolNat h.qpLo.isSome + 8 * boolNat h.qpHi.isSome

/-- A context of the new production at the cue point (R56, R124, R189, R209). -/
def State.swapCtx (base : Option Production) (p : Production) (cue : Nat) (s : State) (c : Ctx) : State :=
  let x := s.ctxSt c.context
  let o := base.bind (fun b => (b.ctx c.context).map (fun o => (b, o)))
  let cause := startCause base p c
  let sameLayers := match o with
    | some (b, o) => b.sets[o.layers]? == p.sets[c.layers]?
    | none => false
  let boxChanged := match o with | some (_, o) => o.box != c.box | none => true
  -- a change whose mark is the cue point, or before it, takes effect as scheduled
  let dropped := x.pending.filter (fun h => boxChanged && decide (tickOf cue < c.markTick h.frame))
  let x1 := { x with
    state := 1
    startDue := if cause.isSome then cause else x.startDue
    pending := if dropped.isSome then none else x.pending }
  let x2 := if sameLayers then x1 else { x1 with inForce := [], changes := [], notReady := [], stale := [], tooWide := [] }
  let s1 := s.setCtx c.context x2
  match dropped with
  | some h => s1.raise (s.ev c.context 0x0306 [(4, c.indexAt (tickOf cue)), (1, h.mask)])
  | none => s1

/-- A context that the swap removes completes its earlier frames (R8, R9, R57). -/
def State.leaveCtx (p : Production) (s : State) (c : Ctx) : State :=
  if (p.ctx c.context).isSome then s
  else s.setCtx c.context { s.ctxSt c.context with state := 2, pending := none, changes := [] }

/-- Resident records of row-locked contexts are written to DDR5 at a swap (R92). -/
def State.storeRecords (s : State) : State :=
  match s.running with
  | none => s
  | some o =>
    (o.contexts.filter (fun c => c.mode == 0)).foldl (fun (t : State) c =>
      (List.range c.tiles).foldl (fun (t : State) i =>
        match (finOf 16 (c.engines.getD i 16)).bind (fun e => ((vget t.engines e).record c.context).map (fun r => (e, r))) with
        | some (e, r) => { t with ddr := t.ddr.writeRec ⟨e, o.region 1 c.context, 4 * c.context + i, r⟩ t.time.fclk }.noteQueues t.ddr
        | none => t) t) s

/-- After a warm reset, the record of a row-locked context kept under R56 is read into the record store (R92). -/
def State.loadRecords (p : Production) (s : State) : State :=
  (p.contexts.filter (fun c => c.mode == 0 && (startCause s.before p c).isNone)).foldl (fun (t : State) c =>
    (c.engines).foldl (fun (t : State) e =>
      match finOf 16 e with
      | some e =>
        let t1 := t.issueRead e 256 [(p.region 1 c.context, 65536)] { cls := 4 }
        let g := vget t1.engines e
        t1.setEngine e { g with incoming := some (c.context, g.storeHalf), recTag := some 256, q := { g.q with tile := c.tileOf e.val } }
      | none => t) t) s

/-! ### Audio -/

/-- A group at the cue point (R236). -/
def swapGroup (g : AGroupState) (o e : AGroup) (index : Nat) : AGroupState :=
  if e.enable = 0 then
    if g.running then { g with stopAt := some 256, next := none } else g
  else if g.running = false then { AGroupState.clocked {} e.rate e.framing with running := true, index := index }
  else if o.enable = 1 ∧ o.rate = e.rate ∧ o.framing = e.framing then { g with stopAt := none }
  else { g with stopAt := none, next := some (e.rate, e.framing) }

/-- A port at the cue point: an unchanged one keeps running; another starts after 256 frames (R236). -/
def swapPort (x : APortState) (o e : APort) (sameGroup on : Bool) : APortState :=
  if e.direction = 0 ∨ on = false then {}
  else if sameGroup ∧ o = e then x
  else
    let detects := e.direction = 1 ∧ e.detect = true ∧ x.nonpcm = true
    { settle := 257, nonpcm := decide detects, quiet := if detects then x.quiet else 0 }

/-- A route at the cue point (R236, R237): an unchanged one keeps its run-time gain and mute, and its samples are numbered anew
where its source's rate changes; a mute that no detector holds any more ends. `held` says that the detector mutes its pair, and
n is the source's present sample. -/
def swapRoute (x : RouteState) (o : Option ARoute) (e : ARoute) (held sameRate : Bool) (n : Nat) : RouteState :=
  if o = some e then
    let y := if sameRate then x else { x with hist := [(0, x.eff)], checked := n, crossing := none }
    if y.hold ∧ held = false ∧ y.pending = none then RouteState.from_ { y with hold := false } n else y
  else e.start held n

/-- Audio at the cue point (R55, R236). A stream that starts takes its first packet at the next multiple of its packet's
samples. -/
def State.swapAudio (p : Production) (s : State) : State :=
  let b := s.running.getD {}
  let same := fun (g : Nat) =>
    let o := b.groups.getD g {}
    let e := p.groups.getD g {}
    (s.audio.groups.toList.getD g {}).running && o.enable == 1 && e.enable == 1 && o.rate == e.rate && o.framing == e.framing
  let kept := fun (i : Fin 32) => same (i.val / 8) && b.ports.getD i.val {} == p.ports.getD i.val {}
  let lost := (List.finRange 32).filter (fun i => !kept i && (b.ports.getD i.val {}).direction == 1)
  let a := (lost.foldl State.flushPort s).audio
  let a := { a with ports := Vector.ofFn (fun (i : Fin 32) =>
    swapPort (vget a.ports i) (b.ports.getD i.val {}) (p.ports.getD i.val {}) (same (i.val / 8))
      ((p.groups.getD (i.val / 8) {}).enable == 1)) }
  let first := fun (t : AStream) => ceilDiv (sampleAt (audioFs t.rate) s.time.tick + 1) t.m * t.m
  { s with audio := { a with
      groups := Vector.ofFn (fun (g : Fin 4) =>
        let e := p.groups.getD g.val {}
        swapGroup (vget a.groups g) (b.groups.getD g.val {}) e (sampleAt (audioFs e.rate) s.time.tick))
      out := a.out.map (fun y => if same (y.1 / 8) then y else (y.1, 0, 0))
      routes := p.routes.zipIdx.foldl (fun m y => cset {} m y.2
        (swapRoute (cget {} a.routes y.2) b.routes[y.2]? y.1 (a.muted y.1.chan) (b.srcRate y.1 == p.srcRate y.1)
          (sampleAt (audioFs (p.srcRate y.1)) s.time.tick))) []
      zeroed := a.zeroed.filter (fun y => decide (b.routes[y.1 / 2 ^ 60]? = p.routes[y.1 / 2 ^ 60]?))
      next := p.astreams.foldl (fun m t =>
        let old := cget 0 a.next t.stream
        cset 0 m t.stream (if old ≠ 0 ∧ b.astreams.contains t = true then old else first t + 1)) [] } }

/-! ### Queues, streams and tasks -/

/-- A stream's state under a new entry (R254, R269): the queue's while queue, SSRC and kind stay, else a new one from the entry's
values; packets of the entry before it are still built from its own. -/
def swapStrm (x : StreamSt) (was : Nat) (e : Strm) (begun : Bool) : StreamSt :=
  if begun ∧ was = e.key then x else { rtpSeq := e.startSeq }

/-- A queue that follows an earlier production does so one swap further back (R284). -/
def Queue.aged (x : Queue) : Queue :=
  { x with ago := x.ago + 1, bounds := x.bounds.map (fun b => (b.1 + 1, b.2)), gap := x.gap.map (fun g => { g with ago := g.ago + 1 }) }

/-- A queue that the new production enables (R57, R262, R268, R269, R276, R279, R284, R286). -/
def State.swapQueue (p : Production) (s : State) (e : QEntry) : State :=
  if e.enable = false then s
  else
    let sched := (p.scheds.find? (fun y => y.queue == e.queue)).getD {}
    let strm := p.streams.getD e.stream {}
    let saved := (s.flow.saved.find? (fun y => y.1 == e.queue)).map (·.2)
    let x := (saved.map (·.1)).getD (s.queue e.queue)
    let st := (saved.map (·.2)).getD (s.strm x.sid)
    let running := decide (x.state ≠ 0) && saved.isNone
    let start := BitVec.ofNat 32 e.startSeq
    -- after a reset without saved state, the range that may be lost is reported by a marker of unknown count (R20)
    let lost : Gap := ⟨0xFFFFFFFF, 0, strm.startSeq, 3, 8, s.now, none, 0⟩
    let x1 := if x.begun then x
      else { x with next := start, released := start, acked := start, confirmed := start, restart := true, begun := true
                    gap := some lost, refused := satAdd 32 x.refused 1 }
    let first := s.flow.firstCue
    let x2 := { x1 with state := 1, sid := strm.key, s := if first then 0 else x1.s, f := if first then 0 else x1.f
                        backlog := !first && x1.backlog }
    let full := 65536 * sched.burst
    let x3 := if running then x2.aged
      else { x2 with ago := 0, bounds := [], rate := sched.rate, burst := sched.burst, newRate := none
                     tokens := if x.begun ∧ saved.isNone then min x.tokens full else full }
    (s.setQueue e.queue x3).setStrm strm.key (swapStrm st x.sid strm x.begun)

/-- A queue that the new production does not enable drains, or is disabled at once when nothing can still come (R57);
saved items of such a queue are restored and drain too (R23). -/
def State.drainQueue (p : Production) (s : State) (q : Nat) : State :=
  if p.queues.any (fun e => e.queue == q && e.enable) then s
  else
    match (s.flow.saved.find? (fun y => y.1 == q)).map (·.2) with
    | some (x, st) => ((s.setQueue q { x with state := 2 }).setStrm x.sid st).endDrain q
    | none =>
      let x := s.queue q
      if x.state = 0 then s else (s.setQueue q { x.aged with state := 2 }).endDrain q

/-- Tasks, queues and streams at the cue point (R57, R268, R269, R276, R281, R284). -/
def State.swapFlow (p : Production) (cue : Nat) (s : State) : State :=
  let f := s.flow
  -- a task that is not video and not yet ready belongs to the new production, where it has its stream
  let move := fun (t : Task) =>
    let o := s.taskStrm t
    match t.kind, p.streams.findIdx? (fun q => q.queue == o.queue && q.kind == o.kind && q.owner == o.owner) with
    | .auPrefix, _ | .videoChunk, _ => { t with ago := t.ago + 1 }
    | _, some i => if t.counter = 0 then { t with ago := t.ago + 1 } else { t with ago := 0, stream := i, sid := (p.streams.getD i {}).key }
    | _, none => { t with ago := t.ago + 1 }
  let s1 := p.queues.foldl (State.swapQueue p) { s with flow := { f with tasks := f.tasks.map move, outside := f.outside.map move } }
  let s2 := ((ckeys s1.flow.queues ++ ckeys s1.flow.saved).dedup).foldl (State.drainQueue p) s1
  let gate := if p.gcl = [] then (0, 0) else p.gateAt cue
  { s2 with flow := { s2.flow with
      saved := [], hasSaved := false, firstCue := false, v := if f.firstCue then 0 else s2.flow.v, gate := gate.1, gateAt := gate.2
      lastRefill := if f.firstCue then s.now / 1000 else s2.flow.lastRefill } }

/-! ### Links, DDR5 and CUE pins -/

/-- A link's role at the cue point (R341). -/
def State.swapLink (p : Production) (s : State) (i : Fin 12) : State :=
  let e := p.roles.getD i.val {}
  let s0 := if (vget s.links i).role ≠ 0 ∧ e.role = 0 then s.abortEye i else s
  let l := vget s0.links i
  let l1 := { l with role := e.role, target := e.target, notify := e.notify, tod := e.tod }
  s0.setLink i (
    if l.role ≠ 0 ∧ e.role = 0 then { l1 with state := 0, txLanes := 0, rxLanes := 0, ckLock := false, test := none, since := s.time.fclk, txc := l.txc.idle }
    else if l.role = 0 ∧ e.role ≠ 0 then l1.fullTraining s.time.fclk
    else l1)

/-- The absence of a frame-mode output's context ends where the new production holds it (R412). -/
def swapPin (new : Production) (x : CuePin) : CuePin :=
  match x.out with
  | some o => { x with missed := x.missed && (new.ctx o.context).isNone }
  | none => x

/-! ### The swap -/

/-- The former productions that are still needed (R9, R284): those whose last release stamp has not passed or whose
marks a CUE output may still follow by 1 s (R412), and those to whose work a queue or a task belongs; with each, all later ones. -/
def State.keptOld (s : State) (l : List (Production × Nat)) (cue : Nat) : List (Production × Nat) :=
  let live := l.length - l.findIdx (fun x => decide (cue < x.2 + max 1000000000 x.1.tail))
  let queues := (s.flow.queues.map (fun y => if y.2.state = 0 then 0 else y.2.ago)).foldl max 0
  let tasks := ((s.flow.tasks ++ s.flow.outside).map (·.ago)).foldl max 0
  l.drop (l.length - max live (max queues tasks))

/-- What a latch keeps from reuse, behind a swap: buffers of a changed source or pair stand with those of the production
before (R197). -/
def Latch.release (same : Nat → Nat → Bool) (l : Latch) : Latch :=
  { l with holds := l.holds.map (fun h => if h.1 ≤ 2 ∧ same h.1 h.2.1 = false then (h.1 + 2, h.2.1, h.2.2) else h) }

/-- Every table of the new production takes effect (R55). -/
def State.swapTo (s : State) (p : Production) (cue : Nat) : State :=
  let base := s.swapBase
  let warm := s.running.isNone && s.before.isSome
  let s1 := s.storeRecords
  let s2 := p.contexts.foldl (State.swapCtx base p cue) s1
  let s3 := ((s.running.map (·.contexts)).getD []).foldl (State.leaveCtx p) s2
  let s4 := (List.finRange 12).foldl (State.swapLink p) ((s3.swapFlow p cue).swapAudio p)
  let samePairs := fun (i : Nat) => (base.bind (fun b => b.pairs[i]?)) == p.pairs[i]?
  let sameSource := fun (n : Nat) => (base.bind (fun b => b.source n)) == p.source n
  let s5 := { s4 with
    old := s4.keptOld (s4.old ++ [(s.running.getD {}, cue)]) cue, running := some p, before := none
    engines := Vector.ofFn (fun (e : Fin 16) =>
      let g := vget s4.engines e
      { g with switchDue := (p.engine e.val).isSome })
    pairs := s4.pairs.filter (fun y => samePairs y.1)
    rings := s4.rings.filter (fun y => sameSource y.1)
    -- frames in composition keep what the swap takes from the new production (R197)
    wasRings := (s4.rings.filter (fun (y : Nat × Ring) => !sameSource y.1)).foldl (fun m (y : Nat × Ring) => cset {} m y.1 y.2) s4.wasRings
    wasPairs := (s4.pairs.filter (fun (y : Nat × PairState) => !samePairs y.1)).foldl (fun m (y : Nat × PairState) => cset {} m y.1 y.2) s4.wasPairs
    ctxs := s4.ctxs.map (fun (y : Nat × CtxState) =>
      (y.1, { y.2 with latches := y.2.latches.map (Latch.release (fun kind i => if kind = 1 then sameSource i else samePairs i)) }))
    cues := Vector.ofFn (fun (i : Fin 16) => swapPin p (vget s4.cues i))
    ddr := { s4.ddr with ports := Vector.ofFn (fun (i : Fin 22) => { vget s4.ddr.ports i with target := p.targets.getD i.val 1000 }) } }
  let s6 := if warm then { s5 with before := s.before }.loadRecords p else s5
  let s7 := { s6 with
    before := none
    cues := if s6.roleNow = 2 then s6.cues.map CuePin.undriven else s6.cues
    twin := { s6.twin with role := s6.roleNow } }
  s7.holdLinks.review

/-- SWAP (R50, R55 to R58): at the cue point of the SWAPPING green room. -/
def execSwap (s : State) : Host.Outcome State Fault Refusal :=
  .next (
    match s.green.prod with
    | none => s
    | some p =>
      let cue := s.green.cuePoint
      if s.up = false ∨ s.green.state ≠ 5 ∨ s.now < cue then s
      else
        let s1 := (s.swapTo p cue).greenTo { detail := s.green.detail }
        s1.raise ⟨825, 0x0224, cue, evData [(4, (s.running.map (·.id)).getD 0), (4, p.id)]⟩)

end Sys2Proof.Machine
end

