-- ==== Sys2Proof/Machine/Boot.lean ====
section
/-! DEFINITION. Resets and boot (R20 to R26, R222, R236, R335, R339, R404, R408, R431, R433, R447 to R461, R478 to R480,
R503, R513 to R520, R543 to R545). -/

namespace Sys2Proof.Machine

/-! ### Power-on and cold resets -/

/-- The test port at the release of a reset is locked (R529). -/
def Tap.locked (t : Tap) : Tap := { t with ir := if t.ir.whileLocked then t.ir else .bypass, underTest := false }

/-- The block held in a power-on or cold reset with a cause (R447, R451, R459): all on-chip state is lost; OTP stays, and
the levels that pins and sensors show. -/
def State.coldHeld (s : State) (cause : Nat) : State :=
  { State.reset with
    boot := { cause := cause }
    sec := { otp := s.sec.otp }
    tap := s.tap.locked
    mon := { temp := s.mon.temp, tripped := s.mon.tripped, supply := s.mon.supply }
    curtain := { pin := s.curtain.pin, lows := if s.curtain.pin then [] else [(0, none)] }
    twin := { cast := s.twin.cast }
    free := s.free
    pending := s.pending }

/-- A power-on reset is held (R447). -/
def State.powerHeld (s : State) : Bool := s.boot.phase == .held && s.boot.cause == 0

/-- POWER_ON_RESET (R20, R24, R447, R451): it ends any other reset. -/
def execPowerOnReset (s : State) : Host.Outcome State Fault Refusal := .next (s.coldHeld 0)

/-- COLD_RESET (R447, R451): a power-on reset in progress goes on; it ends a warm entry, which is abandoned. RESET_N low
for less than 10 µs takes it or not. -/
def execColdReset (cause : ColdCause) (s : State) : Host.Outcome State Fault Refusal :=
  .next (
    if s.powerHeld then s
    else
      match cause with
      | .resetN low =>
        if 10000 ≤ low then s.coldHeld 1
        else if Config.shortResetTakes s.free then s.fresh.coldHeld 1 else s.fresh
      | .supply mV => if mV < 680 then s.coldHeld 2 else s)

/-! ### The warm entry -/

/-- A frame of a context holds an accepted line (R22). -/
def State.hasLine (s : State) (context n : Nat) : Bool :=
  let pic := cget {} s.pictures (picKey context n)
  decide (pic.frame = some n) && decide (pic.got ≠ [])

/-- The frames about now whose windows can be open. -/
def Ctx.framesNow (c : Ctx) (tick : Nat) : List Nat := let i := c.indexAt tick; [i - 1, i, i + 1].dedup

/-- Every window closes (R22): the rows of a frame that holds a line close as they stand, and are repeats where lines are
missing. -/
def State.closeAll (s : State) : State :=
  s.prods.foldl (fun (t : State) x =>
    x.1.contexts.foldl (fun (t : State) c =>
      (c.framesNow s.time.tick).foldl (fun (t : State) n =>
        if inRange x (c.markTick n) ∧ s.hasLine c.context n then
          (List.range c.rows).foldl (fun (t : State) k =>
            (List.range c.tiles).foldl (fun (t : State) i => t.closeRow x.1 c n i k) t) t
        else t) t) t) s

/-- The warm entry begins (R22, R26, R236, R449, R478, R487): windows close, ARB_HB goes low, audio stops, and running eye
scans and installs end without a completion. -/
def State.enterWarm (s : State) (cause : Nat) (hardware : Bool) : State :=
  let s0 := s.closeAll
  let s1 := if hardware then s0 else s0.writeHead
  { s1 with
    boot := { s1.boot with phase := .warmEntry, warmCause := cause, hardware := hardware }
    twin := { s1.twin with hb := false, hbDead := true, req := true, fault := true }
    curtain := { s1.curtain with install := none }
    audio := {}
    links := s1.links.map (fun l => { l with eye := none, test := none }) }

/-- A warm reset is asked for (R447 to R450). Before DDR5 first runs, or while it is failed, it is a cold reset that reports
WARM_N; in a warm boot whose DDR5 does not run yet, the warm boot starts again; in a reset in progress it has no effect. -/
def State.warmReset (s : State) (cause : Nat) (hardware : Bool) : State :=
  match s.boot.phase with
  | .held | .warmEntry | .warmSaved => s
  | .running | .waitHost =>
    if s.ddr.ran = false ∨ s.ddr.state = 3 then s.coldHeld 3
    else if s.ddr.state = 2 then { s with boot := { s.boot with phase := .warmSaved, warmCause := cause, hardware := hardware } }
    else s.enterWarm cause hardware

/-- Firmware runs: from FIRMWARE on (R454). -/
def Boot.firmware (b : Boot) : Bool := b.phase == .running && decide (6 ≤ b.state ∧ b.state ≤ 8)

/-- WARM_RESET_ENTRY: WARM_N falls (R22, R447, R448, R450). -/
def execWarmResetEntry (s : State) : Host.Outcome State Fault Refusal := .next (s.warmReset 3 false)

/-- WATCHDOG_EXPIRY (R449). -/
def execWatchdogExpiry (s : State) : Host.Outcome State Fault Refusal :=
  .next (if s.boot.firmware then s.warmReset 4 true else s)

/-- LOCKSTEP_MISMATCH (R449). -/
def execLockstepMismatch (s : State) : Host.Outcome State Fault Refusal :=
  .next (if s.boot.firmware then s.warmReset 5 true else s)

/-- A frame that holds an accepted line has still to be coded (R22); one with a failed engine cannot be. -/
def State.codingLeft (s : State) : Bool :=
  s.prods.any (fun x => x.1.contexts.any (fun c =>
    (c.framesNow s.time.tick).any (fun n => inRange x (c.markTick n) && s.hasLine c.context n && s.frameLeft c n)))

/-- The entry's frames and their packet commits are finished (R22), and no record waits for a write queue (R92). -/
def State.entryDone (s : State) : Bool :=
  !s.codingLeft && s.engines.toList.all (fun g => !g.q.inSlot && g.chunk.slices.isEmpty) && s.flow.tasks.isEmpty && s.flow.outside.isEmpty
    && s.ddr.waiting.isEmpty

/-- What the save area of a queue holds (R268): its items, pointers and stream state; a refill in flight counts to the
head. -/
def State.savedQueue (s : State) (q : Nat) : Queue × StreamSt :=
  let x := s.queue q
  ({ x with head := x.head ++ x.refill, refill := [], refillBad := false, ago := 0, bounds := [] }, s.queueStrm q)

/-- What the entry commits and writes first: the gap markers of every queue that has begun, and the records (R22, R92). -/
def State.entryWrites (s : State) : State :=
  (((ckeys s.flow.queues).filter (fun q => (s.queue q).begun)).foldl (fun (t : State) q => t.commitGap q) s).storeRecords

/-- WARM_ENTRY_SAVE (R22, R25, R92, R222, R268, R433, R449): gap markers commit, every queue that has begun and the records
go to DDR5, DDR5 enters self-refresh, lane transmitters go idle and the curtain is cleared. Save areas of a warm reset whose
queues no cue has restored stay. While a record waits for its write queue, nothing of this happens yet. -/
def execWarmEntrySave (s : State) : Host.Outcome State Fault Refusal :=
  .next (
    if s.boot.phase ≠ .warmEntry ∨ s.entryDone = false then s
    else
      let qs := (ckeys s.flow.queues).filter (fun q => (s.queue q).begun)
      let s2 := s.entryWrites.moveCurtain s.curtain.cleared 1
      let saved := qs.map (fun q => (q, s2.savedQueue q))
      if s2.ddr.waiting ≠ [] then s
      else { s2 with
        flow := { s2.flow with saved := if saved = [] then s2.flow.saved else saved
                               hasSaved := s2.flow.hasSaved || !saved.isEmpty }
        ddr := { s2.ddr with state := 2 }
        links := s2.links.map (fun l => { l with state := 0, txLanes := 0, rxLanes := 0, ckLock := false })
        boot := { s2.boot with phase := .warmSaved } })

/-! ### Firmware images -/

/-- An image's header fields are as R518 gives them. -/
def imageHeader (img : List Byte) : Bool :=
  decide (64 ≤ img.length) && slice img 0 4 == [0x4D, 0x55, 0x46, 0x57] && field img 4 1 == 1 && field img 5 1 == 0
    && field img 6 2 == 64

/-- Its sizes are as R457 and R518 give them. -/
def imageSizes (img : List Byte) : Bool :=
  let size := field img 8 4
  let sig := field img 0x0C 4
  decide (size ≤ 3584 * 1024) && decide (size = sig + 1024) && decide (64 ≤ sig) && decide (size ≤ img.length)
    && decide (field img 0x1C 4 ≤ 32768) && decide (field img 0x18 4 + field img 0x1C 4 ≤ sig)

/-- The key slot that a block names is revoked (R517, R519). -/
def Otp.isRevoked (o : Otp) (slot : Nat) : Bool :=
  match finOf 4 slot with
  | some i => vget o.revoked i
  | none => false

/-- VERIFY (R517 to R519): the error code of the first check that fails, or the firmware that runs. -/
def verifyImage (o : Otp) (img : List Byte) : Except Nat Firmware :=
  let sig := field img 0x0C 4
  let block := slice (img.drop sig) 0 1024
  let r := field block 0x0C 4
  if imageHeader img = false then .error 3
  else if imageSizes img = false then .error 7
  else if o.isRevoked (field block 6 1) then .error 5
  else if signedOk o 1 0 (img.take sig) block = false ∨ 256 < r then .error 4
  else if r < o.rollback then .error 6
  else .ok { version := field img 0x10 4, engine := field img 0x14 2, ladle := field img 0x16 2, rollback := r
             slot := field block 6 1, bootSlot := 0, sha := sha256 (img.take sig)
             ladleSha := sha256 (slice (img.drop (field img 0x18 4)) 0 (field img 0x1C 4)) }

/-! ### The journal's replay -/

/-- A mailbox area's live records as they are taken (R480): the scan goes forward from the newest that the head names, and
ends at a record whose read is poisoned; the live ones before it are read one by one. -/
def Journal.scan (j : Journal) (poisoned : List Nat) (mb : Nat) : List JRec :=
  let own := j.recs.filter (fun r => decide (r.mb = mb))
  let newest := (j.head.map (fun h => (h.areas.getD mb (0, 0)).2)).getD 0
  own.filter (fun r => decide (r.seq < newest) && !poisoned.contains r.seq)
    ++ (own.filter (fun r => decide (newest ≤ r.seq))).takeWhile (fun r => !poisoned.contains r.seq)

/-- A journaled completion with REPLAYED set (R472, R480). -/
def JRec.replayed (r : JRec) : List Byte :=
  r.cpl.take 12 ++ [(r.cpl.drop 12).headD 0 ||| 2] ++ r.cpl.drop 13

/-- One record of the replay (R480 steps 3 and 4), with the number of completions written so far. -/
def State.replayRec (bad : List Nat) (x : State × Nat) (r : JRec) : State × Nat :=
  match finOf 8 r.mb with
  | none => x
  | some mb =>
    let s := x.1
    let m := vget s.host.mbs mb
    let n := r.cpl.length / 256
    let board := writeSlots (cplBase s.host.mbs mb) m.depth n r.cplIndex r.replayed s.host.board
    if U32.dist r.cplIndex m.cplWr < 2 ^ 31 then
      ({ s with host := { s.host with board := board, mbs := vset s.host.mbs mb { m with cplWr := r.cplIndex + BitVec.ofNat 32 n } } },
        x.2 + 1)
    else if U32.dist r.cplIndex m.cplRd < U32.dist m.cplWr m.cplRd ∧ bad.contains r.seq = true then
      ({ s with host := { s.host with board := board } }, x.2 + 1)
    else x

/-- The index that follows a mailbox's last journaled command; without one, its first command that is not accepted
(R480). -/
def Mailbox.afterJournal (m : Mailbox) (recs : List JRec) : U32 :=
  match recs.getLast? with
  | some r =>
    let i := r.cmdIndex + BitVec.ofNat 32 (r.cmd.length / 256)
    if U32.dist m.latched i ≤ m.depth then i else m.cmdRd
  | none => match m.long with | some l => l.cmdIndex | none => m.cmdRd

/-- A mailbox after a warm reset (R465, R480): IDLE, and CMD_RD at the latched CMD_WR. -/
def Mailbox.restart (m : Mailbox) : Mailbox := { m with cmdRd := m.latched, fault := false, long := none, resetDue := false }

/-- JOURNAL_REPLAY (R23, R480). A taken record whose completion is not consumed and which names a later effect counts as a
pending effect that ended. -/
def State.replay (s : State) (b : BootInputs) : State :=
  let j := s.journal
  let area := fun (i : Nat) => j.scan b.poisoned i
  let taken := j.recs.filter (fun r => (area r.mb).contains r)
  let live := fun (r : JRec) => match finOf 8 r.mb with
    | some mb => let m := vget s.host.mbs mb; !(decide (U32.dist r.cplIndex m.cplRd + 2 ^ 31 ≥ 2 ^ 32))
    | none => false
  let ended := (taken.filter (fun r => r.pending && live r)).length
  let x := taken.foldl (State.replayRec b.badCpls) (s, 0)
  let discards := (List.finRange 8).flatMap (fun mb =>
    let m := vget s.host.mbs mb
    let first := m.afterJournal (area mb.val)
    s.discardEv mb first (U32.dist m.latched first))
  let missing := j.recs.length - taken.length
  State.raiseAll { x.1 with host := { x.1.host.note 2 x.1.time.fclk with replayed := true, mbs := x.1.host.mbs.map Mailbox.restart } }
    (discards ++ [s.ev 834 0x0018 [(4, x.2), (4, ended)]] ++ evIf (decide (0 < missing)) (s.ev 834 0x0019 [(4, missing)]))

/-! ### The boot ROM and firmware -/

/-- Boot ends in ERROR with a code (R458, R460). -/
def State.bootError (s : State) (code : Nat) : State :=
  { s with boot := { s.boot with phase := .running, state := 15, error := code } }

/-- A link's role from a reset to the first cue (R339). -/
def bootRole (i : Nat) : Nat := if i < 9 then 1 else if i = 9 then 3 else if i = 10 then 4 else 5

/-- A link trains in its boot role up to the target rate (R339, R455). -/
def State.bootLink (s : State) (i : Fin 12) : Link :=
  ({ vget s.links i with role := bootRole i.val, target := 2 } : Link).fullTraining s.time.fclk

/-- The links train from FIRMWARE onward, but L9 not yet when the ROM has trained it for a host load (R339, R455, R456). -/
def State.bootLinks (s : State) : State :=
  { s with links := Vector.ofFn (fun (i : Fin 12) =>
      if i = 9 ∧ s.boot.bootsel = 1 then vget s.links i else s.bootLink i) }

/-- After READY firmware retrains L9 at its target rate when the ROM has trained it (R456). -/
def State.retrain9 (s : State) : State :=
  if s.boot.bootsel = 1 then { s with links := vset s.links 9 (s.bootLink 9) } else s

/-- The ROM trains L9 through VERIFY as version 1.0 (R456). -/
def State.romLink (s : State) : State :=
  let l := { (vget s.links 9).fullTraining s.time.fclk with role := 3, stepped := true, version := 0x10 }
  { s with links := vset s.links 9 l }

/-- DDR5 leaves self-refresh (R433), with sticky counters cleared and the log kept (R451). -/
def Ddr.wake (d : Ddr) (cycle : Nat) : Ddr :=
  { d with
    state := 1, hot := false, hotAt := [], windows := 0, window := 0, lastZq := cycle, mr4At := [], passes := 0, uncorr := 0
    corr := 0, reads := [], writes := []
    ports := Vector.replicate 22 {}
    subs := d.subs.map (fun c => { c with alerts := 0, replays := 0, run := 0, uncorr := 0, corr := [], queue := [], open_ := []
                                          issued := [], scrubAt := cycle, scrubDone := 0, picked := 0 }) }

/-- READY (R454 to R456, R461, R487): DDR_FAIL, VCORE_OK, BOOT_DONE, the heartbeat, and readiness. -/
def State.ready (s : State) (b : BootInputs) (es : List Ev) : State :=
  let s1 := { s with
    boot := { s.boot with phase := .running, state := 8, ddrFail := s.ddrFailed
                          vcoreOk := inTarget s.boot.vcoreCode b.vcoreMv, ddrDown := false, readyAt := b.bootMs }
    mon := { s.mon with supply := vset s.mon.supply 0 b.vcoreMv }
    twin := { s.twin with hb := false, hbDead := false, hbAt := s.time.fclk } }
  let o := s1.boot
  (s1.retrain9.raiseAll (es ++ [s.ev 797 0x0C81 [(1, o.cause), (1, boolNat o.slotB), (1, boolNat o.warm), (4, b.bootMs)]])).review

/-- FIRMWARE, DDR_TRAIN and READY after an image has passed VERIFY (R431, R433, R454 to R461). `slot` is 0 for A, 1 for B
and 2 for a host load. Firmware that does not reach DDR_TRAIN stays at FIRMWARE until its time is out. -/
def State.startFirmware (s : State) (b : BootInputs) (f : Firmware) (slot : Nat) : State :=
  let s1 := { s with boot := { s.boot with phase := .running, state := 6, error := 0, fw := { f with bootSlot := slot }, loaded := [] } }
  let s2 := s1.bootLinks
  if b.fwStarts = false then s2
  else if s2.boot.warm then State.ready (State.replay { s2 with ddr := s2.ddr.wake s2.time.fclk } b) b []
  else
    let x := s2.trained b.ddr
    x.1.ready b x.2

/-- FETCH and VERIFY from flash: slot A, then slot B (R456, R519). A slot without a valid header holds no image, so the
error is that of the last image tried, or NO_IMAGE where there is none (R460). -/
def State.flashBoot (s : State) (b : BootInputs) : State :=
  match verifyImage s.sec.otp b.slotA with
  | .ok f => s.startFirmware b f 0
  | .error a =>
    let s1 := { s with boot := { s.boot with slotB := true } }
    match verifyImage s.sec.otp b.slotB with
    | .ok f => s1.startFirmware b f 1
    | .error c => s1.bootError (if c = 3 then a else c)

/-- SELFTEST (R453, R543 to R545): the report, and whether a memory failed. A test boot tests every memory. -/
def State.selftest (s : State) (b : BootInputs) : State × Bool :=
  let sel := b.bootsel % 8
  let kind := if sel = 7 then 2 else boolNat s.boot.warm
  let fails := b.sramFails.filter (fun f => decide (0 < f.words) && sramIds.contains f.id && (kind != 1 || f.id == 0))
  let r : Report := ⟨kind, fails, b.selftestUs, s.boot.cause⟩
  ({ s with
      boot := { s.boot with phase := .running, state := 1, bootsel := sel, report := some r }
      host := { s.host with board := writeBytes (if kind = 2 then [] else s.host.board) 0x3F000 r.bytes } },
    !fails.isEmpty)

/-- The boot ROM's steps (R453 to R458, R545). -/
def State.rom (s : State) (b : BootInputs) : State :=
  let x := s.selftest b
  let s1 := { x.1 with boot := { x.1.boot with vcoreCode := s.sec.otp.vcore } }
  if x.2 then x.1.bootError 1
  else if b.otpBad then x.1.bootError 2
  else
    match x.1.boot.bootsel with
    | 0 => s1.flashBoot b
    | 1 => { s1.romLink with boot := { s1.boot with phase := .waitHost, state := 4 } }
    | 2 => { s1 with boot := { s1.boot with phase := .waitHost, state := 4 } }
    | 7 => { s1 with boot := { s1.boot with state := 2 } }
    | _ => s1.bootError 8

/-- RESET_RELEASE: a power-on or cold reset ends (R453, R454). -/
def execResetRelease (b : BootInputs) (s : State) : Host.Outcome State Fault Refusal :=
  .next (if s.boot.phase ≠ .held then s else s.rom b)

/-- What a warm boot starts from (R451): house time, clocks, events, CUE pins, the kept host registers, the call board and
DDR5 with what it holds; the epoch is the journal head's (R503). -/
def State.warmCleared (s : State) : State :=
  { State.reset with
    time := s.time
    evt := { s.evt with copies := [] }
    cues := s.cues
    host := { scratch := s.host.scratch, sessNum := s.host.sessNum, sessRoute := s.host.sessRoute, sess := s.host.sess
              mbs := s.host.mbs.map (fun m => { m with latched := m.cmdWr }), board := s.host.board }
    journal := { s.journal with headAt := 0 }
    boot := { phase := .running, cause := s.boot.warmCause, warm := true, ddrDown := false }
    sec := { otp := s.sec.otp }
    tap := s.tap.locked
    mon := s.mon
    before := s.running.orElse (fun _ => s.before)
    pictures := []
    curtain := s.curtain
    flow := { saved := s.flow.saved, hasSaved := s.flow.hasSaved }
    cands := s.cands
    dpll := s.dpll
    ddr := s.ddr
    twin := { cast := s.twin.cast, epoch := ((s.journal.head.map (·.epoch)).getD s.twin.epoch) }
    free := s.free
    pending := s.pending }

/-- WARM_BOOT: the warm entry is complete and WARM_N is high (R23, R450, R453 to R456, R480). -/
def execWarmBoot (b : BootInputs) (s : State) : Host.Outcome State Fault Refusal :=
  .next (if s.boot.phase ≠ .warmSaved then s else s.warmCleared.rom b)

/-- FIRMWARE_INIT_TIMEOUT (R460). -/
def execFirmwareInitTimeout (s : State) : Host.Outcome State Fault Refusal :=
  .next (if s.boot.phase = .running ∧ s.boot.state = 6 then s.bootError 9 else s)

/-! ### The host load -/

/-- The ROM takes a chunk, clears GO, and after the last one verifies and starts the image (R457 to R460). -/
def State.takeChunk (s : State) (b : BootInputs) (length : Nat) (last : Bool) : State :=
  let chunk := readBytes s.host.board 0 length
  let loaded := s.boot.loaded ++ chunk
  let s1 := { s with boot := { s.boot with loaded := loaded, loadReg := s.boot.loadReg % 2 ^ 25 } }
  if 3584 * 1024 < loaded.length then s1.bootError 7
  else if last then
    match verifyImage s.sec.otp loaded with
    | .ok f => s1.startFirmware b f 2
    | .error c => s1.bootError c
  else s1

/-- BOOT_LOAD: a host write of the register (R457 to R459, R545). In WAIT_HOST, and in ERROR, where it starts a host load,
GO gives the ROM a chunk. Elsewhere the write only sets the register. -/
def execBootLoad (value : U32) (b : BootInputs) (s : State) : Host.Outcome State Fault Refusal :=
  .next (
    if s.hostAnswers = false then s
    else
      let v := value.toNat
      let length := v % 2 ^ 17
      let s1 := { s with boot := { s.boot with loadReg := length + 2 ^ 24 * (v / 2 ^ 24 % 4) } }
      if v / 2 ^ 25 % 2 = 0 ∨ (s.boot.state ≠ 4 ∧ s.boot.state ≠ 15) then s1
      else
        let fresh := decide (s.boot.state = 15)
        let s2 := { s1 with boot := { s1.boot with
          phase := .waitHost, state := 4, error := 0, loaded := if fresh then [] else s1.boot.loaded } }
        if length = 0 ∨ 65536 < length then State.bootError { s2 with boot := { s2.boot with loadReg := s2.boot.loadReg % 2 ^ 25 } } 7
        else s2.takeChunk b length (decide (v / 2 ^ 24 % 2 = 1)))

end Sys2Proof.Machine
end

