-- ==== Sys2Proof/Machine/Clocks.lean ====
section
/-! DEFINITION. The family of references and the DPLL (13): its happenings, and the 0x08xx commands of clocks. -/

namespace Sys2Proof.Machine

/-- ROOT_UNLOCK (R360, R387). -/
def execRootUnlock (s : State) : Host.Outcome State Fault Refusal :=
  .next (s.putCk ({ s.ck with dpll := { s.dpll.mark s.time.fclk 5 with rootLock := false } }.say 789 0x0820 []))

/-- ROOT_LOCK (R387). -/
def execRootLock (s : State) : Host.Outcome State Fault Refusal :=
  .next (s.putCk ({ s.ck with dpll := { s.dpll with rootLock := true } }.say 789 0x0821 []))

/-- ACTIVITY_LOSS (R365, R366, R371, R373, R376). -/
def execActivityLoss (c : Fin 16) (s : State) : Host.Outcome State Fault Refusal :=
  .next (if (vget s.cands c).actOk = false then s else s.putCk (s.ck.settle.lose c))

/-- CANDIDATE_ACTIVITY_RETURN (R366, R381): the monitor passes, and the first gate starts. -/
def execCandidateActivityReturn (c : Fin 16) (s : State) : Host.Outcome State Fault Refusal :=
  let x := vget s.cands c
  .next (
    if x.actOk = false ∧ x.cfg.nominal ≠ 0 ∧ s.canBeActive c = true then
      { s with cands := vset s.cands c { x with actOk := true, gateFrom := s.time.fclk, hitInGate := false, hitNext := false, phases := [], cmpAt := none } }
    else s)

/-- A gate's offset against XO_IN, in 10^-12, corrected by XO_IN's known error (R365, R368). -/
def trimmed (offset xoTrim : Int) : Int := offset + xoTrim + offset * xoTrim / 1000000000000

/-- GATE_END (R365, R366, R372): the gate, measured as `raw` against XO_IN, is checked against the window. -/
def execGateEnd (c : Fin 16) (raw : Int) (s : State) : Host.Outcome State Fault Refusal :=
  let x := vget s.cands c
  let offset := trimmed raw s.dpll.cfg.xoTrim
  let inside := decide (|offset| ≤ (x.cfg.window : Int) * 1000000)
  .next (
    if x.actOk = true ∧ s.canBeActive c = true ∧ x.cfg.nominal ≠ 0 ∧ x.gateFrom + gateTicks x.cfg ≤ s.time.fclk then
      let x0 := if inside then x else x.mark s.time.fclk 1
      let x1 := { x0 with offset := offset, freqOk := inside, noHit := !x.hitInGate, hitInGate := x.hitNext, hitNext := false
                          gateFrom := s.time.fclk
                          wtrEnd := if x.state = 0 then s.time.fclk + x.cfg.wtr * 800000000 else x.wtrEnd }
      let k := { s.ck.settle with cands := vset s.cands c x1 }
      s.putCk (
        if inside = false then (k.disqualify c 1).conflicts
        else if x.state = 0 ∧ x.hitInGate = false then
          (let k1 := k.setCand c 1 1
           if x.cfg.wtr = 0 then (k1.setCand c 2 4).select false else k1.select false)
        else k.conflicts)
    else s)

/-- WAIT_TO_RESTORE (R366, R370). -/
def execWaitToRestore (c : Fin 16) (s : State) : Host.Outcome State Fault Refusal :=
  let x := vget s.cands c
  .next (
    if x.state = 1 ∧ x.wtrEnd ≤ s.time.fclk then s.putCk ((s.ck.settle.setCand c 2 4).select false) else s)

/-- Forty times the deviation of a comparison from the value that a line fitted to the sixteen before predicts (R365);
the newest stands first. -/
def hitDeviation40 (phases : List Int) (phase : Int) : Int :=
  40 * phase - ((List.range 16).map (fun (i : Nat) => (10 - (i : Int)) * phases.getD (i : Nat) 0)).sum

/-- PHASE_COMPARISON (R7, R365, R366, R377, R378, R386): `phasePs` is the candidate's phase against the root, `ask` the y
that the loop asks for. A comparison whose spacing is not reached is none. The active candidate's, in the XO cycle in which
it was disqualified, still meets the clamp. -/
def execPhaseComparison (c : Fin 16) (phasePs : Int) (ask : Int) (s : State) : Host.Outcome State Fault Refusal :=
  let x := vget s.cands c
  .next (
    if x.actOk = false ∧ ¬ (s.dpll.lostDue = true ∧ s.dpll.active = some c.val) ∨ s.canBeActive c = false
        ∨ s.time.fclk < (x.cmpAt.map (· + compareTicks x.cfg.nominal)).getD 0 then s
    else
      let dev := hitDeviation40 x.phases phasePs
      let hit := decide (x.phases.length = 16 ∧ 40000 * (x.cfg.phaseHit : Int) < |dev|)
      -- a hit at the gate's close or later belongs to the next gate (R7)
      let inGate := decide (x.cfg.nominal = 0 ∨ s.time.fclk < x.gateFrom + gateTicks x.cfg)
      let x0 := if hit then x.mark s.time.fclk 2 else x
      let x1 := { x0 with
        phases := (phasePs :: x.phases).take 16, hits := if hit then satAdd 32 x.hits 1 else x.hits
        hitInGate := x.hitInGate || hit && inGate, hitNext := x.hitNext || hit && !inGate, cmpAt := some s.time.fclk }
      let d := s.dpll
      let inLoop := decide (d.active = some c.val ∧ (d.state = 1 ∨ d.state = 2) ∧ d.switching = none)
      let pull := (d.cfg.pullRange : Int) * 1000000
      let beyond := decide (pull < |ask|)
      let steers := inLoop && !d.lostDue
      let d1 := if steers then d.settle s.time.fclk ask else d.settle s.time.fclk d.goal
      let e := phasePs - d1.buildOut
      let k : Ck := { s.ck with cands := vset s.cands c x1, dpll := d1 }
      let k1 := if hit then k.say (724 + c) 0x0802 [(4, dev / 40)] else k
      let k2 :=
        if inLoop = false then k1
        else if (d.cfg.clampNs : Int) * 1000 < |e| then
          let dHeld := { (d.settle s.time.fclk d.y).mark s.time.fclk 1 with clamps := satAdd 32 d.clamps 1 }
          { k1 with dpll := dHeld }.leave 2
        else if steers = false then k1
        else
          let overs := if 2 * (d.cfg.lockNs : Int) * 1000 ≤ |e| then d.overRun + 1 else 0
          let dp := if beyond then d1.mark s.time.fclk 4 else d1
          let d2 := { dp with
            error := e, overRun := overs, pull := beyond
            lockFrom := if |e| < (d.cfg.lockNs : Int) * 1000 then some (d.lockFrom.getD s.time.fclk) else none }
          let kp := if beyond ∧ d.pull = false then
              { k1 with dpll := d2 }.say 788 0x0813 [(8, ask)] else { k1 with dpll := d2 }
          if d.state = 2 ∧ 4 ≤ overs then
            let kl := kp.setDpll 1 4
            { kl with dpll := kl.dpll.mark s.time.fclk 2 }
          else kp
      let k3 := if hit then k2.disqualify c 2 else k2
      s.putCk (if inLoop ∧ (d.cfg.clampNs : Int) * 1000 < |e| then k3.select false else k3))

/-- LOCK_ACQUIRED (R375, R377). -/
def execLockAcquired (s : State) : Host.Outcome State Fault Refusal :=
  let k := s.ck.settle
  .next (
    match k.dpll.lockFrom with
    | some t =>
      if k.dpll.state = 1 ∧ k.dpll.align = 0 ∧ t + 800000000000 / 10 ^ k.code ≤ s.time.fclk then
        (let l := k.setDpll 2 3; s.putCk { l with dpll := { l.dpll with overRun := 0 } })
      else s
    | none => s)

/-- HISTORY_SAMPLE (R379): the last whole second's sample joins the history now that LOCKED has lasted through the next,
whose own average, `meanY`, waits while LOCKED goes on. -/
def execHistorySample (meanY : Int) (s : State) : Host.Outcome State Fault Refusal :=
  let d := s.dpll
  .next (
    if d.secMean = some meanY then
      let w := expDecay d.cfg.holdTau
      let d1 := match d.lastY with
        | none => d
        | some v => { d with holdNum := d.holdNum * w / 2 ^ 64 + v * 2 ^ 64, holdDen := d.holdDen * w / 2 ^ 64 + 2 ^ 64
                             samples := satAdd 32 d.samples 1 }
      { s with dpll := { d1 with lastY := if d.secFrom.isSome then some meanY else none, secMean := none } }
    else s)

/-- SWITCH_END (R370, R373, R375): the DPLL enters ACQUIRING on the target, and what the switch recorded is acted on. -/
def execSwitchEnd (phasePs : Int) (s : State) : Host.Outcome State Fault Refusal :=
  let d := s.dpll
  .next (
    match d.switching with
    | some (some c) =>
      if d.switchEnd ≤ s.time.fclk then
        let k := s.ck.settle
        let k1 := { k with dpll := { k.dpll with
          active := some c, switching := none, buildOut := phasePs, error := 0
          align := if d.cfg.phaseMode = 1 then -phasePs else 0 } }.setDpll 1 0
        let k2 := Ck.say { k1 with dpll := { k1.dpll with lockFrom := some s.time.fclk } } 788 0x0811 [(1, candCode d.switchFrom), (1, c), (8, phasePs)]
        let k3 := { k2 with dpll := { k2.dpll with
          cfg := d.nextCfg.getD d.cfg, nextCfg := none, softDue := none, nextCand := [], nextClear := (0, 0)
          deferred := false, deliberate := false } }
        let k4 := d.nextCand.foldl (fun k p => match finOf 16 p.1 with | none => k | some i => k.applyCand i p.2)
          (k3.applyClear d.nextClear)
        s.putCk (match d.softDue with
          | some w => k4.applySoft w
          | none => k4.select d.deliberate)
      else s
    | _ => s)

/-- REF_PINS (R369, R370, R387): a value acted on has stood for 10 µs, so two are acted on no closer than that. -/
def execRefPins (refsel : Fin 16) (refforceN : Bool) (s : State) : Host.Outcome State Fault Refusal :=
  .next (
    if s.dpll.refsel = refsel.val ∧ s.dpll.forceN = refforceN ∨ s.time.fclk < s.dpll.pinsAt + 8000 then s
    else
      let k := s.ck.settle
      s.putCk (({ k with dpll := { k.dpll with refsel := refsel.val, forceN := refforceN, pinsAt := s.time.fclk } }.say
        788 0x0812 [(1, refsel.val), (1, boolNat refforceN)]).select true))

/-! ### Commands -/

/-- The DPLL status record (R384). -/
def Ck.statusBytes (k : Ck) : List Byte :=
  let d := k.dpll
  leBytes 1 d.state ++ leBytes 1 (candCode d.active)
    ++ leBytes 1 (boolNat d.switching.isSome + 2 * boolNat (decide (16 ≤ d.samples)) + 4 * d.cfg.revertive
        + 8 * boolNat (!d.forceN) + 16 * d.cfg.timeSteer + 32 * boolNat d.rootLock + 64 * d.cfg.phaseMode)
    ++ leBytes 1 (d.refsel + 16 * boolNat d.forceN) ++ leBytes 1 k.code ++ leBytes 1 d.sticky ++ [0, 0]
    ++ leInt 8 d.y ++ leInt 8 d.holdover ++ leInt 4 (if d.state = 1 ∨ d.state = 2 then d.error else 0)
    ++ leBytes 4 d.samples ++ leInt 8 d.buildOut ++ leBytes 8 d.since ++ leBytes 4 d.switches ++ leBytes 4 d.clamps
    ++ List.replicate 8 0

/-- CLOCK_STATUS (R384). -/
def execClockStatus (h : Hdr) (s : State) : Host.Outcome State Fault Refusal :=
  .next (runCmd Cmd.clockStatus h
    (fun s =>
      let k := s.ck.settle
      ({ s with dpll := { k.dpll with switches := 0, clamps := 0 } }, ok k.statusBytes)) s)

/-- A candidate status record (R385). -/
def Ck.candBytes (k : Ck) (c : Fin 16) : List Byte :=
  let x := vget k.cands c
  leBytes 1 c ++ leBytes 1 x.state ++ leBytes 1 x.cfg.rank
    ++ leBytes 1 (boolNat x.actOk + 2 * boolNat x.freqOk + 4 * boolNat x.noHit + 8 * boolNat x.conflict)
    ++ leBytes 1 x.sticky ++ leBytes 1 (loopCode k.dpll.cfg.bandwidth x.cfg.nominal) ++ [0, 0]
    ++ leBytes 4 x.cfg.nominal ++ leInt 4 (clampInt x.offset (-2147483647) 2147483647)
    ++ leBytes 4 (if x.state = 1 then (x.wtrEnd - k.tick) / 800000 else 0) ++ leBytes 4 x.hits ++ leBytes 4 x.losses
    ++ [0, 0, 0, 0]

/-- CANDIDATE_STATUS (R383, R385). -/
def execCandidateStatus (h : Hdr) (first count : Nat) (s : State) : Host.Outcome State Fault Refusal :=
  .next (runCmd Cmd.candidateStatus h
    (fun s =>
      if count = 0 ∨ 7 < count then (s, .refuse 0x0802 [])
      else if 16 < first + count then (s, .refuse 0x0801 [])
      else
        let k := s.ck
        let named := fun (c : Fin 16) => decide (first ≤ c.val) && decide (c.val < first + count)
        ({ s with cands := Vector.ofFn (fun c =>
            if named c then { vget s.cands c with hits := 0, losses := 0 } else vget s.cands c) },
          ok (((List.finRange 16).filter named).flatMap k.candBytes))) s)

/-- The ranges of R364. -/
def candInRange (f : CandSet) : Bool :=
  decide (f.rank ≤ 15) && decide (1 ≤ f.window ∧ f.window ≤ 1000) && decide (1 ≤ f.nominal ∧ f.nominal ≤ 200000000)
    && decide (10 ≤ f.gate ∧ f.gate ≤ 10000) && decide (5 ≤ f.phaseHit ∧ f.phaseHit ≤ 10000) && decide (f.wtr ≤ 3600)

/-- CANDIDATE_SET (R364, R366, R373, R383). -/
def execCandidateSet (h : Hdr) (candidate : Nat) (f : CandSet) (s : State) : Host.Outcome State Fault Refusal :=
  .next (runCmd Cmd.candidateSet h
    (fun s =>
      match finOf 16 candidate with
      | none => (s, .refuse 0x0801 [])
      | some c =>
        if candInRange f = false ∨ 4 ≤ candidate ∧ f.nominal ≠ 100000000 then (s, .refuse 0x0802 [])
        else if s.dpll.switching.isSome then
          (s.putCk ({ s.ck with dpll := { s.dpll with nextCand := s.dpll.nextCand ++ [(candidate, f)] } }.select true),
            ok [])
        else (s.putCk ((s.ck.settle.applyCand c f).select true), ok [])) s)

/-- The ranges of R368. -/
def dpllInRange (f : DpllSettings) : Bool :=
  decide (f.bandwidth ≤ 4) && decide (f.revertive ≤ 1) && decide (f.phaseMode ≤ 1) && decide (f.timeSteer ≤ 1)
    && decide (10 ≤ f.clampNs ∧ f.clampNs ≤ 100000) && decide (1 ≤ f.lockNs ∧ f.lockNs ≤ 50000)
    && decide (2 * f.lockNs < f.clampNs) && decide (1 ≤ f.pullRange ∧ f.pullRange ≤ 200)
    && decide (1 ≤ f.freqRate ∧ f.freqRate ≤ 100000) && decide (1 ≤ f.phaseSlew ∧ f.phaseSlew ≤ 100000)
    && decide (1 ≤ f.holdTau ∧ f.holdTau ≤ 3600) && decide (|f.xoTrim| ≤ 200000000)

/-- DPLL_SET (R368, R370, R373, R383). -/
def execDpllSet (h : Hdr) (f : DpllSettings) (s : State) : Host.Outcome State Fault Refusal :=
  .next (runCmd Cmd.dpllSet h
    (fun s =>
      if dpllInRange f = false then (s, .refuse 0x0802 [])
      else
        let k := s.ck.settle
        let d := if k.dpll.switching.isSome then { k.dpll with nextCfg := some f } else { k.dpll with cfg := f }
        (s.putCk ({ k with dpll := d }.select true), ok [])) s)

/-- DPLL_SOFTWARE (R373, R376, R380). -/
def execDpllSoftware (h : Hdr) (word : Int) (s : State) : Host.Outcome State Fault Refusal :=
  .next (runCmd Cmd.dpllSoftware h
    (fun s =>
      let k := s.ck.settle
      let pull := (k.dpll.cfg.pullRange : Int) * 1000000
      let w := clampInt word (-pull) pull
      if k.dpll.switching.isSome then ({ s with dpll := { k.dpll with softDue := some w } }, ok [])
      else (s.putCk (k.applySoft w), ok [])) s)

/-- DPLL_NUDGE (R380, R383). -/
def execDpllNudge (h : Hdr) (ns : Int) (s : State) : Host.Outcome State Fault Refusal :=
  .next (runCmd Cmd.dpllNudge h
    (fun s =>
      let k := s.ck.settle
      if 1000000 < |ns| then (s, .refuse 0x0802 [])
      else if k.dpll.state = 0 then (s, .refuse 0x0803 [])
      else ({ s with dpll := { k.dpll with nudge := k.dpll.nudge + 1000 * ns } }, ok [])) s)

/-- DPLL_CLOSE (R370, R376, R383): SOFTWARE ends, and selection runs. -/
def execDpllClose (h : Hdr) (s : State) : Host.Outcome State Fault Refusal :=
  .next (runCmd Cmd.dpllClose h
    (fun s =>
      if s.dpll.state ≠ 4 then (s, .refuse 0x0803 [])
      else (s.putCk ((s.ck.settle.setDpll 3 6).select true), ok [])) s)

/-- CLOCK_HISTORY_CLEAR (R373, R383, R386). -/
def execClockHistoryClear (h : Hdr) (dpllMask candidateMask : Nat) (s : State) : Host.Outcome State Fault Refusal :=
  .next (runCmd Cmd.clockHistoryClear h
    (fun s =>
      let d := s.dpll
      if d.switching.isSome then
        ({ s with dpll := { d with nextClear := (d.nextClear.1 ||| dpllMask, d.nextClear.2 ||| candidateMask) } }, ok [])
      else (s.putCk (s.ck.applyClear (dpllMask, candidateMask)), ok [])) s)

end Sys2Proof.Machine
end

