-- ==== Sys2Proof/Machine/Identity.lean ====
section
/-! DEFINITION. The 0x01xx family: identity, certificates, attestation, the owner key, debug tokens and OTP (R513 to
R533). -/

namespace Sys2Proof.Machine

/-- IDENTIFY (R1, R476). -/
def execIdentify (h : Hdr) (s : State) : Host.Outcome State Fault Refusal :=
  .next (runCmd Cmd.identify h
    (fun s =>
      (s, ok (leBytes 2 0x4816 ++ [1, 0] ++ leBytes 2 0x0100 ++ leBytes 4 s.boot.fw.version ++ leBytes 2 0x0102
        ++ leBytes 2 s.boot.fw.engine ++ leBytes 2 s.boot.fw.ladle ++ [0, 0] ++ leBytes 4 0x24816C2B ++ fingerprint
        ++ leBytes 8 s.sec.otp.serial))) s)

/-- The certificate chain (R525). -/
def certChain : List Byte := (List.range (min 4096 (Config.certLength 0))).map Config.certByte

/-- CERT_READ (R466, R525). -/
def execCertRead (h : Hdr) (bulkOffset length : Nat) (s : State) : Host.Outcome State Fault Refusal :=
  .next (runCmd Cmd.certRead h
    (fun s =>
      if (s.bulk bulkOffset length).isNone then (s, .refuse 0x0006 [])
      else (let out := certChain.take length; (s.setBulk bulkOffset out, ok (leBytes 4 out.length)))) s)

/-- The five measurements (R527). -/
def State.measurements (s : State) : List Byte :=
  sha256 ((List.range 131072).map Config.romByte) ++ s.boot.fw.sha ++ s.boot.fw.ladleSha
    ++ (match s.running with | none => List.replicate 32 0 | some p => slice p.sha 0 32)
    ++ (if s.curtain.valid then slice s.curtain.sha 0 32 else List.replicate 32 0)

/-- The flags of an attestation (R526). -/
def State.attestFlags (s : State) : Nat :=
  boolNat s.time.valid + 2 * boolNat s.sec.boundary + 4 * boolNat s.sec.debug + 8 * boolNat s.sec.otp.signedOnly
    + 16 * boolNat s.sec.ownerKey.isSome + 32 * boolNat s.twin.expected.isSome

/-- The signed part of an attestation (R526). -/
def State.attestStatement (s : State) (nonce : List Byte) : List Byte :=
  [0x4D, 0x55, 0x41, 0x54, 1, 0, 0, 0] ++ leBytes 8 s.sec.otp.serial ++ leBytes 8 s.now ++ leBytes 4 s.attestFlags
    ++ leBytes 2 s.sec.otp.rollback ++ leBytes 1 s.boot.fw.slot ++ leBytes 1 s.boot.fw.bootSlot ++ slice nonce 0 32
    ++ fingerprint ++ s.measurements ++ leBytes 4 ((s.running.map (·.id)).getD 0) ++ leBytes 4 s.curtain.gen
    ++ leBytes 4 (if s.curtain.valid then s.curtain.imageId else 0) ++ List.replicate 20 0

/-- ATTEST (R466, R524, R526, R527, R533). -/
def execAttest (h : Hdr) (nonce : List Byte) (bulkOffset : Nat) (s : State) : Host.Outcome State Fault Refusal :=
  .next (runCmd Cmd.attest h
    (fun s =>
      if (s.bulk bulkOffset 672).isNone then (s, .refuse 0x0006 [])
      else
        let m := s.attestStatement nonce
        let s1 := s.fresh.setBulk bulkOffset (m ++ slice (Config.identitySign s.free m) 0 384)
        (s1.raise (s.ev 835 0x0113 [(4, ((s.running.map (·.id)).getD 0 : Nat)), (4, s.attestFlags)]), ok s.measurements)) s)

/-- OWNER_KEY_LOAD (R521, R533). -/
def execOwnerKeyLoad (h : Hdr) (bulkOffset length : Nat) (s : State) : Host.Outcome State Fault Refusal :=
  .next (runCmd Cmd.ownerKeyLoad h
    (fun s =>
      if length ≠ 388 then (s, .refuse 0x0002 [])
      else
        match s.bulk bulkOffset length, s.sec.otp.ownerHash with
        | none, _ => (s, .refuse 0x0006 [])
        | some _, none => (s, .refuse 0x0104 [])
        | some bs, some hash =>
          let modulus := bs.take 384
          let exponent := beNat (bs.drop 384)
          if keyHash modulus exponent ≠ hash then (s, .refuse 0x0102 [])
          else
            (State.raise { s with sec := { s.sec with ownerKey := some (modulus, exponent) } }
              (s.ev 835 0x0110 [(8, field hash 0 8)]), ok [])) s)

/-- A debug token is one that this device accepts now (R530). -/
def State.tokenOk (s : State) (t : List Byte) : Bool :=
  slice t 0 4 == [0x4D, 0x55, 0x44, 0x54] && field t 4 1 == 1 && field t 8 8 == s.sec.otp.serial
    && slice t 0x10 32 == fingerprint && s.time.valid && decide (s.now < field t 0x30 8) && s.sec.ownerKey.isSome
    && signedOk s.sec.otp 4 1 (slice t 0 0x40) (slice t 0x40 1024)

/-- DEBUG_TOKEN (R521, R529, R530, R533). -/
def execDebugToken (h : Hdr) (bulkOffset length : Nat) (s : State) : Host.Outcome State Fault Refusal :=
  .next (runCmd Cmd.debugToken h
    (fun s =>
      if length ≠ 1088 then (s, .refuse 0x0002 [])
      else
        match s.bulk bulkOffset length with
        | none => (s, .refuse 0x0006 [])
        | some t =>
          if s.tokenOk t = false then (s.sigRefused 0x0105 4 0x0101, .refuse 0x0101 [])
          else
            let scope := field t 5 1
            let sec := { s.sec with boundary := s.sec.boundary || bitOf scope 0, debug := s.sec.debug || bitOf scope 1 }
            (State.raise { s with sec := sec }
              (s.ev 835 0x0112 [(1, boolNat sec.boundary + 2 * boolNat sec.debug), (8, field t 0x30 8)]), ok [])) s)

/-! ### OTP -/

/-- A fuse request's form, serial and fingerprint (R531, R532); reserved fields are ignored (R5). -/
def State.fuseForm (s : State) (q : List Byte) : Bool :=
  let op := field q 0 1
  decide (1 ≤ op ∧ op ≤ 4) && (op == 1 || field q 1 1 == 0) && decide (field q 1 1 < 4)
    && (op == 4 || field q 4 4 == 0) && field q 8 8 == s.sec.otp.serial && slice q 0x10 32 == fingerprint
    && q.length == (if op = 2 then 64 + 388 else if op = 4 then 64 else 64 + 1024)

/-- The signature that an operation needs (R532). -/
def State.fuseSigned (s : State) (q : List Byte) : Bool :=
  let op := field q 0 1
  let block := slice q 0x40 1024
  if op = 1 then field block 6 1 != field q 1 1 && signedOk s.sec.otp 5 0 (slice q 0 0x40) block
  else if op = 3 then s.sec.ownerKey.isSome && signedOk s.sec.otp 5 1 (slice q 0 0x40) block
  else true

/-- OTP after a fuse request; nothing where the OTP state refuses it (R520, R532). -/
def State.fuseApply (s : State) (q : List Byte) : Option Otp :=
  let o := s.sec.otp
  let arg := field q 1 1
  match field q 0 1 with
  | 1 =>
    match finOf 4 arg with
    | none => none
    | some i => if vget o.revoked i ∨ s.boot.fw.slot = arg then none else some { o with revoked := vset o.revoked i true }
  | 2 =>
    if o.ownerHash.isSome then none
    else some { o with ownerHash := some (keyHash (slice q 0x40 384) (beNat (slice q 0x1C0 4))) }
  | 3 => if o.signedOnly then none else some { o with signedOnly := true }
  | _ =>
    let v := field q 4 4
    if v ≤ o.rollback ∨ s.boot.fw.rollback < v then none else some { o with rollback := v }

/-- The status that refuses a fuse request, in R532's order, or OTP after it. -/
def State.fuseCheck (s : State) (bulkOffset length : Nat) : Except Nat (List Byte × Otp) :=
  if fuseInRange (vget s.mon.supply 1) = false then .error 0x0103
  else
    match s.bulk bulkOffset length with
    | none => .error 0x0006
    | some q =>
      if s.fuseForm q = false then .error 0x0002
      else if s.fuseSigned q = false then .error 0x0101
      else match s.fuseApply q with
        | none => .error 0x0104
        | some o => .ok (q, o)

/-- What a refused fuse request raises first (R533, R581): SUPPLY_ALARM for VDD_FUSE outside its programming range, or
SIGNATURE_REFUSED. -/
def State.fuseRefused (s : State) (st : Nat) : State :=
  if st = 0x0103 then
    State.raise { s with mon := { s.mon with alarm := vset s.mon.alarm 1 true } } (s.ev 795 0x0C98 [(2, (vget s.mon.supply 1 : Nat))])
  else if st = 0x0101 then s.sigRefused 0x0106 5 st
  else s

/-- FUSE_PROGRAM (R442, R513, R514, R520, R531 to R533, R581). -/
def execFuseProgram (h : Hdr) (bulkOffset length : Nat) (s : State) : Host.Outcome State Fault Refusal :=
  .next (runCmd Cmd.fuseProgram h
    (fun s =>
      match s.fuseCheck bulkOffset length with
      | .error st =>
        let op := match s.bulk bulkOffset length with | none => 0 | some q => field q 0 1
        ((s.fuseRefused st).raise (s.ev 798 0x0119 [(1, op), (2, st)]), .refuse st [])
      | .ok (q, o) =>
        (State.raise { s with sec := { s.sec with otp := o } }
          (s.ev 798 0x0118 [(1, field q 0 1), (1, field q 1 1), (4, field q 4 4)]), ok [])) s)

end Sys2Proof.Machine
end

