-- ==== Sys2Proof/Machine/CurtainOps.lean ====
section
/-! DEFINITION. The safety curtain's commands (R213 to R225, 0x0440 to 0x0444). -/

namespace Sys2Proof.Machine

/-- A filtered edge of CURTAIN_N as the pin's record keeps it (R218). -/
def Curtain.edge (k : Curtain) (level : Bool) (tick : Nat) : Curtain :=
  { k with
    pin := level
    lows := if level then
        match k.lows with
        | (a, none) :: rest => (a, some tick) :: rest
        | l => l
      else (tick, none) :: k.lows }

/-- CURTAIN_N_EDGE (R218, R219, R222, R227): the curtain follows it. Before firmware runs, the generation moves and no event
is raised; while the device is held in reset the pin alone is followed. -/
def execCurtainNEdge (level : Bool) (s : State) : Host.Outcome State Fault Refusal :=
  .next (
    if level = s.curtain.pin then s
    else
      let k := s.curtain.edge level s.time.tick
      if s.up ∨ s.boot.phase = .warmEntry then s.moveCurtain k 0
      else { s with curtain := if s.boot.phase = .held then k else (s.moveCurtain k 0).curtain })

/-- CURTAIN_REFUSED (R216, R227). -/
def State.curtainRefused (s : State) (opcode status : Nat) : State × Reply :=
  (s.raise (s.ev 820 0x0413 [(2, opcode), (2, status)]), .refuse status [])

/-- CURTAIN_STAGE (R216). -/
def execCurtainStage (h : Hdr) (offset : Nat) (data : List Byte) (s : State) : Host.Outcome State Fault Refusal :=
  .next (runCmd (Cmd.curtainStage data) h
    (fun s =>
      if 2097152 < offset + data.length then s.curtainRefused 0x0440 0x0402
      else ({ s with curtain := { s.curtain with staging := writeBytes s.curtain.staging offset data } }, ok [])) s)

/-- The format of a curtain image (R213); reserved fields are ignored (R5). -/
def curtainForm (b : List Byte) : Bool :=
  slice b 0 4 == [0x4D, 0x55, 0x43, 0x49] && field b 4 1 == 1 && field b 5 1 == 0 && field b 6 2 == 64 && field b 8 2 == 3840
    && field b 0x0A 2 == 2160 && field b 0x18 4 == 2073728 && field b 0x1C 4 == 0x1FA480

/-- The refusal of an install, in the order DOWN, NO_KEY, FORMAT, SEQUENCE, SIGNATURE (R216, R217, notes/assumptions/38). -/
def State.installRefusal (s : State) (img : List Byte) : Option Nat :=
  if s.curtain.isDown then some 0x0405
  else if s.sec.ownerKey.isNone then some 0x0407
  else if curtainForm img = false then some 0x0402
  else if field img 0x10 8 < s.curtain.seq then some 0x0403
  else if signedOk s.sec.otp 3 1 (img.take 0x1FA480) (slice img 0x1FA480 1024) = false then some 0x0401
  else none

/-- CURTAIN_INSTALL (R213, R216, R217, R522): its completion comes with CURTAIN_COPY. -/
def execCurtainInstall (h : Hdr) (s : State) : Host.Outcome State Fault Refusal :=
  .next (runLong Cmd.curtainInstall h (fun s =>
    let img := readBytes s.curtain.staging 0 (0x1FA480 + 1024)
    match s.installRefusal img with
    | some st =>
      let s1 := if st = 0x0401 then s.sigRefused 0x0441 3 st else s
      let r := s1.curtainRefused 0x0441 st
      (r.1, some r.2)
    | none => ({ s with curtain := { s.curtain with install := some (img.take 0x1FA480) } }, none)) s)

/-- No frame latched DOWN is still in composition (R217). -/
def State.downComposing (s : State) : Bool := s.ctxs.any (fun x => x.2.latches.any (fun l => l.composing && l.down))

/-- CURTAIN_COPY (R214, R217, R219, R227). -/
def execCurtainCopy (s : State) : Host.Outcome State Fault Refusal :=
  .next (
    match s.curtain.install with
    | none => s
    | some img =>
      if s.downComposing then s
      else
        let gen := (s.curtain.gen + 1) % 2 ^ 32
        let id := field img 0x0C 4
        let seq := field img 0x10 8
        let k := { s.curtain with
          mem := writeBytes [] 0 img, valid := true, sha := sha256 img, gen := gen, imageId := id, seq := seq, install := none }
        let s1 := State.finishLong { s with curtain := k } 6 (ok (leBytes 4 id ++ leBytes 4 gen))
        s1.raise (s1.ev 820 0x0412 [(4, id), (8, seq), (4, gen)]))

/-- A DROP or RAISE (R216, R219, R523), with the refusals in the order NO_KEY, DEVICE, SEQUENCE, SIGNATURE
(notes/assumptions/38). -/
def State.signedMove (s : State) (opcode : Nat) (down : Bool) (sequence : Nat) (print signature : List Byte) : State × Reply :=
  match s.sec.ownerKey with
  | none => s.curtainRefused opcode 0x0407
  | some key =>
    if print ≠ fingerprint then s.curtainRefused opcode 0x0404
    else if sequence ≤ s.curtain.cmdSeq then s.curtainRefused opcode 0x0403
    else if pssVerify key.1 (leBytes 2 opcode ++ leBytes 8 sequence ++ print) signature = false then
      s.curtainRefused opcode 0x0401
    else
      let s1 := s.moveCurtain { s.curtain with cmdDown := down, cmdSeq := sequence } 1
      (s1, ok (leBytes 4 s1.curtain.gen))

/-- CURTAIN_DROP (R216, R219, R471, R523). -/
def execCurtainDrop (h : Hdr) (sequence : Nat) (print signature : List Byte) (s : State) : Host.Outcome State Fault Refusal :=
  .next (runCmd Cmd.curtainDrop h
    (fun s => s.signedMove 0x0442 true sequence print signature) s true)

/-- CURTAIN_RAISE (R216, R219, R471, R523). -/
def execCurtainRaise (h : Hdr) (sequence : Nat) (print signature : List Byte) (s : State) : Host.Outcome State Fault Refusal :=
  .next (runCmd Cmd.curtainRaise h
    (fun s => s.signedMove 0x0443 false sequence print signature) s true)

/-- CURTAIN_STATUS (R216). -/
def execCurtainStatus (h : Hdr) (s : State) : Host.Outcome State Fault Refusal :=
  .next (runCmd Cmd.curtainStatus h (fun s =>
    let k := s.curtain
    (s, ok (leBytes 1 (boolNat k.cmdDown) ++ leBytes 1 (boolNat k.pin) ++ leBytes 1 (boolNat k.valid) ++ [0] ++ leBytes 4 k.gen
      ++ leBytes 4 k.imageId ++ leBytes 4 0 ++ leBytes 8 k.seq ++ slice k.sha 0 32))) s)

end Sys2Proof.Machine
end

