-- ==== Sys2Proof/Machine/Dram.lean ====
section
/-! DEFINITION. The family of DDR5 (15): refresh and maintenance, requests, returns, the scrub, ALERT, and the 0x09xx
commands. -/

namespace Sys2Proof.Machine

/-- REFRESH_WINDOW (R418): a window begins on its grid; every bank of every subchannel is closed. The first one after
training starts the grid. -/
def execRefreshWindow (s : State) : Host.Outcome State Fault Refusal :=
  let d := s.ddr
  .next (
    if d.state ≠ 1 then s
    else if d.windows = 0 then
      { s with ddr := { d with windows := 1, window := s.time.fclk, subs := d.subs.map (fun c => { c with open_ := [] }) } }
    else { s with ddr := d.roll s.time.fclk })

/-- ZQ_CALIBRATION (R419): every 128 ms, inside a refresh window. -/
def execZqCalibration (s : State) : Host.Outcome State Fault Refusal :=
  .next (
    if s.ddr.state = 1 ∧ s.ddr.refreshing s.time.fclk = true ∧ s.ddr.lastZq + 102400000 ≤ s.time.fclk then
      { s with ddr := { s.ddr with lastZq := s.time.fclk } }
    else s)

/-- MR4_READ (R419, R420): every 32 ms, inside a refresh window; a reported refresh rate above the configured one sets
DRAM_HOT, raised once per entry. -/
def execMr4Read (sub : Fin 12) (rank : Nat) (code : Nat) (configured : Nat) (s : State) :
    Host.Outcome State Fault Refusal :=
  let d := s.ddr
  let hot := decide (configured < code)
  let was := decide (d.hotAt ≠ [])
  let last := cget 0 d.mr4At (2 * sub + rank)
  .next (
    if d.state = 1 ∧ (vget d.subs sub).state = 1 ∧ rank < d.ranks ∧ d.refreshing s.time.fclk = true
        ∧ (last = 0 ∨ last + 25599999 ≤ s.time.fclk) then
      State.raiseAll
        { s with ddr := { d with hot := d.hot || hot, hotAt := cset false d.hotAt (2 * sub + rank) hot
                                 mr4At := cset 0 d.mr4At (2 * sub + rank) (s.time.fclk + 1) } }
        (evIf (hot && !was) (s.ev 720 0x0918 [(1, sub.val), (1, rank), (1, code)]))
    else s)

/-- Urgency counts of a read that leaves its queue at urgency u (R438). -/
def countUrgency (u : Nat) (l : List Nat) : List Nat :=
  (List.range 3).map (fun k => if k + 1 ≤ u then satAdd 32 (l.getD k 0) 1 else l.getD k 0)

/-- A request issues on its subchannel in an MCLK cycle: it leaves the queue and opens its row; a read waits for its data,
and a write frees its queue space. -/
def Ddr.issue (d : Ddr) (sub : Fin 12) (r : Nat × Nat × DdrKind × Nat × Nat) (cycle : Nat) : Ddr :=
  let c := vget d.subs sub
  let l := dramLoc d.interleave d.n d.density r.2.2.2.1
  let bytes := ((d.writes.find? (fun w => decide (w.1 = r.1))).map (·.2)).getD 0
  { d with
    subs := vset d.subs sub { c with
      queue := c.queue.filter (fun x => decide (x.1 ≠ r.1)), run := 0, open_ := cset 0 c.open_ l.bank (l.row + 1)
      picked := cycle + 1, lastRank := l.rank, issued := if r.2.2.1 = DdrKind.read then c.issued ++ [r] else c.issued }
    writes := d.writes.filter (fun w => decide (w.1 ≠ r.1)) }.modPort r.2.1 (fun p =>
      match r.2.2.1 with
      | .read => { p with urgent := countUrgency (d.urgency cycle r) p.urgent }
      | .write => { p with fill := p.fill - bytes })

/-- DDR_SCHEDULE (R418, R422): the picked request issues, one in an MCLK cycle, outside refresh windows. -/
def execDdrSchedule (sub : Fin 12) (s : State) : Host.Outcome State Fault Refusal :=
  let d := s.ddr.roll s.time.fclk
  let c := vget d.subs sub
  .next (
    if d.state ≠ 1 ∨ c.state ≠ 1 ∨ d.refreshing s.time.fclk = true ∨ s.time.fclk < c.picked then s
    else
      match d.pick c s.time.fclk with
      | none => s
      | some r => { s with ddr := (d.issue sub r s.time.fclk).writeWaiting s.time.fclk }.noteQueues d)

/-- An engine's write is dropped (R84). -/
def State.dropWrite (s : State) (e : Fin 16) (bytes : Nat) : State :=
  let g := vget s.engines e
  State.raise { s with engines := vset s.engines e { g with n := { g.n with dropped := satAdd 32 g.n.dropped 1 } } }
    (s.ev g.q.context 0x0104 [(2, g.q.row), (2, g.q.ctu), (1, 5), (4, bytes)])

/-- DDR_WRITE_REQUEST (R84, R424): queued when the port's queue has room, otherwise counted and handled as the port's
rule gives: an engine's write is dropped, P21's is not accepted and reported, and every other requester keeps its
write. -/
def execDdrWriteRequest (port : Fin 22) (address : Nat) (data : List Byte) (s : State) :
    Host.Outcome State Fault Refusal :=
  .next (
    if s.ddr.hasRoom port data.length = true then
      { s with ddr := s.ddr.write port address data s.time.fclk }.noteQueues s.ddr
    else
      match finOf 16 port.val with
      | some e => (s.portFull port data.length).dropWrite e data.length
      | none => s.portFull port data.length)

/-- The owner of a landed burst acts (R79, R80, R92, R212, R429). -/
def State.landed (s : State) (serves : ReadFor) (poison : Bool) : State :=
  match serves with
  | .other | .scrub _ _ => s
  | .stockpot q => if poison then s.setQueue q { s.queue q with refillBad := true } else s
  | .preview context frame band =>
    let x := s.ctxSt context
    s.setCtx context (if poison then { x with previewBad := cset false x.previewBad (512 * frame + band) true } else x)
  | .audio port word => s.landWord port word poison
  | .tag e tag gen =>
    match finOf 16 e with
    | none => s
    | some i =>
      let last := !(s.ddr.reads.any (fun r => decide (r.2 = .tag e tag gen)))
      let g := (vget s.engines i).land tag gen last poison s.cycle
      { s with engines := vset s.engines i (g.landRecord tag s.ddr) }

/-- The scrub's read of a codeword is done (R427, R438): a pass is complete when every fitted subchannel has come round. -/
def State.scrubbed (s : State) (sub : Fin 12) (k : Nat) : State :=
  let d := s.ddr
  if k + 1 < d.codewords then s
  else
    let subs := vmod d.subs sub (fun c => { c with scrubDone := c.scrubDone + 1 })
    let all := subs.toList.all (fun x => x.state != 1 || decide (0 < x.scrubDone))
    { s with ddr := { d with
        subs := if all then subs.map (fun x => { x with scrubDone := x.scrubDone - 1 }) else subs
        passes := if all then satAdd 32 d.passes 1 else d.passes } }

/-- What a read serves. -/
def Ddr.servesOf (d : Ddr) (id : Nat) : ReadFor := ((d.reads.find? (fun x => decide (x.1 = id))).map (·.2)).getD .other

/-- An issued read's data is in (R438): it is no longer outstanding, and its port counts its latency. -/
def Ddr.returned (d : Ddr) (sub : Fin 12) (r : Nat × Nat × DdrKind × Nat × Nat) (cycle : Nat) : Ddr :=
  let ns := (cycle - r.2.2.2.2) * 5 / 4
  { d with
    subs := vmod d.subs sub (fun c => { c with issued := c.issued.filter (fun x => decide (x.1 ≠ r.1)) })
    reads := d.reads.filter (fun x => decide (x.1 ≠ r.1)) }.modPort r.2.1 (fun p =>
      { p with done := satAdd 32 p.done 1, sum := p.sum + ns, max := max p.max ns })

/-- DDR_READ_RETURN (R79, R119, R425, R426, R429, R430): an issued read's data comes through the decoder. -/
def execDdrReadReturn (sub : Fin 12) (id : Nat) (err : CodeErr) (s : State) : Host.Outcome State Fault Refusal :=
  .next (
    match (vget s.ddr.subs sub).issued.find? (fun r => decide (r.1 = id)) with
    | none => s
    | some r =>
      if s.ddr.refreshing s.time.fclk = true then s
      else
        let s1 := { s with ddr := s.ddr.returned sub r s.time.fclk }
        match s.ddr.servesOf id with
        | .scrub k e => State.scrubbed (s1.decode sub 0xFF r.2.2.2.1 e 3).1 sub k
        | serves =>
          let v := s1.decode sub r.2.1 r.2.2.2.1 err 0
          v.1.landed serves v.2)

/-- A subchannel's scrub interval in MCLK cycles (R427). -/
def Ddr.scrubInterval (d : Ddr) : Nat := max 800 (d.scrubPeriod * 3600 * 800000000 / d.codewords)

/-- PATROL_SCRUB (R427): one read per interval joins its subchannel's queue, of no port, with the errors that its codeword
holds. -/
def execPatrolScrub (sub : Fin 12) (err : CodeErr) (s : State) : Host.Outcome State Fault Refusal :=
  let d := s.ddr
  let c := vget d.subs sub
  let age := s.time.fclk - c.scrubAt
  .next (
    if d.state = 1 ∧ c.state = 1 ∧ d.scrubInterval ≤ age then
      let c1 := { c with scrub := if d.codewords ≤ c.scrub + 1 then 0 else c.scrub + 1
                         scrubAt := s.time.fclk - age % d.scrubInterval }
      let d1 := { d with subs := vset d.subs sub c1 }
      { s with ddr := d1.enqueue 0xFF .read s.time.fclk (.scrub c.scrub err) (d.codeAddress sub c.scrub) }
    else s)

/-- DDR_ALERT (R428): up to four re-issues; the fifth ALERT in a sequence turns the subchannel's checks off. -/
def execDdrAlert (sub : Fin 12) (s : State) : Host.Outcome State Fault Refusal :=
  let c := vget s.ddr.subs sub
  .next (
    if c.state = 1 ∧ (c.caParity = true ∨ c.writeCrc = true) then
      if c.run < 4 then
        (s.setSub sub { c with alerts := satAdd 32 c.alerts 1, run := c.run + 1, replays := satAdd 32 c.replays 1 }).raise
          (s.ev (subSource sub) 0x0913 [(4, c.run + 1)])
      else
        ((s.setSub sub { c with alerts := satAdd 32 c.alerts 1 }).raise
          (s.ev (subSource sub) 0x0913 [(4, c.run)])).checksOff sub c.lastRank
    else s)

/-! ### Commands -/

/-- The controller record (R438). -/
def State.ddrBytes (s : State) : List Byte :=
  let d := s.ddr
  leBytes 1 d.channels ++ leBytes 1 d.rate ++ leBytes 1 d.refresh ++ leBytes 1 d.interleave ++ leBytes 1 d.density
    ++ leBytes 1 d.ranks ++ leBytes 1 d.state
    ++ leBytes 1 (boolNat d.hot + 2 * boolNat (d.subs.toList.any (fun c => c.state == 1 && (!c.caParity || !c.writeCrc)))
        + 4 * boolNat s.flow.hasSaved)
    ++ leBytes 8 d.capacity ++ leBytes 8 d.windows ++ leBytes 2 d.log.length ++ leBytes 2 d.overflow
    ++ leBytes 4 d.passes ++ leBytes 2 d.scrubPeriod ++ leBytes 2 d.threshold ++ leBytes 4 d.uncorr ++ leBytes 8 d.corr
    ++ List.replicate 16 0

/-- DDR_STATUS (R438); the counters that R430 does not keep are cleared. -/
def execDdrStatus (h : Hdr) (s : State) : Host.Outcome State Fault Refusal :=
  .next (runCmd Cmd.ddrStatus h
    (fun s =>
      let s1 := { s with ddr := s.ddr.roll s.time.fclk }
      ({ s1 with ddr := { s1.ddr with passes := 0, uncorr := 0 } }, ok s1.ddrBytes)) s)

/-- A subchannel record (R438). -/
def SubCh.bytes (c : SubCh) (i : Nat) : List Byte :=
  leBytes 1 i ++ leBytes 1 c.state ++ leBytes 1 (boolNat c.caParity + 2 * boolNat c.writeCrc) ++ [0]
    ++ c.marked.toList.flatMap (fun m => leBytes 1 (m.getD 0xFF)) ++ [0, 0]
    ++ leBytes 4 c.alerts ++ leBytes 4 c.replays ++ leBytes 4 c.uncorr ++ [0, 0, 0, 0]
    ++ (List.range 20).flatMap (fun k => leBytes 2 (min 65535 (cget 0 c.corr k)))

/-- DDR_SUBCHANNEL_STATUS (R437, R438). -/
def execDdrSubchannelStatus (h : Hdr) (first count : Nat) (s : State) : Host.Outcome State Fault Refusal :=
  .next (runCmd Cmd.ddrSubchannelStatus h
    (fun s =>
      if count = 0 ∨ 12 < first + count then (s, .refuse 0x0901 [])
      else
        let named := fun (i : Fin 12) => decide (first ≤ i.val) && decide (i.val < first + count)
        ({ s with ddr := { s.ddr with subs := Vector.ofFn (fun i =>
            if named i then { vget s.ddr.subs i with alerts := 0, replays := 0, uncorr := 0 } else vget s.ddr.subs i) } },
          ok (((List.finRange 12).filter named).flatMap (fun i => (vget s.ddr.subs i).bytes i)))) s)

/-- A port record (R438). -/
def DPort.bytes (p : DPort) (i : Nat) : List Byte :=
  leBytes 1 i ++ [0, 0, 0] ++ leBytes 4 p.reads ++ leBytes 4 (p.sum / (if p.done = 0 then 1 else p.done)) ++ leBytes 4 p.max
    ++ (List.range 3).flatMap (fun k => leBytes 4 (p.urgent.getD k 0)) ++ leBytes 4 p.full

/-- DDR_PORT_STATUS (R437, R438). -/
def execDdrPortStatus (h : Hdr) (first count : Nat) (s : State) : Host.Outcome State Fault Refusal :=
  .next (runCmd Cmd.ddrPortStatus h
    (fun s =>
      if count = 0 ∨ 22 < first + count then (s, .refuse 0x0901 [])
      else
        let named := fun (i : Fin 22) => decide (first ≤ i.val) && decide (i.val < first + count)
        ({ s with ddr := { s.ddr with ports := Vector.ofFn (fun i =>
            if named i then { target := (vget s.ddr.ports i).target, fill := (vget s.ddr.ports i).fill }
            else vget s.ddr.ports i) } },
          ok (((List.finRange 22).filter named).flatMap (fun i => (vget s.ddr.ports i).bytes i)))) s)

/-- An error-log entry's bytes (R430). -/
def LogEntry.bytes (e : LogEntry) : List Byte :=
  leBytes 8 e.stamp ++ leBytes 8 e.address ++ slice e.synd 0 16 ++ leBytes 1 e.kind ++ leBytes 1 e.sub
    ++ leBytes 1 e.rank ++ leBytes 1 e.comp ++ leBytes 1 e.port ++ List.replicate 11 0

/-- DDR_ERROR_LOG (R430). -/
def execDdrErrorLog (h : Hdr) (clear : Nat) (s : State) : Host.Outcome State Fault Refusal :=
  .next (runCmd Cmd.ddrErrorLog h
    (fun s =>
      let d := s.ddr
      if 1 < clear then (s, .refuse 0x0901 [])
      else
        let cleared := { d with log := [], overflow := 0, corr := 0, subs := d.subs.map (fun c => { c with corr := [] }) }
        ({ s with ddr := if clear = 1 then cleared else d },
          ok (leBytes 2 d.log.length ++ leBytes 2 d.overflow ++ [0, 0, 0, 0] ++ d.log.flatMap LogEntry.bytes))) s)

/-- DDR_MARK (R426, R428, R437). -/
def execDdrMark (h : Hdr) (subchannel rank component action : Nat) (s : State) : Host.Outcome State Fault Refusal :=
  .next (runCmd Cmd.ddrMark h
    (fun s =>
      match finOf 12 subchannel, finOf 2 rank with
      | some i, some r =>
        let c := vget s.ddr.subs i
        if 9 < component ∨ 1 < action then (s, .refuse 0x0901 [])
        else if c.state = 0 ∨ s.ddr.ranks ≤ rank then (s, .refuse 0x0902 [])
        else if action = 1 then
          (if (vget c.marked r).isSome then (s, .refuse 0x0902 []) else (s.markComp i rank component 1, ok []))
        else if vget c.marked r = some component then
          (s.setSub i { c with marked := vset c.marked r none, corr := cset 0 c.corr (10 * rank + component) 0 }, ok [])
        else (s, ok [])
      | _, _ => (s, .refuse 0x0901 [])) s)

/-- DDR_SCRUB_SET (R426, R427, R437). -/
def execDdrScrubSet (h : Hdr) (period threshold : Nat) (s : State) : Host.Outcome State Fault Refusal :=
  .next (runCmd Cmd.ddrScrubSet h
    (fun s =>
      if period = 0 ∨ 168 < period ∨ threshold = 0 ∨ 65535 < threshold then (s, .refuse 0x0901 [])
      else ({ s with ddr := { s.ddr with scrubPeriod := period, threshold := threshold } }, ok [])) s)

/-- DDR_CHECKS_ENABLE (R428, R437), added by minor 1 (R476). -/
def execDdrChecksEnable (h : Hdr) (subchannel : Nat) (s : State) : Host.Outcome State Fault Refusal :=
  .next (runCmd Cmd.ddrChecksEnable h
    (fun s =>
      match finOf 12 subchannel with
      | none => (s, .refuse 0x0901 [])
      | some i =>
        let c := vget s.ddr.subs i
        if c.state = 0 then (s, .refuse 0x0902 [])
        else (s.setSub i { c with caParity := true, writeCrc := true, run := 0 }, ok [])) s)

end Sys2Proof.Machine
end

