-- ==== Sys2Proof/Machine/LinkCmds.lean ====
section
/-! DEFINITION. The 0x07xx commands (R311 to R317, R357). A payload begins with the link number. -/

namespace Sys2Proof.Machine

/-- A command on a link: a number above 11 is refused with LINK_NUMBER (R316, R357). -/
def withLink (link : Nat) (body : Fin 12 → State → State × Reply) (s : State) : State × Reply :=
  match finOf 12 link with
  | none => (s, .refuse 0x0701 [])
  | some i => body i s

/-- The state byte of R317: inside STEP the repeated states show as STEP. -/
def Link.stateCode (l : Link) : Nat := if l.stepped ∧ l.retrain = false ∧ 2 ≤ l.state ∧ l.state ≤ 5 then 7 else l.state

/-- A lane's eight bytes of the link status record (R317). -/
def Link.laneBytes (l : Link) (n : Fin 4) : List Byte :=
  let x := vget l.rx n
  leInt 1 x.now.ctle ++ ((List.range 5).map (fun i => leInt 1 (x.now.taps.getD i 0))).flatten
    ++ leBytes 1 (boolNat x.drift + 2 * boolNat (bitOf l.rxLanes n) + 4 * boolNat x.failed)
    ++ leBytes 1 (vget l.tx n).preset

/-- The link status record (R317). -/
def Link.statusBytes (l : Link) (i fclk now : Nat) : List Byte :=
  leBytes 1 i ++ leBytes 1 l.stateCode ++ leBytes 1 l.version ++ leBytes 1 l.rate ++ leBytes 1 l.txLanes
    ++ leBytes 1 l.rxLanes
    ++ leBytes 1 (boolNat (l.rx.toList.any (·.drift)) + 2 * boolNat l.ckLock + 4 * boolNat l.eye.isSome) ++ [0]
    ++ leBytes 4 l.retrains ++ leBytes 4 (min (2 ^ 32 - 1) (l.rx.toList.map (·.violations)).sum)
    ++ leBytes 8 (if l.state = 10 then now + (l.next - fclk) * 5 / 4 else 0) ++ leBytes 2 l.wait ++ List.replicate 6 0
    ++ (List.finRange 4).flatMap l.laneBytes

/-- LINK_STATUS (R317): the record; its counters are cleared. -/
def execLinkStatus (h : Hdr) (link : Nat) (s : State) : Host.Outcome State Fault Refusal :=
  .next (runCmd Cmd.linkStatus h
    (withLink link (fun i s =>
      let l := vget s.links i
      (s.setLink i { l with retrains := 0, rx := l.rx.map (fun x => { x with violations := 0 }) }, ok (l.statusBytes i s.time.fclk s.now)))) s)

/-- A full training that the host orders (R304, R307). -/
def State.orderTraining (s : State) (i : Fin 12) : State :=
  let l := vget s.links i
  let s1 := s.abortEye i
  let l1 := { (vget s1.links i).fullTraining s.time.fclk with retrains := satAdd 32 l.retrains 1 }
  (s1.setLink i l1).raiseAll (evIf (decide (l.state = 8 ∨ l.state = 9)) (s.ev (632 + i) 0x0711 [(1, 4)]))

/-- LINK_RETRAIN (R304, R306, R307, R316). -/
def execLinkRetrain (h : Hdr) (link mode : Nat) (s : State) : Host.Outcome State Fault Refusal :=
  .next (runCmd Cmd.linkRetrain h
    (withLink link (fun i s =>
      let l := vget s.links i
      if 1 < mode then (s, .refuse 0x0704 [])
      else if l.state ≠ 8 ∧ l.state ≠ 9 ∧ l.state ≠ 10 then (s, .refuse 0x0702 [])
      else if mode = 0 ∧ l.state ≠ 10 then (s.retrain i 4, ok [])
      else (s.orderTraining i, ok []))) s)

/-- LINK_TX_SET (R303, R316): presets for the next ADAPT. -/
def execLinkTxSet (h : Hdr) (link : Nat) (presets : List Nat) (s : State) : Host.Outcome State Fault Refusal :=
  .next (runCmd Cmd.linkTxSet h
    (withLink link (fun i s =>
      let l := vget s.links i
      if presets.any (fun p => decide (7 < p)) then (s, .refuse 0x0704 [])
      else
        (s.setLink i { l with tx := Vector.ofFn (fun n : Fin 4 =>
            { vget l.tx n with next := presets.getD n (vget l.tx n).next }) }, ok []))) s)

/-- LINK_GUARD_SET (R308, R309): guards of the named lanes, at once; a coefficient outside its new band is clamped. -/
def execLinkGuardSet (h : Hdr) (link lanes ctle tap1 taps2to5 phase : Nat) (s : State) :
    Host.Outcome State Fault Refusal :=
  .next (runCmd Cmd.linkGuardSet h
    (withLink link (fun i s =>
      let l := vget s.links i
      if 15 < lanes ∨ [ctle, tap1, taps2to5, phase].any (fun g => decide (31 < g)) then (s, .refuse 0x0704 [])
      else
        let s1 := s.setLink i { l with rx := Vector.ofFn (fun n : Fin 4 =>
            if bitOf lanes n then { vget l.rx n with guards := [ctle, tap1, taps2to5, phase] } else vget l.rx n) }
        ((lanesOf lanes).foldl (fun a n => (List.range 7).foldl (fun a c =>
            s.adaptStep i a n c ((vget l.rx n).coeff c).1 ((vget l.rx n).atEdge c)) a) s1, ok []))) s)

/-- EYE_SCAN (R311, R312): the scan starts; its completion comes with EYE_DONE or its abort. -/
def execEyeScan (h : Hdr) (link lanes k bulkOffset : Nat) (s : State) : Host.Outcome State Fault Refusal :=
  .next (runLong Cmd.eyeScan h
    (fun s =>
      match finOf 12 link with
      | none => (s, some (.refuse 0x0701 []))
      | some i =>
        let l := vget s.links i
        if lanes = 0 ∨ 15 < lanes ∨ k < 10 ∨ 30 < k then (s, some (.refuse 0x0704 []))
        else if l.state ≠ 8 then (s, some (.refuse 0x0702 []))
        else if l.eye.isSome then (s, some (.refuse 0x0706 []))
        else if (s.bulk bulkOffset (16384 * (lanesOf lanes).length)).isNone then (s, some (.refuse 0x0006 []))
        else (s.setLink i { l with eye := some ⟨lanes, k, bulkOffset, s.time.fclk, h.mb⟩ }, none)) s)

/-- PATTERN_START (R312, R313, R315). -/
def execPatternStart (h : Hdr) (link pattern mode lanes : Nat) (user : BitVec 64) (s : State) :
    Host.Outcome State Fault Refusal :=
  .next (runCmd Cmd.patternStart h
    (withLink link (fun i s =>
      let l := vget s.links i
      if 5 < pattern ∨ 1 < mode ∨ 15 < lanes then (s, .refuse 0x0704 [])
      else if s.sessionLink = some i.val ∨ i = 11 ∧ s.twin.expected.isSome then (s, .refuse 0x0703 [])
      else if l.state = 0 ∨ l.state = 11 then (s, .refuse 0x0702 [])
      else
        let s1 := s.abortEye i
        let l1 := vget s1.links i
        let l2 := { l1 with
          state := 11, since := s.time.fclk, retrain := false, stepped := false
          rate := if l1.everActive then l1.lastRate else 0
          txLanes := if l1.everActive then l1.lastTx else 15
          rxLanes := if l1.everActive then l1.lastRx else 15
          test := some { pattern := pattern, raw := decide (mode = 1), lanes := lanes, user := user, from_ := s.time.fclk
                         check := Vector.replicate 4 { from_ := s.time.fclk } } }
        ((s1.setLink i l2).raiseAll (evIf (decide (l.state = 8 ∨ l.state = 9)) (s.ev (632 + i) 0x0711 [(1, 5)])),
          ok []))) s)

/-- PATTERN_READ (R314): the counters, with what each checker has counted since (`seen`: bits and errors by lane); they
are cleared. -/
def execPatternRead (h : Hdr) (link : Nat) (seen : List (Nat × Nat)) (s : State) : Host.Outcome State Fault Refusal :=
  .next (runCmd Cmd.patternRead h
    (withLink link (fun i s =>
      let l := vget s.links i
      match l.test with
      | none => (s, .refuse 0x0702 [])
      | some t =>
        let lane := fun (n : Fin 4) =>
          let c := vget t.check n
          let d := if c.locked then seen.getD n (0, 0) else (0, 0)
          leBytes 8 (satAdd 48 c.bits d.1) ++ leBytes 8 (satAdd 48 c.errors d.2) ++ leBytes 4 c.lost
            ++ leBytes 1 (boolNat c.locked) ++ [0, 0, 0]
        (s.setLink i { l with test := some { t with check := Vector.ofFn (fun (n : Fin 4) =>
            let c := vget t.check n
            { locked := c.locked, from_ := c.from_, seen := c.seen + (if c.locked then (seen.getD n (0, 0)).2 else 0) }) } },
          ok ((List.finRange 4).flatMap lane)))) s)

/-- PATTERN_INJECT (R314): one bit at the next, or one in every 2^k until it is set off. -/
def execPatternInject (h : Hdr) (link lanes mode k : Nat) (s : State) : Host.Outcome State Fault Refusal :=
  .next (runCmd Cmd.patternInject h
    (withLink link (fun i s =>
      let l := vget s.links i
      if 15 < lanes ∨ 2 < mode ∨ mode = 2 ∧ (k < 6 ∨ 40 < k) then (s, .refuse 0x0704 [])
      else
        match l.test with
        | none => (s, .refuse 0x0702 [])
        | some t =>
          let bit := bitsIn (s.time.fclk - t.from_) l.rate
          let off := t.inject.map (fun (j, first, step, o) => (j, first, step, if o = none ∧ step ≠ 0 then some bit else o))
          (s.setLink i { l with test := some { t with
              inject := if mode = 0 then off else if mode = 1 then t.inject ++ [(lanes, bit, 0, none)]
                else off ++ [(lanes, bit, 2 ^ k, none)] } }, ok []))) s)

/-- PATTERN_STOP (R314): the test ends, and the link runs a full training. -/
def execPatternStop (h : Hdr) (link : Nat) (s : State) : Host.Outcome State Fault Refusal :=
  .next (runCmd Cmd.patternStop h
    (withLink link (fun i s =>
      let l := vget s.links i
      if l.state ≠ 11 then (s, .refuse 0x0702 []) else (s.setLink i (l.fullTraining s.time.fclk), ok []))) s)

/-- The link protocol record (R357). -/
def Link.protocolBytes (l : Link) (i : Nat) : List Byte :=
  leBytes 1 i ++ leBytes 1 l.role ++ [0, 0] ++ leBytes 4 l.naks ++ leBytes 4 l.replaysN ++ leBytes 4 l.protoErr
    ++ leBytes 4 l.fresh ++ leBytes 4 l.unexpected ++ leBytes 4 l.rejected ++ [0, 0, 0, 0]
    ++ l.waits.toList.flatMap (leBytes 4)

/-- LINK_PROTOCOL (R357): the record; its counters are cleared. Added by minor 1 (R476). -/
def execLinkProtocol (h : Hdr) (link : Nat) (s : State) : Host.Outcome State Fault Refusal :=
  .next (runCmd Cmd.linkProtocol h
    (withLink link (fun i s =>
      let l := vget s.links i
      (s.setLink i { l with naks := 0, replaysN := 0, protoErr := 0, fresh := 0, unexpected := 0, rejected := 0
                            waits := Vector.replicate 8 0 }, ok (l.protocolBytes i)))) s)

end Sys2Proof.Machine
end

