-- ==== Sys2Proof/Machine/Links.lean ====
section
/-! DEFINITION. The family of flits, retry and credits (R294 to R298, R319 to R331, R338), of the in-service eye scan and
of the pattern test (R311 to R314). -/

namespace Sys2Proof.Machine

/-- The payload of a flit (R319). -/
def flitPayload (f : BitVec 512) : List Byte := slice (flitBytes f) 4 56

/-- The CRC of a flit holds (R319). -/
def flitGood (f : BitVec 512) : Bool := field (flitBytes f) 60 4 == crc32c (slice (flitBytes f) 0 60)

/-- A DATA payload joins its channel's byte stream; its whole messages are delivered (R323, R327, R331). -/
def Link.takeData (l : Link) (vc : Fin 8) (second at_ : Nat) (payload : List Byte) : Link × List (Nat × Nat) :=
  let r := splitMsgs 64 (vget l.rxBytes vc ++ payload)
  let l1 := { l with x := (l.x + 1) % 4096, nakOut := false, nakDue := false, rxBytes := vset l.rxBytes vc r.2 }
  r.1.foldl (Link.deliver vc second at_) (l1, [])

/-- A good flit (R322, R323, R324), at an FCLK cycle and a tick of house time: the link after it, and the (type, count) of each
VC_UNEXPECTED due on its channel. -/
def Link.takeGood (l : Link) (f : BitVec 512) (tick at_ : Nat) : Link × List (Nat × Nat) :=
  let seq := (f.extractLsb' 0 12).toNat
  let ack := (f.extractLsb' 12 12).toNat
  let vc : Fin 8 := Fin.ofNat 8 (f.extractLsb' 24 3).toNat
  let l1 := { l with badRun := 0 }.takeAck ack tick
  let l2 := if f.getLsbD 28 then l1.takeNak ack tick else l1
  if f.getLsbD 27 then (if seq = l.x then l2.takeData vc (at_ / 800000000) at_ (flitPayload f) else (l2, []))
  else
    let l3 := l2.takeCredits (flitPayload f)
    (if seq = l.x then l3 else l3.askReplay, [])

/-- A good flit's NAK asks for a replay that is exhausted (R324). -/
def Link.nakExhausts (l : Link) (f : BitVec 512) (tick : Nat) : Bool :=
  let ack := (f.extractLsb' 12 12).toNat
  let l1 := l.takeAck ack tick
  f.getLsbD 28 && l1.nakAsks ack && l1.exhausted

/-- FLIT_RECEIVE (R323 and the rules it names). `bits` are the flit's data bits as the lanes received them, before the
descramblers (R295); `violations` are the code violations of its slots by lane (R298); `adapt` is what the running adaptation
asks for meanwhile (R308). -/
def execFlitReceive (link : Fin 12) (bits : BitVec 512) (violations : List (Fin 4 × Nat)) (adapt : List AdaptStep)
    (s : State) : Host.Outcome State Fault Refusal :=
  let l0 := vget s.links link
  .next (
    if l0.state ≠ 8 ∧ l0.state ≠ 9 then s
    else
      let d := l0.descramble bits
      let flit := d.2
      let l := d.1.violate violations
      let bad := decide (violations ≠ []) || !flitGood flit
      let r := if bad then ({ l with badRun := l.badRun + 1 }.askReplay, []) else l.takeGood flit s.time.fclk s.time.tick
      let vc := (flit.extractLsb' 24 3).toNat
      let s1 := (s.setLink link r.1).raiseAll
        (violations.map (fun v => s.ev (512 + 4 * link + v.1) 0x0703 [(4, v.2)])
          ++ r.2.map (fun u => s.ev (632 + link) 0x0718 [(2, vc), (1, u.1), (4, u.2)]))
      let s2 := adapt.foldl (fun a d => s.adaptStep link a d.lane d.coeff d.value
        ((vget (vget a.links link).rx d.lane).atEdge d.coeff)) s1
      if 16 ≤ r.1.badRun then s2.retrain link 1
      else if bad = false ∧ l.nakExhausts flit s.time.fclk = true then s2.retrain link 2
      else s2)

/-- A DATA flit of a channel: its bytes, filled with one PAD message (R321, R327). -/
def padTo56 (bs : List Byte) : List Byte :=
  if 56 ≤ bs.length then bs.take 56
  else bs ++ [0, 0] ++ leBytes 2 (52 - bs.length) ++ List.replicate (52 - bs.length) 0

/-- The eight grants of an IDLE flit (R320, R330). -/
def Link.grants (l : Link) : List Byte := l.granted.toList.flatMap (leBytes 2)

/-- What the transmitter sends next (R320 to R324): the replay's next flit, a DATA flit of the first channel that has
bytes, or an IDLE flit. -/
def Link.nextFlit (l : Link) (tick : Nat) : Link :=
  -- the sequence number that the next DATA flit takes (R319): in a replay, the replayed flit's
  let next := match l.replayAt with | some p => (l.una + p) % 4096 | none => l.seq
  let idle := fun (l : Link) =>
    let f := mkFlit next l.x 0 false l.nakDue l.grants
    { l.sendFlit f with nakDue := false, idleDue := false, dataRun := 0 }
  if l.idleDue ∨ l.dataRun = 511 then idle l
  else
    match l.replayAt.bind (fun p => (l.replay[p]?).map (fun f => (p, f))) with
    | some (p, f) =>
      let f' := mkFlit (f.extractLsb' 0 12).toNat l.x (f.extractLsb' 24 3).toNat true l.nakDue (flitPayload f)
      { l.sendFlit f' with nakDue := false, dataRun := l.dataRun + 1
                           replayAt := if p + 1 < l.replay.length then some (p + 1) else none }
    | none =>
      if 1024 ≤ (l.seq + 4096 - l.una) % 4096 then idle l
      else
        let vcs := l.order.filter l.carries
        let filled := vcs.foldl (fun a vc => (Link.gather vc 64 a).noteWait vc tick) l
        match vcs.find? (fun vc => decide (vget filled.txBytes vc ≠ [])) with
        | none => idle filled
        | some vc =>
          let bs := vget filled.txBytes vc
          let f := mkFlit l.seq l.x vc true l.nakDue (padTo56 bs)
          { filled.sendFlit f with
            nakDue := false, dataRun := l.dataRun + 1, seq := (l.seq + 1) % 4096
            replay := l.replay ++ [f], txBytes := vset filled.txBytes vc (bs.drop 56)
            ackTick := if l.replay = [] then tick else l.ackTick
            robin := if 2 ≤ vc.val then (if vc.val = 7 then 2 else vc.val + 1) else l.robin }

/-- FLIT_SEND (R294, R295, R296, R297, R320, R321, R322, R329). -/
def execFlitSend (link : Fin 12) (s : State) : Host.Outcome State Fault Refusal :=
  let l := vget s.links link
  .next (if l.state = 8 then s.setLink link (l.nextFlit s.time.fclk) else s)

/-- REPLAY_TIMEOUT (R324): ACK has stood for 4 µs; after four replays from one flit the replay is exhausted. -/
def execReplayTimeout (link : Fin 12) (s : State) : Host.Outcome State Fault Refusal :=
  let l := vget s.links link
  .next (
    if l.state = 8 ∧ l.replay ≠ [] ∧ l.ackTick + 3200 ≤ s.time.fclk then
      if l.exhausted then s.retrain link 2 else s.setLink link (l.startReplay s.time.fclk)
    else s)

/-- CREDIT_STARVED (R331): a message has waited 100 µs for credits; raised once. -/
def execCreditStarved (link : Fin 12) (vc : Fin 8) (s : State) : Host.Outcome State Fault Refusal :=
  let l := vget s.links link
  .next (
    match vget l.waitFrom vc, vget l.txQueue vc with
    | some t, (_, b) :: _ =>
      if t + 80000 ≤ s.time.fclk ∧ vget l.starved vc = false then
        (s.setLink link { l with starved := vset l.starved vc true }).raise
          (s.ev (632 + link) 0x0719
            [(2, vc.val), (4, msgCredits b.length), (4, (vget l.held vc + 65536 - vget l.spent vc) % 65536)])
      else s
    | _, _ => s)

/-- EYE_DONE (R311): the scan's 4,096 points per lane are finished; the counts are written and the command completes. -/
def execEyeDone (link : Fin 12) (counts : List Nat) (s : State) : Host.Outcome State Fault Refusal :=
  let l := vget s.links link
  .next (
    match l.eye with
    | none => s
    | some e =>
      if 4096 ≤ e.pointsAt l.rate s.time.fclk then
        let n := 4096 * (lanesOf e.lanes).length
        let bytes := ((List.range n).map (fun i => leBytes 4 (min (counts.getD i 0) (2 ^ 32 - 1)))).flatten
        let s1 := (s.setLink link { l with eye := none }).setBulk e.offset bytes
        (s1.finishLong e.mb (ok (leBytes 4 4096))).raise (s.ev (632 + link) 0x0715 [(1, e.lanes), (4, 4096), (2, 0)])
      else s)

/-- A change of one lane's pattern checker. -/
def State.setChecker (s : State) (link : Fin 12) (t : PatTest) (lane : Fin 4) (c : Checker) : State :=
  s.setLink link { vget s.links link with test := some { t with check := vset t.check lane c } }

/-- The recurrence of a pattern, bit n from bits n - a and n - b, and whether it is inverted on the line (R313). -/
def patternTaps (pattern : Nat) : Nat × Nat × Bool :=
  match pattern with
  | 0 => (7, 6, false)
  | 1 => (9, 5, false)
  | 2 => (15, 14, true)
  | 3 => (23, 18, true)
  | _ => (31, 28, true)

/-- Bit n of a pattern: the user word repeated, or the sequence from the state of all ones (R313, notes/assumptions/28). -/
def PatTest.bit (t : PatTest) (n : Nat) : Bool :=
  if t.pattern = 5 then t.user.getLsbD (n % 64)
  else
    let p := patternTaps t.pattern
    let x := times (fun (x : Nat) => (2 * x + boolNat (bitOf x (p.1 - 1) != bitOf x (p.2.1 - 1))) % 2 ^ p.1)
      (n % (2 ^ p.1 - 1) + 1) (2 ^ p.1 - 1)
    bitOf x 0 != p.2.2

/-- A lane's bit n is inverted by PATTERN_INJECT (R314). -/
def PatTest.inverted (t : PatTest) (lane : Fin 4) (n : Nat) : Bool :=
  t.inject.any (fun (lanes, first, step, off) => bitOf lanes lane && decide (first ≤ n) && (off.map (fun o => decide (n < o))).getD true
    && (if step = 0 then n == first else (n - first) % step == 0))

/-- Bit n that a lane transmits in a test, before the line coding of coded mode (R313, R314). -/
def PatTest.sent (t : PatTest) (lane : Fin 4) (n : Nat) : Bool := t.bit n != t.inverted lane n

/-- The line coding of the first n slots of a coded test, from electrical idle (R296, R297, R313). -/
def PatTest.coded (t : PatTest) (lanes : List (Fin 4)) : Nat → Coder
  | 0 => Coder.idle {}
  | n + 1 => lanes.foldl (fun (c : Coder) i =>
      c.block lanes i (BitVec.ofNat 128 (((List.range 128).map (fun b => boolNat (t.sent i (128 * n + b)) * 2 ^ b)).sum))) (t.coded lanes n)

/-- A lane that the test checks (R313). -/
def Link.checks (l : Link) (t : PatTest) (lane : Fin 4) : Bool := bitOf l.rxLanes lane && bitOf t.lanes lane

/-- PATTERN_LOCK (R314): a checker that seeks has had its 64 error-free bits. -/
def execPatternLock (link : Fin 12) (lane : Fin 4) (s : State) : Host.Outcome State Fault Refusal :=
  let l := vget s.links link
  .next (
    match l.test with
    | none => s
    | some t =>
      let c := vget t.check lane
      if l.checks t lane = true ∧ c.locked = false ∧ 64 ≤ bitsIn (s.time.fclk - c.from_) l.rate then
        s.setChecker link t lane { c with locked := true, from_ := s.time.fclk, seen := 0 }
      else s)

/-- PATTERN_LOCK_LOST (R314): the lane's counts up to the loss, sixteen errors at least since lock and no more bits than it has
had, and one more lock lost. -/
def execPatternLockLost (link : Fin 12) (lane : Fin 4) (errors bits : Nat) (s : State) :
    Host.Outcome State Fault Refusal :=
  let l := vget s.links link
  .next (
    match l.test with
    | none => s
    | some t =>
      let c := vget t.check lane
      if c.locked = true ∧ 16 ≤ c.seen + errors ∧ bits ≤ bitsIn (s.time.fclk - c.from_) l.rate then
        s.setChecker link t lane
          { bits := satAdd 48 c.bits bits, errors := satAdd 48 c.errors errors, lost := satAdd 32 c.lost 1, from_ := s.time.fclk }
      else s)

end Sys2Proof.Machine
end

