-- ==== Sys2Proof/Machine/Session.lean ====
section
/-! DEFINITION. The 0x00xx family: sessions and mailboxes (R467, R475, R476). -/

namespace Sys2Proof.Machine

/-- SESSION_CLOSED with a cause; other than by GOODBYE it also sets the interrupt cause (R465, R475, R484). -/
def State.closeSession (s : State) (cause : Nat) : State :=
  State.raise { s with host := { (if cause = 0 then s.host else s.host.note 1 s.time.fclk) with
    sess := none, sessClosed := s.host.sessClosed || decide (cause ≠ 0) } }
    (s.ev 826 0x0011 [(4, s.host.sessNum), (1, cause)])

/-- A new session at a minor (R465, R475, R484). -/
def State.openSession (s : State) (minor : Nat) : State :=
  let n := (s.host.sessNum + 1) % 2 ^ 24
  State.raise { s with host := { s.host with sess := some minor, sessNum := n, sessRoute := s.host.bellRoute } }
    (s.ev 826 0x0010 [(4, n), (1, s.host.bellRoute), (1, minor)])

/-- HELLO (R4, R17, R472, R475, R476). -/
def execHello (h : Hdr) (minMinor maxMinor major hostId : Nat) (s : State) : Host.Outcome State Fault Refusal :=
  .next (runCmd Cmd.hello h
    (fun s =>
      let minor := min maxMinor 2
      let _ := hostId
      if major ≠ 1 ∨ minor < minMinor then (s, .refuse 0x0008 [])
      else
        let s1 := if s.host.sess.isSome then s.closeSession 1 else s
        let s2 := s1.openSession minor
        let v := s.boot.fw.version
        (s2, ok (leBytes 1 1 ++ leBytes 1 minor ++ leBytes 1 (v / 65536) ++ leBytes 1 (v / 256) ++ leBytes 2 (v % 256)
          ++ [0, 0] ++ leBytes 4 s2.host.sessNum ++ leBytes 1 s2.host.sessRoute ++ [0, 0, 0]))) s)

/-- GOODBYE (R475). -/
def execGoodbye (h : Hdr) (s : State) : Host.Outcome State Fault Refusal :=
  .next (runCmd Cmd.goodbye h (fun s => (s.closeSession 0, ok [])) s)

/-- The depth that a depth_log2 entry asks for; 0 leaves it (R467). -/
def newDepth (old code : Nat) : Nat := if code = 0 then old else 2 ^ code

/-- The depths that MB_CONFIG asks for; MB0's entry is ignored (R467). -/
def askedDepths (mbs : Vector Mailbox 8) (codes : List Nat) : List Nat :=
  (List.finRange 8).map (fun n => if n = 0 then (vget mbs n).depth else newDepth (vget mbs n).depth (codes.getD n 0))

/-- A mailbox that may be changed: all four indices equal, and nothing executing. -/
def Mailbox.empty (m : Mailbox) : Bool :=
  decide (m.cmdWr = m.cmdRd) && decide (m.cmdRd = m.cplWr) && decide (m.cplWr = m.cplRd) && m.long.isNone

/-- MB_CONFIG (R467), added by minor 2 (R476). -/
def execMbConfig (h : Hdr) (depths : List Nat) (s : State) : Host.Outcome State Fault Refusal :=
  .next (runCmd Cmd.mbConfig h
    (fun s =>
      let asked := askedDepths s.host.mbs depths
      let changes := fun (n : Fin 8) => n.val ≠ 0 ∧ depths.getD n 0 ≠ 0
      if (depths.drop 1).any (fun d => decide (d ≠ 0 ∧ (d < 4 ∨ 8 < d))) ∨ 1280 < asked.sum then (s, .refuse 0x0002 [])
      else if (List.finRange 8).any (fun n => decide (changes n) && !(vget s.host.mbs n).empty) then (s, .refuse 0x0009 [])
      else
        let mbs := Vector.ofFn (fun n : Fin 8 => if changes n then { depth := asked.getD n 128 } else vget s.host.mbs n)
        let recs := s.journal.recs.filter (fun r => !(List.finRange 8).any (fun n => decide (changes n) && n.val == r.mb))
        ({ s with host := { s.host with mbs := mbs }, journal := { s.journal with recs := recs } }, ok (asked.flatMap (leBytes 2)))) s)

/-- ECHO (R476). -/
def execEcho (h : Hdr) (data : List Byte) (s : State) : Host.Outcome State Fault Refusal :=
  .next (runCmd (Cmd.echo data) h (fun s => (s, ok data)) s)

end Sys2Proof.Machine
end

