-- ==== Sys2Proof/Machine/Time.lean ====
section
/-! DEFINITION. The family of house time, events and CUE pins (14). -/

namespace Sys2Proof.Machine

/-! ### House time -/

/-- The second of an edge and what it says (R394 steps 1 and 2): S, whether TOD_MISSING counts, and a TOD_JUMP's pair. -/
def edgeSecond (tod prev : Option Nat) (busy : Bool) : Option Nat × Bool × Option (Nat × Nat) :=
  match tod, prev with
  | none, none => (none, true, none)
  | none, some p => (some (p + 1), true, none)
  | some t, none => (some t, false, none)
  | some t, some p =>
    if t = p + 1 then (some t, false, none) else (some (if busy then p + 1 else t), false, some (p + 1, t))

/-- What a PPS_IN edge does beyond its capture: the value in ns to which house time is set with the cause of TIME_SET, by
HOUSE_TIME_SET first and else once after the reset (R393). No set waits out a production that runs or is cued (R362). -/
def State.edgeSets (s : State) : Option (Nat × Nat) :=
  let h := s.time
  if s.busyWithProduction then none
  else
    match h.setAtEdge, h.valid, h.tod with
    | some t, _, _ => some (t, 1)
    | none, false, some t => some (t * 1000000000, 0)
    | none, _, _ => none

/-- An edge's time error, and what follows from it (R394 steps 3 to 5). -/
def State.edgeError (s : State) (capturePs : Int) (sec : Nat) : State :=
  let e := capturePs - 1000000000000 * (sec : Int)
  let bad := decide ((s.time.alarmNs : Int) * 1000 ≤ |e|)
  let e32 := clampInt e (-2147483647) 2147483647
  let dpll := if s.dpll.cfg.timeSteer = 1 then s.ck.settle.dpll.steer (-e) else s.dpll
  State.raiseAll { s with time := { s.time with errorPs := e, alarm := bad }, dpll := dpll }
    (evIf (bad && !s.time.alarm) (s.ev 799 0x0902 [(4, e32), (8, sec)])
      ++ evIf (!bad && s.time.alarm) (s.ev 799 0x0903 [(4, e32)]))

/-- PPS_EDGE (R362, R380, R393, R394): captured `subTickPs` after the tick, at 10 ps. An edge that sets house time is captured
at the value set. -/
def execPpsEdge (subTickPs : Nat) (s : State) : Host.Outcome State Fault Refusal :=
  let h := s.time
  let sets := s.edgeSets
  let capture : Nat := match sets with
    | some v => 1250 * tickOf v.1
    | none => 1250 * h.tick + 10 * (subTickPs % 1250 / 10)
  let r := edgeSecond h.tod h.prevSecond s.busyWithProduction
  let jump := match r.2.2 with | none => [] | some j => [s.ev 799 0x0904 [(8, j.1), (8, j.2)]]
  let h1 := { h with tod := none, ppsPresent := true, ppsLost := false, lastPps := capture / 1000, lastPpsAt := h.fclk
                     setAtEdge := if sets.isSome then none else h.setAtEdge
                     prevSecond := r.1, todMissing := if r.2.1 then satAdd 32 h.todMissing 1 else h.todMissing }
  let s1 := State.raiseAll { s with time := h1 } jump
  let s2 := match sets with | some v => s1.setTime v.1 v.2 | none => s1
  .next (match r.1 with | none => s2 | some sec => s2.edgeError capture sec)

/-- PPS_LOST (R394): no edge for 1.5 s, raised once. -/
def execPpsLost (s : State) : Host.Outcome State Fault Refusal :=
  .next (
    if s.time.ppsLost = false ∧ s.time.lastPpsAt + 1200000000 ≤ s.time.fclk then
      State.raise { s with time := { s.time with ppsLost := true, ppsPresent := false } }
        (s.ev 799 0x0905 [(8, s.time.lastPps)])
    else s)

/-- The reserved bits of TIME_OF_DAY (R347). -/
def todReserved : Cells Byte := (8, 0xFE) :: reserved [(9, 7)]

/-- TIME_OF_DAY (R338, R341, R347, R394): taken on a link that was auxiliary with TOD_SOURCE at its delivery, and held for the next PPS_IN edge; a later message replaces an earlier one. -/
def execTimeOfDay (link : Fin 12) (second : Nat) (valid : Bool) (s : State) : Host.Outcome State Fault Refusal :=
  let body := leBytes 8 second ++ leBytes 4 (boolNat valid) ++ [0, 0, 0, 0]
  .next (
    if s.hasMsg link 1 0x10 body todReserved = true then
      let s1 := s.popInbox link 1
      let m := s.headMsg link 1
      if valid = true ∧ m.role = 3 ∧ m.tod = true then
        { s1 with time := { s.time with tod := some second, todSeen := true } }
      else s1
    else s)

/-- HOUSE_TIME_STATUS (R396). -/
def execHouseTimeStatus (h : Hdr) (s : State) : Host.Outcome State Fault Refusal :=
  .next (runCmd Cmd.houseTimeStatus h
    (fun s =>
      let t := s.time
      ({ s with time := { t with todMissing := 0 } },
        ok (leBytes 8 s.now ++ leBytes 8 t.lastPps ++ leInt 4 (clampInt t.errorPs (-2147483647) 2147483647)
          ++ leBytes 1 (boolNat t.valid + 2 * boolNat t.todSeen + 4 * boolNat t.ppsPresent + 8 * boolNat t.alarm)
          ++ [0, 0, 0] ++ leBytes 4 t.todMissing ++ leBytes 4 t.alarmNs))) s)

/-- HOUSE_TIME_SET (R393, R413): at once, or at the next PPS_IN edge. -/
def execHouseTimeSet (h : Hdr) (mode time : Nat) (s : State) : Host.Outcome State Fault Refusal :=
  .next (runCmd Cmd.houseTimeSet h
    (fun s =>
      if 1 < mode then (s, .refuse 0x0B01 [])
      else if s.busyWithProduction then (s, .refuse 0x0804 [])
      else if mode = 1 then (s.setTime time 1, ok [])
      else ({ s with time := { s.time with setAtEdge := some time } }, ok [])) s)

/-- HOUSE_TIME_ALARM_SET (R394, R396), added by minor 1 (R476). -/
def execHouseTimeAlarmSet (h : Hdr) (timeAlarm : Nat) (s : State) : Host.Outcome State Fault Refusal :=
  .next (runCmd Cmd.houseTimeAlarmSet h
    (fun s =>
      if timeAlarm < 10 ∨ 1000000 < timeAlarm then (s, .refuse 0x0802 [])
      else ({ s with time := { s.time with alarmNs := timeAlarm } }, ok [])) s)

/-! ### Events -/

/-- EVT_RD_WRITE (R400, R401, R403). -/
def execEvtRdWrite (value : U32) (s : State) : Host.Outcome State Fault Refusal :=
  .next (s.writeRd value)

/-- EVENT_NOTIFY (R347): to every auxiliary link that asks for it, when the ring has become non-empty and every 1 ms
while records are unread. -/
def execEventNotify (s : State) : Host.Outcome State Fault Refusal :=
  let u := s.evt
  .next (
    if u.wr ≠ u.rd ∧ (u.notified = false ∨ u.lastNotify + 800000 ≤ s.time.fclk) then
      let body := leBytes 4 u.wr.toNat ++ leBytes 4 (U32.dist u.wr u.rd)
      let dest := (List.finRange 12).filter (fun i => (vget s.links i).role == 3 && (vget s.links i).notify)
      dest.foldl (fun a i => a.send i 1 0x12 body) { s with evt := { u with notified := true, lastNotify := s.time.fclk } }
    else s)

/-- EVENT_MASK_SET (R404, R413). -/
def execEventMaskSet (h : Hdr) (first count enable : Nat) (s : State) : Host.Outcome State Fault Refusal :=
  .next (runCmd Cmd.eventMaskSet h
    (fun s =>
      if 1024 < first + count ∨ 1 < enable then (s, .refuse 0x0B01 [])
      else
        let set := fun (a : Cells EvSource) (i : Nat) => cmod {} a (first + i) (fun x => { x with masked := decide (enable = 0) })
        ({ s with evt := { s.evt with sources := (List.range count).foldl set s.evt.sources } }, ok [])) s)

/-- A source's sixteen bytes in EVENT_SOURCE_STATUS (R413). -/
def EvSource.bytes (x : EvSource) : List Byte :=
  leBytes 4 x.occurrences ++ leBytes 4 x.merged ++ leBytes 4 x.maskedCount ++ leBytes 1 (boolNat x.outstanding.isSome)
    ++ [0, 0, 0]

/-- EVENT_SOURCE_STATUS (R390, R404, R413). -/
def execEventSourceStatus (h : Hdr) (first count : Nat) (s : State) : Host.Outcome State Fault Refusal :=
  .next (runCmd Cmd.eventSourceStatus h
    (fun s =>
      if count = 0 ∨ 252 < count ∨ 1024 < first + count then (s, .refuse 0x0B01 [])
      else (s, ok (leBytes 4 s.evt.stale ++ [0, 0, 0, 0]
        ++ recordsFrom (fun i => (cget {} s.evt.sources i).bytes) first count))) s)

/-! ### CUE pins -/

/-- A change of one pin. -/
def State.setPin (s : State) (pin : Fin 16) (p : CuePin) : State := { s with cues := vset s.cues pin p }

/-- CUE_EDGE (R392, R409, R410): an accepted change of an input's level, stamped at the first of its three samples. -/
def execCueEdge (pin : Fin 16) (level : Bool) (s : State) : Host.Outcome State Fault Refusal :=
  let p := vget s.cues pin
  let at_ := s.edgeNow
  .next (
    if p.cfg.direction ≠ 1 ∨ p.level = level ∨ (p.stuckNow ∧ p.isActive level = false) then s
    else if p.isActive level = false then s.setPin pin { p with level := level }
    else if at_ < p.holdEnd then
      s.setPin pin { p with level := level, lastEdge := at_, edges := satAdd 32 p.edges 1
                            suppressed := satAdd 32 p.suppressed 1, heldEdges := p.heldEdges + 1 }
    else
      (s.setPin pin { p with level := level, lastEdge := at_, edges := satAdd 32 p.edges 1
                             holdEnd := at_ + 1000 * p.cfg.holdoff, heldEdges := 0 }).raise
        { s.ev (804 + pin) 0x0B01 [(1, boolNat level), (4, p.heldEdges)] with stamp := at_ })

/-- CUE_STUCK (R411). -/
def execCueStuck (pin : Fin 16) (s : State) : Host.Outcome State Fault Refusal :=
  let p := vget s.cues pin
  .next (
    if p.cfg.direction = 1 ∧ p.isActive p.level = true ∧ p.cfg.stuck ≠ 0 ∧ p.stuckNow = false
        ∧ p.lastEdge + 1000000 * p.cfg.stuck ≤ s.now then
      (s.setPin pin { p with stuck := true, stuckNow := true }).raise (s.ev (804 + pin) 0x0B02 [(4, p.cfg.stuck)])
    else s)

/-- CUE_RELEASED (R411): a stuck input returns to inactive and re-arms; stamped as an accepted change is (R392). -/
def execCueReleased (pin : Fin 16) (s : State) : Host.Outcome State Fault Refusal :=
  let p := vget s.cues pin
  .next (
    if p.stuckNow = true then
      (s.setPin pin { p with level := !p.level, stuckNow := false }).raise
        { s.ev (804 + pin) 0x0B03 [(4, ((s.edgeNow - p.lastEdge) / 1000000 : Nat))] with stamp := s.edgeNow }
    else s)

/-- The first frame mark of a context at or after a tick, in a production that holds it (R412). -/
def State.nextMark (s : State) (context tick : Nat) : Option Nat :=
  s.prods.findSome? (fun x => (x.1.ctx context).bind (fun c =>
    let t := markFrom c.rateNum c.rateDen (max tick x.2.1)
    if inRange x t then some t else none))

/-- The pin's next pulse (R412): its start in ns, and what `nextPulse` is behind it; none when it has no further pulse. -/
def State.nextPulse (s : State) (p : CuePin) : Option (Nat × Nat) :=
  match p.out with
  | none => none
  | some o =>
    match p.cfg.mode with
    | 1 => if p.nextPulse = 0 then some (o.start, 1) else none
    | 2 => some (o.start + p.nextPulse * o.period, p.nextPulse + 1)
    | 3 => (s.nextMark o.context p.nextPulse).map (fun t => (pulseAt o t, t + 1))
    | _ => none

/-- A frame-mode output's context is absent (R412): the running production does not hold it, and no mark of a former one is
left. -/
def State.outAbsent (s : State) (p : CuePin) (o : CueOut) : Bool :=
  p.cfg.mode == 3 && (s.running.bind (fun q => q.ctx o.context)).isNone
    && (s.prods.take s.old.length).all (fun x => match x.1.ctx o.context with
      | some c => !inRange x (markFrom c.rateNum c.rateDen (max p.nextPulse x.2.1))
      | none => true)

/-- The start of the first pulse that an absence of the context misses (R412): of the mark that would come next at the rate
last known; now, of a context that no production has held. -/
def State.missedStart (s : State) (p : CuePin) (o : CueOut) : Nat :=
  match ((s.prods.take s.old.length).reverse.map (·.1)).findSome? (fun q => q.ctx o.context) with
  | some c => pulseAt o (markFrom c.rateNum c.rateDen p.nextPulse)
  | none => s.now

/-- CUE_OUTPUT_EDGE (R412, R568): the scheduled edge is driven, or the pulse is skipped, or a frame-mode pin whose
context is absent reports it once. -/
def execCueOutputEdge (pin : Fin 16) (level : Bool) (s : State) : Host.Outcome State Fault Refusal :=
  let p := vget s.cues pin
  let drives := s.twin.role != 2
  .next (
    match p.out with
    | none => s
    | some o =>
      if p.cfg.direction ≠ 2 then s
      else if p.cfg.mode = 0 then
        (if drives ∧ level = decide (o.level = 1) then s.setPin pin { p with level := level } else s)
      else if p.isActive p.level ∧ p.isActive level = false then
        (if p.pulseEnd ≤ s.now then s.setPin pin { p with level := level } else s)
      else if p.isActive level = false then s
      else
        if s.outAbsent p o ∧ p.missed = false then
          (s.setPin pin { p with missed := true }).raise (s.ev (804 + pin) 0x0B04 [(8, s.missedStart p o)])
        else
          match s.nextPulse p with
          | none => s
          | some (t, next) =>
            let warm := decide (s.boot.phase = .warmEntry ∨ s.boot.phase = .warmSaved)
            if t < p.accepted + 100000 ∨ warm then
              (s.setPin pin { p with nextPulse := next, skipped := satAdd 32 p.skipped 1 }).raise
                (s.ev (804 + pin) 0x0B04 [(8, t)])
            else if t ≤ s.now then
              s.setPin pin { p with level := if drives then level else p.level, nextPulse := next, pulseEnd := t + o.width
                                    missed := false }
            else s)

/-- CUE_CONFIG (R408, R413). -/
def execCueConfig (h : Hdr) (pin : Nat) (f : CueCfg) (s : State) : Host.Outcome State Fault Refusal :=
  .next (runCmd Cmd.cueConfig h
    (fun s =>
      match finOf 16 pin with
      | none => (s, .refuse 0x0B01 [])
      | some i =>
        if 2 < f.direction ∨ 1 < f.active ∨ 3 < f.mode ∨ 3600000 < f.stuck
            ∨ f.direction = 1 ∧ (f.holdoff = 0 ∨ 10000 < f.holdoff) then (s, .refuse 0x0B01 [])
        else if f.direction ≠ 1 ∧ (f.holdoff ≠ 0 ∨ f.stuck ≠ 0) then (s, .refuse 0x0B03 [])
        else
          let p := vget s.cues i
          (s.setPin i { p with cfg := f, level := decide (f.active = 0), holdEnd := 0, heldEdges := 0, stuckNow := false
                               out := none, missed := false, nextPulse := 0 }, ok [])) s)

/-- The fields of a CUE_OUTPUT lie in the ranges of its pin's mode (R412). -/
def cueOutOk (mode : Nat) (f : CueOut) : Bool :=
  let width := decide (100 ≤ f.width ∧ f.width ≤ 1000000000)
  match mode with
  | 0 => decide (f.level ≤ 1)
  | 1 => width
  | 2 => width && decide (f.width < f.period) && decide (1000 ≤ f.period ∧ f.period ≤ 1000000000000)
  | _ => width && decide (f.context ≤ 511) && decide (|f.offset| ≤ 1000000000)

/-- CUE_OUTPUT (R412, R413): the settings take effect; a pulse in progress completes first. -/
def execCueOutput (h : Hdr) (pin : Nat) (f : CueOut) (s : State) : Host.Outcome State Fault Refusal :=
  .next (runCmd Cmd.cueOutput h
    (fun s =>
      match finOf 16 pin with
      | none => (s, .refuse 0x0B01 [])
      | some i =>
        let p := vget s.cues i
        if p.cfg.direction ≠ 2 then (s, .refuse 0x0B03 [])
        else if cueOutOk p.cfg.mode f = false then (s, .refuse 0x0B01 [])
        else
          (s.setPin i { p with out := some f, accepted := s.now, missed := false
                               nextPulse := if p.cfg.mode = 3 then tickOf ((s.now : Int) - f.offset).toNat else 0 }, ok [])) s)

/-- CUE_STATUS (R411, R413). -/
def execCueStatus (h : Hdr) (first count clear : Nat) (s : State) : Host.Outcome State Fault Refusal :=
  .next (runCmd Cmd.cueStatus h
    (fun s =>
      if count = 0 ∨ 16 < first + count ∨ 1 < clear then (s, .refuse 0x0B01 [])
      else
        let named := fun (i : Fin 16) => decide (first ≤ i.val) && decide (i.val < first + count)
        let bytes := fun (i : Fin 16) =>
          let p := vget s.cues i
          leBytes 1 (boolNat p.level) ++ leBytes 1 (boolNat p.stuck) ++ [0, 0] ++ leBytes 4 p.edges
            ++ leBytes 4 p.suppressed ++ leBytes 4 p.skipped
        ({ s with cues := Vector.ofFn (fun i =>
            if named i ∧ clear = 1 then { vget s.cues i with stuck := false } else vget s.cues i) },
          ok (((List.finRange 16).filter named).flatMap bytes))) s)

end Sys2Proof.Machine
end

