-- ==== Sys2Proof/Machine/Training.lean ====
section
/-! DEFINITION. The family of training (R300 to R310, R332 to R337): blocks, states, the ladder, CAPABILITY, ACTIVE and
DARK. A happening whose state does not hold leaves the state unchanged (notes/assumptions/3). -/

namespace Sys2Proof.Machine

/-- A training block is whole: its marker and its CRC hold (R300). -/
def blockGood (b : BitVec 128) : Bool :=
  b.extractLsb' 0 16 == 0xE41D#16
    && (b.extractLsb' 112 16).toNat == crc16 ((List.range 14).map (fun i => b.extractLsb' (8 * i) 8))

/-- What a good block teaches the link, in states 2 to 6 (R300, R304, R332). A partner's RX_NEXT outside the own replay buffer
clears RESUME in the words still to be sent (R335). -/
def Link.takeBlock (l : Link) (lane : Fin 4) (b : BitVec 128) (tick : Nat) : Link :=
  let x := vget l.rx lane
  let last := b.getLsbD 52
  let cap := b.extractLsb' 64 32
  let first := decide ((lanesOf l.rxLanes).head? = some lane)
  let next := (cap.extractLsb' 16 12).toNat
  let outside := decide ((l.seq + 4096 - l.una) % 4096 < (next + 4096 - l.una) % 4096)
  { l with
    rx := vset l.rx lane { x with blocks := ((b.extractLsb' 32 16).toNat, tick) :: x.blocks.take 7
                                  good := if l.state = 5 then x.good + 1 else x.good }
    rxc := if last then { l.rxc with scram := vset l.rxc.scram lane (laneSeed lane), pos := 0 } else l.rxc
    txPassed := if l.state = 5 then (b.extractLsb' 48 4).toNat else l.txPassed
    partnerOk := l.partnerOk || (l.state == 5 && b.getLsbD 53)
    lastSeen := l.lastSeen || last
    resume := l.resume && !(decide (l.state = 6) && cap.getLsbD 12 && outside)
    capWord := if l.state = 6 ∧ first then cap else l.capWord
    capCount := if l.state = 6 ∧ first then (if cap = l.capWord then min 16 (l.capCount + 1) else 1) else l.capCount }

/-- A block comes in on a lane: its bits pass the receiver's stuffing state (R298), and in training, where the table has no row
for it, one slot of own blocks goes out for each slot that comes in on the lowest lane (R300, notes/assumptions/28). -/
def Link.passBlock (l : Link) (lane : Fin 4) (b : BitVec 128) : Link :=
  let lanes := lanesOf l.rxLanes
  let l1 := { l with rxc := if lanes.contains lane then l.rxc.block lanes lane b else l.rxc }
  if 2 ≤ l.state ∧ l.state ≤ 6 ∧ lanes.head? = some lane then l1.sendBlocks l.state false else l1

/-- A lane errs in VERIFY. An entry that retries more lanes than it needs goes on without it; else the attempt fails (R304,
R305). -/
def State.verifyError (s : State) (i : Fin 12) (lane : Fin 4) : State :=
  let l := vget s.links i
  if (lanesOf l.rxLanes).length ≤ l.entryLanes l.attempt then s.failAttempt i [lane]
  else
    (s.setLink i { l with
      rxLanes := maskOf ((lanesOf l.rxLanes).filter (fun n => decide (n ≠ lane)))
      rx := vmod l.rx lane (fun x => { x with failed := true }) }).raise
      (s.ev (512 + 4 * i + lane) 0x0702 [(1, l.attempt), (1, l.state)])

/-- TRAINING_BLOCK (R295, R298, R300, R304, R305, R306). -/
def execTrainingBlock (link : Fin 12) (lane : Fin 4) (block : BitVec 128) (violation : Bool) (s : State) :
    Host.Outcome State Fault Refusal :=
  let l := vget s.links link
  let attempt := (block.extractLsb' 24 8).toNat
  let code := (block.extractLsb' 16 4).toNat
  .next (
    if l.state = 0 ∨ l.state = 1 ∨ 10 ≤ l.state then s
    else
      let s0 := s.setLink link (l.passBlock lane block)
      let s1 := if violation then
          (s0.setLink link ((l.passBlock lane block).violate [(lane, 1)])).raise
            (s.ev (512 + 4 * link + lane) 0x0703 [(4, 1)])
        else s0
      if violation || !blockGood block then
        (if l.state = 5 ∧ l.ownOk = false ∧ bitOf l.rxLanes lane = true then s1.verifyError link lane else s1)
      else if l.state = 8 ∨ l.state = 9 then
        (if code < 8 then s1.retrain link 3
         else s1.setLink link ((vget s1.links link).takeBlock lane block s.time.fclk))
      else if l.attempt < attempt ∧ attempt < l.ladderLen then s1.followAttempt link attempt
      else s1.setLink link ((vget s1.links link).takeBlock lane block s.time.fclk))

/-- PARTNER_CK_DETECT (R304): the partner's CK has stood for 10 µs, before DETECT's limit. -/
def execPartnerCkDetect (link : Fin 12) (s : State) : Host.Outcome State Fault Refusal :=
  let l := vget s.links link
  .next (
    if l.state = 1 ∧ l.since + 8000 ≤ s.time.fclk ∧ l.inLimit s.time.fclk = true then
      s.setLink link (l.beginAttempt 0 s.time.fclk)
    else s)

/-- CLOCK_LOCK (R291, R304): the lane PLL locks, DESKEW begins, and CK_LOCKED is raised. -/
def execClockLock (link : Fin 12) (s : State) : Host.Outcome State Fault Refusal :=
  let l := vget s.links link
  .next (
    if l.state = 2 ∧ l.inLimit s.time.fclk = true then
      (s.setLink link { l with state := 3, ckLock := true, since := s.time.fclk }).raise
        (s.ev (608 + link) 0x0705 [(1, l.rate)])
    else s)

/-- The lanes of a set that align (R302). -/
def Link.alignedOf (l : Link) (found : List (Fin 4)) : List (Fin 4) :=
  let lanes := (lanesOf l.rxLanes).filter (fun n => found.contains n)
  lanes.filter (fun n => l.aligns lanes n)

/-- DESKEW (R302, R304): the marker was found on the lanes `found`; where enough of them align, ADAPT begins; DRIFT is cleared on
those lanes and the transmitter's presets take effect (R303, R309). -/
def execDeskew (link : Fin 12) (found : List (Fin 4)) (s : State) : Host.Outcome State Fault Refusal :=
  let l := vget s.links link
  let ok := l.alignedOf found
  .next (
    if l.state = 3 ∧ l.inLimit s.time.fclk = true ∧ l.entryLanes l.attempt ≤ ok.length then
      s.setLink link { l with
        state := 4, since := s.time.fclk, rxLanes := maskOf ok
        rx := Vector.ofFn (fun n =>
          let x := vget l.rx n
          if ok.contains n then { x with aligned := true, drift := false } else { x with aligned := false })
        tx := l.tx.map (fun t => { t with preset := t.next }) }
    else s)

/-- ADAPT_END (R303, R304): after 2 ms the trained coefficients stand, in their codes' ranges, and VERIFY begins. -/
def execAdaptEnd (link : Fin 12) (trained : List (Fin 4 × LaneCoeffs)) (s : State) : Host.Outcome State Fault Refusal :=
  let l := vget s.links link
  .next (
    if l.state = 4 ∧ l.since + 1600000 ≤ s.time.fclk then
      s.setLink link { l with
        state := 5, since := s.time.fclk
        rx := trained.foldl (fun v p => vmod v p.1 (fun x =>
          { x with now := codesIn p.2, trained := codesIn p.2, good := 0 })) l.rx }
    else s)

/-- The link after VERIFY (R304, R305, R335): at first it leads to CAPABILITY, in STEP and in a retrain to ACTIVE. Where an entry
retried more lanes than it needs, each direction keeps the lowest-numbered that passed. -/
def Link.afterVerify (l : Link) (tick : Nat) : Link :=
  let need := l.entryLanes l.attempt
  let tx := lanesOf (l.txLanes &&& l.txPassed)
  let keep := maskOf ((lanesOf l.rxLanes).take need)
  let l1 := { l with
    ownOk := true, passed := l.rxLanes, rxLanes := keep, txLanes := if need ≤ tx.length then maskOf (tx.take need) else l.txLanes
    rx := (lanesOf keep).foldl (fun v n => vmod v n (fun x => { x with failed := false })) l.rx }
  if l.retrain ∨ l.stepped then l1
  else { l1 with state := 6, since := tick, resume := !l.firstCap, firstCap := false, capCount := 0, capSent := 0 }

/-- VERIFY_PASS (R304): own 65,536 good blocks on every lane, own VERIFY_OK sent and the partner's received. Whether the offset
sampler finds an error at the chosen point is a free value by lane; VERIFY fails where it does. -/
def execVerifyPass (link : Fin 12) (s : State) : Host.Outcome State Fault Refusal :=
  let l := vget s.links link
  let errs := (lanesOf l.rxLanes).filter (fun n => bitOf (Config.eyeErrors s.free) n.val)
  .next (
    if l.state = 5 ∧ l.ownOk = false ∧ l.okSent = true ∧ l.partnerOk = true ∧ l.inLimit s.time.fclk = true
        ∧ l.verified.length = (lanesOf l.rxLanes).length then
      if errs = [] then s.fresh.setLink link (l.afterVerify s.time.fclk) else s.fresh.failAttempt link errs
    else s)

/-- The rates that both ends, the version and the target allow, as a bit mask (R305, R332, R333, R340). -/
def commonRates (version target rates : Nat) : Nat :=
  let top := min target (if 0x20 ≤ version then 2 else 1)
  1 + 2 * boolNat (decide (1 ≤ top) && bitOf rates 1) + 4 * boolNat (decide (2 ≤ top) && bitOf rates 2)

/-- CAPABILITY (R332, R333, R335): both words have stood for sixteen blocks; the version, the rates and RESUME are settled, and
STEP begins; a version below 1.0 sends the link to DARK. -/
def execCapability (link : Fin 12) (word : BitVec 32) (s : State) : Host.Outcome State Fault Refusal :=
  let l := vget s.links link
  let partner := (word.extractLsb' 0 8).toNat
  let version := min partner 0x20
  .next (
    if l.state = 6 ∧ word = l.capWord ∧ 16 ≤ l.capCount ∧ 16 ≤ l.capSent ∧ l.inLimit s.time.fclk = true then
      if partner < 0x10 then
        (s.setLink link ({ l with version := 0 }.goDark s.time.fclk)).raiseAll
          [s.ev (632 + link) 0x071A [(1, partner)], s.ev (632 + link) 0x0713 [(2, l.wait)]]
      else
        s.setLink link
          ({ l with
              version := version, stepped := true
              rates := commonRates version l.target (word.extractLsb' 8 3).toNat
              degrade := decide (0x11 ≤ version) && word.getLsbD 11
              resuming := l.resume && word.getLsbD 12 && decide (0x20 ≤ version) }.beginAttempt 0 s.time.fclk)
    else s)

/-- The lanes that a state's limit finds at fault (R304, R318). -/
def Link.lateLanes (l : Link) : List (Fin 4) :=
  if l.state = 3 then
    let heard := (lanesOf l.rxLanes).filter (fun n => decide ((vget l.rx n).blocks ≠ []))
    (lanesOf l.rxLanes).filter (fun n => !(heard.contains n && l.aligns heard n))
  else if l.state = 5 then (lanesOf l.rxLanes).filter (fun n => decide ((vget l.rx n).good < 65536))
  else []

/-- TRAINING_LIMIT_EXPIRY (R304, R305, R307). ADAPT ends of itself at its limit, and a VERIFY that has passed leads to
ACTIVE. -/
def execTrainingLimitExpiry (link : Fin 12) (s : State) : Host.Outcome State Fault Refusal :=
  let l := vget s.links link
  .next (
    if 1 ≤ l.state ∧ l.state ≤ 6 ∧ l.state ≠ 4 ∧ l.since + limitTicks l.state l.rate ≤ s.time.fclk
        ∧ ¬ (l.state = 5 ∧ l.ownOk = true) then
      s.failAttempt link l.lateLanes
    else s)

/-- Flits of each channel in the replay buffer, and the messages partly received or sent, as LINK_RESET lists them
(R336, R399). -/
def Link.discards (l : Link) : List (Nat × Int) :=
  (List.finRange 8).map (fun vc =>
      (1, ((min 255 (l.replay.filter (fun f => (f.extractLsb' 24 3).toNat == vc.val)).length : Nat) : Int)))
    ++ (List.finRange 8).map (fun vc => (1, (boolNat (decide (vget l.rxBytes vc ≠ [])) : Int)))

/-- EGRESS_UNCERTAIN for every queue whose released items are not all acknowledged (R336). -/
def State.uncertain (s : State) : List Ev :=
  s.flow.queues.flatMap (fun q =>
    evIf (decide (q.2.released ≠ q.2.acked)) (s.ev 642 0x0717 [(2, q.1), (4, q.2.acked.toNat), (4, q.2.released.toNat)]))

/-- LINK_ACTIVE (R295, R304, R306, R310, R325, R336, R337, R357): sixteen blocks go out, or a held-idle transmitter's data lanes
are idle. -/
def execLinkActive (link : Fin 12) (s : State) : Host.Outcome State Fault Refusal :=
  let l := vget s.links link
  let keep := l.retrain || l.resuming
  let up := { l with
    state := if s.heldIdle link then 9 else 8, since := s.time.fclk, wait := 1, everActive := true
    lastRate := l.rate, lastTx := l.txLanes, lastRx := l.rxLanes, stepped := false, retrain := false, resuming := false
    badRun := 0, nakOut := false, nakDue := false, ackTick := s.time.fclk
    replayAt := if l.replay = [] then none else some 0, replayFrom := l.una, replays4 := 0
    replaysN := if keep ∧ l.replay ≠ [] then satAdd 32 l.replaysN 1 else l.replaysN
    rxc := { l.rxc with pos := 0 }, txc := if s.heldIdle link then l.txc.idle else l.startFlits.txc, txCount := (l.txCount + 16) % 65536 }
  .next (
    if l.state = 5 ∧ (l.retrain ∨ l.stepped) ∧ l.ownOk = true ∧ l.partnerOk = true ∧ l.lastSeen = true then
      (s.setLink link (if keep then up else up.freshStart)).raiseAll
        (s.ev (632 + link) 0x0710 [(1, l.version), (1, l.rate), (1, l.txLanes), (1, l.rxLanes)]
          :: evIf (decide (l.attempt ≠ 0)) (s.ev (632 + link) 0x0712 [(1, l.rate), (1, l.txLanes), (1, l.rxLanes)])
          ++ evIf (!keep) (s.ev (632 + link) 0x0716 l.discards)
          ++ (if keep ∨ link ≠ 10 then [] else s.uncertain))
    else s)

/-- DARK_RETRY (R307): the wait ends, a full training begins, and the next failure waits twice as long. -/
def execDarkRetry (link : Fin 12) (s : State) : Host.Outcome State Fault Refusal :=
  let l := vget s.links link
  .next (
    if l.state = 10 ∧ l.next ≤ s.time.fclk then
      s.setLink link { l.fullTraining s.time.fclk with wait := min 64 (2 * l.wait) }
    else s)

/-- CK_LOST (R306, R318): the receive CK loses lock; an ACTIVE link retrains. -/
def execCkLost (link : Fin 12) (s : State) : Host.Outcome State Fault Refusal :=
  let l := vget s.links link
  .next (
    if l.ckLock = true then
      ((s.setLink link { l with ckLock := false }).raise (s.ev (608 + link) 0x0704 [(1, l.state)])).retrain link 0
    else s)

end Sys2Proof.Machine
end

