-- ==== Sys2Proof/Machine/Twin.lean ====
section
/-! DEFINITION. The commands of the twin (18): the arbiter's pins, BEAT, HEALTH and HELLO, records and repair, takeover
and demotion, and the 0x0Axx commands. -/

namespace Sys2Proof.Machine

/-! ### Arbiter pins -/

/-- ARB_HB_TOGGLE (R487): every 500 µs from READY. -/
def execArbHbToggle (s : State) : Host.Outcome State Fault Refusal :=
  let w := s.twin
  .next (if s.up = false ∨ w.hbDead ∨ s.time.fclk < w.hbAt + 400000 then s
    else { s with twin := { w with hb := !w.hb, hbAt := s.time.fclk } })

/-- HEARTBEAT_SERVICE_TIMEOUT (R487): the toggling stops and the pin is held low. -/
def execHeartbeatServiceTimeout (s : State) : Host.Outcome State Fault Refusal :=
  .next (if s.up = false then s else { s with twin := { s.twin with hb := false, hbDead := true } })

/-- The new lead's queues after an exact takeover (R504): each resumes at the acknowledged position of the lead's last
POSITIONS, with a full bucket. The second part is the items that the old lead had released. -/
def State.resumeQueues (s : State) : State × Nat :=
  (ckeys s.flow.queues).foldl (fun (a : State × Nat) q =>
    let x := (a.1.queue q).freeTo (a.1.queue q).acked
    let again := (x.items.filter (fun i => seqBefore i.seq x.reported.2.1)).length
    let first := decide (x.acked.toNat = (s.qEntry q).startSeq)   -- nothing has been released since start_seq (R286)
    (a.1.setQueue q { x with released := x.acked, restart := x.restart && first, tokens := 65536 * x.burst, backlog := false }
      , a.2 + again)) (s, 0)

/-- The new lead's queues after any other takeover (R508): video queues discard their items and resume at the lead's
last next_seq; every queue's next item follows a marker of unknown count. -/
def State.restartQueues (s : State) : State × Nat :=
  (ckeys s.flow.queues).foldl (fun (a : State × Nat) q =>
    let x := a.1.queue q
    let gap : Gap := ⟨0xFFFFFFFF, 0, (a.1.queueStrm q).rtpSeq, 3, 8, a.1.now, none, 0⟩
    let from_ := if q < 512 then x.reported.1 else x.acked
    let first := decide (from_.toNat = (s.qEntry q).startSeq)
    let y := { x with gap := some gap, refused := satAdd 32 x.refused 1, restart := x.restart && first
                      tokens := 65536 * x.burst, backlog := false }
    if q < 512 then
      (a.1.setQueue q { y.mapParts (fun _ => []) with next := x.reported.1, released := x.reported.1, acked := x.reported.1
                                                      confirmed := x.reported.1 }, a.2)
    else
      let z := y.freeTo x.acked
      (a.1.setQueue q { z with released := x.acked }, a.2 + z.items.length)) (s, 0)

/-- The CTUs of every unrepaired set lose their validity bits (R120, R504). -/
def State.dropUnrepaired (s : State) : State :=
  let keys := (s.twin.unrepaired.filter (·.2)).map (·.1)
  let s1 := keys.foldl (fun (t : State) k =>
    let b := k / 8192 % 4
    match t.running.bind (fun p => p.ctx (k / 32768)) with
    | some c => t.modRecord c (k / 2048 % 4) (fun r => r.mark b (k % 2048) false)
    | none => t) s
  let cs := (keys.map (fun k => k / 32768)).dedup
  State.raiseAll { s1 with twin := { s1.twin with unrepaired := [] } }
    (cs.map (fun c => s1.ev c 0x0203 [(4, (s1.ctxSt c).frame), (1, 2)]))

/-- Every context clears its references and begins a sweep at its next frame (R508). -/
def State.sweepAll (s : State) : State :=
  match s.running with
  | none => s
  | some p => p.contexts.foldl (fun (t : State) c => t.setCtx c.context { t.ctxSt c.context with forcedSweep := some 3 }) s

/-- A device takes the lead from a partner (R503, R504, R508). -/
def State.lead (s : State) : State :=
  let w := s.twin
  let epoch := (if w.epoch.toNat < w.maxEpoch.toNat then w.maxEpoch else w.epoch) + 1
  let exactly_ := s.exact && decide (w.readiness ≤ 1)
  let s1 := { s with twin := { w with epoch := epoch, role := 1, gateOff := true, req := false, tookOver := true } }
  let r := if exactly_ then s1.resumeQueues else s1.restartQueues
  let s2 := if exactly_ then r.1.dropUnrepaired else r.1.sweepAll
  let s3 := { s2.holdLinks with twin := { s2.twin with itemAsk := [], rowAsk := [] }, free := s2.free + 1 }
  s3.review.raise (s.ev 774 0x0A20 [(2, epoch.toNat), (2, (ckeys s.flow.queues).length), (4, r.2),
    (4, Config.takeoverNs s.free % 250001)])

/-- The accepted level of ARB_CAST (R487): reported, but ignored with twin_mode 0 and before READY. -/
def State.castTo (s : State) (level : Bool) : State :=
  State.raiseAll { s with twin := { s.twin with cast := level } }
    (evIf (s.up && decide (s.twinMode ≠ 0)) (s.ev 775 0x0A30 [(1, boolNat level)]))

/-- TAKEOVER (R487, R503, R504, R508, R512): ARB_CAST has risen. Where the device is no understudy the level alone is
kept. -/
def execTakeover (s : State) : Host.Outcome State Fault Refusal :=
  .next (
    if s.twin.cast then s
    else
      let s1 := s.castTo true
      if s.up = false ∨ s.twinMode = 0 ∨ s.twin.role ≠ 2 then s1 else s1.lead)

/-- DEMOTION (R487, R505, R512): ARB_CAST has fallen. -/
def execDemotion (s : State) : Host.Outcome State Fault Refusal :=
  .next (
    if s.twin.cast = false then s
    else
      let s1 := s.castTo false
      if s.up = false ∨ s.twinMode = 0 ∨ s.twin.role ≠ 1 then s1
      else
        (State.holdLinks { s1 with
          cues := s1.cues.map CuePin.undriven
          twin := { s1.twin with role := 2, fenced := false, gateOff := false, demoted := true, tookOver := false } }).review)

/-! ### The twin heartbeat -/

/-- L11 stands in the twin role. -/
def State.twinned (s : State) : Bool := s.up && (vget s.links 11).role == 5

/-- BEAT_SEND (R489): every 10 µs. The readiness is reviewed. -/
def execBeatSend (s : State) : Host.Outcome State Fault Refusal :=
  .next (
    if s.twinned = false ∨ s.time.fclk < s.twin.lastBeat + 8000 then s
    else
      let s1 := s.review
      let w := s1.twin
      let m : BeatMsg :=
        { role := w.role, readiness := w.readiness, mode := w.mode, epoch := w.epoch
          production := (s1.running.map (·.id)).getD 0, tSend := s1.now, tEcho := (w.beat.map (·.tSend)).getD 0
          tEchoRecv := w.echoAt }
      { s1 with twin := { w with lastBeat := s.time.fclk } }.send 11 1 0x18 (beatBytes m))

/-- The heartbeat returns (R497, R507, R512): the lead reports what it released unconfirmed; an exact understudy asks for
the rows it has not confirmed and the CTUs it has not repaired. -/
def State.heartbeatBack (s : State) : State :=
  let w := s.twin
  let ms := (s.time.fclk - w.beatAt) / 800000
  let s1 := State.raiseAll { s with twin := { w with lost := false, unconfCount := 0 } }
    (s.ev 776 0x0A41 [(4, ms)] :: evIf (decide (0 < w.unconfCount)) (s.ev 774 0x0A23 [(4, w.unconfCount)]))
  if w.role ≠ 2 ∨ s.exact = false then s1
  else
    let rows := s1.ctxs.flatMap (fun y =>
      let x := s1.queue y.1
      (y.2.rows.filter (fun r => r.2.closed && !seqBefore r.2.first x.confirmed
        && seqBefore x.acked (r.2.first + BitVec.ofNat 32 r.2.count))).map (fun r =>
        (⟨y.1, r.2.first, r.2.count, r.1, []⟩ : ItemAsk)))
    let s2 := rows.foldl (fun (t : State) a => t.send 11 7 0x70 (itemAskBytes a.queue a.first a.count))
      { s1 with twin := { s1.twin with itemAsk := rows } }
    s2.twin.rowAsk.foldl (fun (t : State) a => t.send 11 7 0x72 (rowAskBytes a.1 (a.2.1 % 2 ^ 32) a.2.2)) s2

/-- BEAT (R326, R490, R497, R503, R505, R512). -/
def execBeat (m : BeatMsg) (s : State) : Host.Outcome State Fault Refusal :=
  .next (
    if s.hasMsg 11 1 0x18 (beatBytes m) beatReserved = false then s
    else
      let s0 := s.popInbox 11 1
      let s1 := if s0.twin.lost then s0.heartbeatBack else s0
      let w := s1.twin
      -- the delivery (R326): house time in ns, and the FCLK cycle
      let came := (s.headMsg 11 1).at_ * 5 / 4
      let cameAt := s.time.fclk - (s.time.tick - (s.headMsg 11 1).at_)
      let offset : Int := (((came : Int) - m.tSend) - ((m.tEchoRecv : Int) - m.tEcho)) / 2
      let leads := decide (m.role = 1)
      let told := w.demoted && leads
      let w1 := { w with
        beat := some m, beatAt := cameAt, echoAt := came, lost := false, tookOver := false
        offsets := (offset :: w.offsets).take 1024
        maxEpoch := if w.maxEpoch.toNat < m.epoch.toNat then m.epoch else w.maxEpoch
        epoch := if w.role = 2 ∧ leads then m.epoch else w.epoch
        gateOff := w.gateOff && !(m.role == 2 && m.mode == 1)
        demoted := w.demoted && !leads }
      (State.raiseAll { s1 with twin := w1 } (evIf told (s.ev 774 0x0A21 [(2, m.epoch.toNat)]))).review)

/-- TWIN_HEARTBEAT_LOST (R487, R490, R497, R512): no BEAT for 100 µs. -/
def execTwinHeartbeatLost (s : State) : Host.Outcome State Fault Refusal :=
  .next (
    let w := s.twin
    if s.twinned = false ∨ w.lost ∨ s.time.fclk < w.beatAt + 80000 then s
    else
      (State.raise { s with twin := { w with lost := true, unconfCount := 0 } }
        (s.ev 776 0x0A40 [(8, (w.beat.map (·.tSend)).getD 0)])).review)

/-- ORPHAN_TIMEOUT (R502): 5 ms without a heartbeat and without a cast. -/
def execOrphanTimeout (s : State) : Host.Outcome State Fault Refusal :=
  .next (if s.up ∧ s.lostLong ∧ s.twin.cast = false then s.review else s)

/-- Rows in the unrepaired sets (R500). -/
def State.unrepairedRows (s : State) : Nat :=
  ((s.twin.unrepaired.filter (·.2)).map (fun y =>
    let w := match s.running.bind (fun p => p.ctx (y.1 / 32768)) with
      | some c => c.tileW (y.1 / 2048 % 4)
      | none => 1
    (y.1 / 8192, y.1 % 2048 / max 1 w))).dedup.length

/-- The installed curtain image's SHA-256; zeros without one. -/
def State.curtainSha (s : State) : List Byte := if s.curtain.valid then s.curtain.sha else List.replicate 32 0

/-- HEALTH_SEND (R489, R502, R512): every second. -/
def execHealthSend (s : State) : Host.Outcome State Fault Refusal :=
  .next (
    let w := s.twin
    if s.twinned = false ∨ s.time.fclk < w.lastHealth + 800000000 then s
    else
      let l := w.offsets.mergeSort (fun a b => decide (a ≤ b))
      let m : HealthMsg :=
        { role := w.role, readiness := w.readiness, unconf := s.unconfirmedOut, unrepaired := s.unrepairedRows
          compared := w.compared, divergent := w.divergent, repaired := w.repaired, offsetNs := l.getD (l.length / 2) 0
          curtain := s.curtainSha, generation := s.curtain.gen }
      ({ s with twin := { w with lastHealth := s.time.fclk } }.send 11 1 0x19 (healthBytes m)).raise
        (s.ev 772 0x0A04 [(1, w.readiness), (1, w.role), (4, m.unrepaired), (4, w.divergent)]))

/-- HEALTH (R223, R502, R512): a partner's curtain that differs is reported. -/
def execHealth (m : HealthMsg) (s : State) : Host.Outcome State Fault Refusal :=
  .next (
    if s.hasMsg 11 1 0x19 (healthBytes m) healthReserved = false then s
    else
      let s1 := s.popInbox 11 1
      s1.raiseAll (evIf (decide (slice m.curtain 0 32 ≠ slice s.curtainSha 0 32))
        (s.ev 772 0x0A05 [(4, s.curtain.gen), (4, m.generation)])))

/-- TWIN_HELLO_SEND (R489): at each LINK_UP of L11, then every 100 ms. -/
def execTwinHelloSend (s : State) : Host.Outcome State Fault Refusal :=
  .next (
    let w := s.twin
    if s.twinned = false ∨ s.time.fclk < w.lastHello + 80000000 ∧ (vget s.links 11).since ≤ w.lastHello then s
    else { s with twin := { w with lastHello := s.time.fclk } }.send 11 1 0x1A (helloBytes s.ownHello))

/-- TWIN_HELLO (R491, R512): an unexpected fingerprint ends the pairing. -/
def execTwinHello (m : HelloMsg) (s : State) : Host.Outcome State Fault Refusal :=
  .next (
    if s.hasMsg 11 1 0x1A (helloBytes m) helloReserved = false then s
    else
      let s1 := s.popInbox 11 1
      let w := s1.twin
      match w.expected with
      | some (f, serial) =>
        if slice f 0 32 = slice m.fingerprint 0 32 then (State.review { s1 with twin := { w with peer := some m } })
        else
          (State.raise { s1 with twin := { w with peer := some m, expected := none } }
            (s.ev 772 0x0A02 [(8, serial), (8, m.serial)])).review
      | none => State.review { s1 with twin := { w with peer := some m } })

/-! ### Positions and items -/

/-- POSITIONS_SEND (R494, R508): every 20 µs, the lead names the queues whose positions changed. -/
def execPositionsSend (s : State) : Host.Outcome State Fault Refusal :=
  .next (
    let w := s.twin
    if s.twinned = false ∨ w.role ≠ 1 ∨ s.time.fclk < w.lastPos + 16000 then s
    else
      let moved := s.flow.queues.filter (fun y => (y.2.next, y.2.released, y.2.acked) != y.2.reported)
      let es := moved.map (fun y => (⟨y.1, y.2.next, y.2.released, y.2.acked⟩ : PosEntry))
      let s1 := moved.foldl (fun (t : State) y =>
        t.setQueue y.1 { y.2 with reported := (y.2.next, y.2.released, y.2.acked) }) s
      { s1 with twin := { w with lastPos := s.time.fclk } }.send 11 6 0x62 (posBytes es))

/-- The understudy frees by acknowledgement (R498): exact mode and not ORPHAN. -/
def State.freesByAck (s : State) : Bool := s.exact && s.twin.readiness != 2

/-- One queue's positions from the lead (R498). -/
def State.takePos (s : State) (e : PosEntry) : State :=
  let x := s.queue e.queue
  let acked := if seqBefore x.acked e.acked then e.acked else x.acked
  let y := { x with reported := (e.nextSeq, e.released, e.acked), acked := acked }
  (s.setQueue e.queue (if s.freesByAck then y.freeTo acked else y)).endDrain e.queue

/-- POSITIONS (R267, R498). -/
def execPositions (entries : List PosEntry) (s : State) : Host.Outcome State Fault Refusal :=
  .next (
    if s.hasMsg 11 6 0x62 (posBytes entries) (posReserved entries) = false then s
    else
      let s1 := s.popInbox 11 6
      if s1.twin.role ≠ 2 then s1 else (entries.foldl State.takePos s1).review)

/-- ACK_HOLD_EXPIRY (R267, R498): an ORPHAN or warm understudy frees an item at its stamp plus ack_hold. -/
def execAckHoldExpiry (queue : Nat) (s : State) : Host.Outcome State Fault Refusal :=
  .next (
    if s.twin.role ≠ 2 ∨ s.freesByAck then s
    else
      let hold := (s.qEntry queue).ackHold
      (s.setQueue queue ((s.queue queue).mapParts (fun l => l.filter (fun i => decide (s.now < i.release + hold))))).endDrain queue)

/-- FRAME_RECORD (R493, R498, R501): it waits for the context's first decision point; its acked_seq moves the queue. -/
def execFrameRecord (r : FrameRec) (s : State) : Host.Outcome State Fault Refusal :=
  .next (
    if s.hasMsg 11 6 0x60 (recBytes r) recReserved = false then s
    else
      let s1 := s.popInbox 11 6
      if s1.twin.role ≠ 2 ∨ s1.exact = false then s1
      else
        let x := s1.queue r.context
        let acked := if seqBefore x.acked r.acked then r.acked else x.acked
        let y := { x with acked := acked }
        let s2 := (s1.setQueue r.context (if s1.freesByAck then y.freeTo acked else y)).endDrain r.context
        let rest := s2.twin.adoptions.filter (fun a => a.record.context != r.context)
        State.review { s2 with twin := { s2.twin with adoptions := rest ++ [{ record := r }] } })

/-- ROW_RECORD (R495, R499): compared with the understudy's own row once that row is closed. -/
def execRowRecord (r : RowRec) (s : State) : Host.Outcome State Fault Refusal :=
  .next (
    if s.hasMsg 11 6 0x61 (rowRecBytes r) rowRecReserved = false then s
    else
      let s1 := s.popInbox 11 6
      if s1.twin.role ≠ 2 ∨ s1.exact = false then s1
      else
        let own := (s1.ctxSt r.queue).rows.find? (fun y => y.2.closed && y.1 % 128 == r.row && y.1 / 128 % 2 ^ 32 == r.frameCount)
        let c := own.bind (fun o => s1.prods.findSome? (fun y => (y.1.ctx r.queue).filter (fun c => inRange y (c.markTick (o.1 / 128)))))
        match own, c.orElse (fun _ => s1.prods.findSome? (fun y => y.1.ctx r.queue)) with
        | some y, some c => (s1.compareRow c (y.1 / 128) r).review
        | _, _ => { s1 with twin := { s1.twin with rowRecs := s1.twin.rowRecs ++ [r] } })

/-- CONFIRM (R494): the lead's confirmed position moves up, never beyond what it has committed. -/
def execConfirm (queue : Nat) (seq : U32) (s : State) : Host.Outcome State Fault Refusal :=
  .next (
    if s.hasMsg 11 6 0x63 (confirmBytes queue seq) (reserved [(2, 2)]) = false then s
    else
      let s1 := s.popInbox 11 6
      let x := s1.queue queue
      if s1.twin.role ≠ 1 ∨ seqBefore x.confirmed seq = false ∨ seqBefore x.next seq then s1
      else s1.setQueue queue { x with confirmed := seq })

/-- ITEM_REQUEST (R495, R508): the lead answers with the items it still holds; a warm lead answers none. -/
def execItemRequest (queue : Nat) (first : U32) (count : Nat) (s : State) : Host.Outcome State Fault Refusal :=
  .next (
    if s.hasMsg 11 7 0x70 (itemAskBytes queue first count) (reserved [(2, 2)]) = false then s
    else
      let s1 := s.popInbox 11 7
      if s1.twin.role ≠ 1 ∨ s1.exact = false then s1
      else
        ((s1.queue queue).items.filter (fun i => decide (U32.dist i.seq first < count))).foldl
          (fun (t : State) i => t.send 11 7 0x71 (itemBytes_ queue i (nextRtp i))) s1)

/-- An unsolicited ITEM of an auxiliary queue (R496): the understudy commits the copy, and confirms it in exact mode. -/
def State.copyItem (s : State) (queue : Nat) (it : Item) (rtpSeq : Nat) : State :=
  let x := s.queue queue
  let y := { x with tail := x.tail ++ [it], next := it.seq + 1 }
  let s1 := (s.setQueue queue { y with fillMax := max y.fillMax y.fill }).setStrm x.sid { s.queueStrm queue with rtpSeq := rtpSeq }
  (if s.exact then s1.confirmTo queue (it.seq + 1) else s1).review

/-- ITEM (R495, R496). -/
def execItem (queue : Nat) (it : Item) (rtpSeq : Nat) (s : State) : Host.Outcome State Fault Refusal :=
  .next (
    if s.hasMsg 11 7 0x71 (itemBytes_ queue it rtpSeq) itemReserved = false then s
    else
      let s1 := s.popInbox 11 7
      if s1.twin.role ≠ 2 then s1
      else if 512 ≤ queue then s1.copyItem queue it rtpSeq
      else
        match s1.twin.itemAsk.find? (fun a => a.queue == queue && decide (U32.dist it.seq a.first < a.count)) with
        | none => s1
        | some a =>
          let b := { a with got := a.got.filter (fun i => i.seq != it.seq) ++ [it] }
          let s2 := { s1 with twin := { s1.twin with itemAsk := s1.twin.itemAsk.map (fun y => if y = a then b else y) } }
          if b.got.length < b.count then s2 else (s2.repairItems b rtpSeq).review)

/-! ### Repair of references -/

/-- The buffer that holds a context's frame, by the frame count that its CTUs carry (R499). -/
def State.heldBuffer (s : State) (c : Ctx) (frameCount row : Nat) : Option Nat :=
  (List.range 4).find? (fun b =>
    let k := cget CtuCrf.none_ s.ddr.refs (refKey c.context b 0 (row * c.tileW 0))
    k.frame % 2 ^ 32 == frameCount && !k.units.isEmpty)

/-- A picture column's tile and CTU number. -/
def Ctx.ctuAt (c : Ctx) (row col : Nat) : Nat × Nat :=
  let t := c.tileAt col
  (t, row * c.tileW t + (col - c.tileX t))

/-- ROW_REQUEST (R499, R508): the lead answers with each CTU of the row, or with an empty ROW_DATA where the picture is no
longer held or a read is poisoned. -/
def execRowRequest (context : Nat) (frameCount : Nat) (row : Nat) (poisoned : Bool) (s : State) :
    Host.Outcome State Fault Refusal :=
  .next (
    if s.hasMsg 11 7 0x72 (rowAskBytes context frameCount row) (reserved [(2, 2), (10, 2)]) = false then s
    else
      let s1 := s.popInbox 11 7
      if s1.twin.role ≠ 1 ∨ s1.exact = false then s1
      else
        let empty := fun (t : State) => t.send 11 7 0x73 (rowDataBytes ⟨context, frameCount, row, 0, true, none⟩)
        match s1.running.bind (fun p => p.ctx context) with
        | none => empty s1
        | some c =>
          match s1.heldBuffer c frameCount row with
          | none => empty s1
          | some b =>
            if poisoned then (empty s1).raise (s.ev 773 0x0A12 [(2, context), (4, frameCount), (2, row), (1, 1)])
            else
              (List.range c.cols).foldl (fun (t : State) col =>
                let u := c.ctuAt row col
                let k := cget CtuCrf.none_ t.ddr.refs (refKey context b u.1 u.2)
                let ok := ((t.recordOf c u.1).map (fun r => r.ok b u.2)).getD false
                t.send 11 7 0x73 (rowDataBytes ⟨context, frameCount, row, col, col + 1 == c.cols, some (k, ok)⟩)) s1)

/-- A row's repair is over: its request is no longer outstanding. -/
def State.endRowAsk (s : State) (context frameCount row : Nat) : State :=
  { s with twin := { s.twin with
      rowAsk := s.twin.rowAsk.filter (fun a => !(a.1 == context && a.2.1 % 2 ^ 32 == frameCount && a.2.2 == row)) } }

/-- One CTU of a repair lands in its buffer through port P18, with the lead's validity bit (R424, R499). -/
def State.landCtu (s : State) (p : Production) (c : Ctx) (b : Nat) (m : RowDataMsg) (k : CtuCrf) (valid : Bool) : State :=
  let u := c.ctuAt m.row m.ctu
  let key := refKey m.context b u.1 u.2
  let d := s.ddr.writeRole 18 (p.partBase c b u.1 + ctuReservation c.chroma * u.2) (crfBytes k) s.time.fclk
  let held := (cget CtuCrf.none_ d.refs key).frame
  { s with ddr := { d with refs := cset CtuCrf.none_ d.refs key { k with frame := held } } }.modRecord c u.1
    (fun r => r.mark b u.2 valid)

/-- A row's repair is whole (R500, R512): the row leaves the unrepaired set, and REPAIRED counts it. -/
def State.rowLanded (s : State) (c : Ctx) (b : Nat) (m : RowDataMsg) : State :=
  let un := (rowKeys c b m.row).foldl (fun y k => cset false y k false) s.twin.unrepaired
  let s1 := { s with twin := { s.twin with unrepaired := un, repaired := satAdd 32 s.twin.repaired 1 } }
  ((s1.endRowAsk m.context m.frameCount m.row).raise (s.ev 773 0x0A11 [(2, m.context), (4, m.frameCount), (2, 1)])).review

/-- A row's repair fails for a picture that is no longer held (R499, R512). -/
def State.rowFailed (s : State) (m : RowDataMsg) : State :=
  ((s.endRowAsk m.context m.frameCount m.row).raise
    (s.ev 773 0x0A12 [(2, m.context), (4, m.frameCount), (2, m.row), (1, 0)])).review

/-- ROW_DATA (R424, R499, R500, R512): one CTU lands through port P18, with the lead's validity bit; the message waits
while the port's queue is full. -/
def execRowData (m : RowDataMsg) (s : State) : Host.Outcome State Fault Refusal :=
  .next (
    if s.hasMsg 11 7 0x73 (rowDataBytes m) rowDataReserved = false then s
    else
      let s1 := s.popInbox 11 7
      if s1.twin.role ≠ 2 then s1
      else
        match m.body, s1.running.bind (fun p => (p.ctx m.context).map (fun c => (p, c))) with
        | none, _ => s1.rowFailed m
        | some _, none => s1
        | some (k, valid), some (p, c) =>
          match s1.heldBuffer c m.frameCount m.row with
          | none => s1.rowFailed m
          | some b =>
            if s1.ddr.hasRoom 18 (crfBytes k) = false then s
            else
              let s2 := s1.landCtu p c b m k valid
              if m.last then s2.rowLanded c b m else s2)

/-- BLOCK_REQUEST (R501, R508): the lead answers with the block's contents. -/
def execBlockRequest (context : Nat) (block : Nat) (s : State) : Host.Outcome State Fault Refusal :=
  .next (
    if s.hasMsg 11 7 0x74 (blockAsk context block) = false then s
    else
      let s1 := s.popInbox 11 7
      if s1.twin.role ≠ 1 ∨ s1.exact = false then s1
      else
        match (s1.running.bind (fun p => p.ctx context)).bind (fun c => s1.recordOf c 0) with
        | none => s1
        | some r => s1.send 11 7 0x75 (blockBytes context block (r.block block)))

/-- BLOCK_DATA (R501): the block of the understudy's record is replaced. -/
def execBlockData (context : Nat) (block : Nat) (content : List Int) (s : State) : Host.Outcome State Fault Refusal :=
  .next (
    if s.hasMsg 11 7 0x75 (blockBytes context block content) = false then s
    else
      let s1 := s.popInbox 11 7
      if s1.twin.role ≠ 2 then s1
      else
        match s1.running.bind (fun p => p.ctx context) with
        | none => s1
        | some c => s1.modRecord c 0 (fun r => r.setBlock block content))

/-! ### Host commands -/

/-- TWIN_STATUS (R511): its counters are cleared on read. -/
def execTwinStatus (h : Hdr) (s : State) : Host.Outcome State Fault Refusal :=
  .next (runCmd Cmd.twinStatus h (fun s =>
    let w := s.twin
    ({ s with twin := { w with compared := 0, divergent := 0, repaired := 0 } },
      ok (leBytes 1 w.role ++ leBytes 1 w.readiness ++ leBytes 1 w.mode ++ [0] ++ leBytes 2 w.epoch.toNat ++ [0, 0]
        ++ slice ((w.peer.map (·.fingerprint)).getD []) 0 32 ++ leBytes 4 w.compared ++ leBytes 4 w.divergent
        ++ leBytes 4 w.repaired ++ leBytes 4 0))) s)

/-- TWIN_PAIR (R334, R491, R511, R512). -/
def execTwinPair (h : Hdr) (fingerprint : List Byte) (s : State) : Host.Outcome State Fault Refusal :=
  .next (runCmd Cmd.twinPair h (fun s =>
    if s.twinMode = 0 then (s, .refuse 0x0A01 [])
    else
      match s.twin.peer with
      | none => (s, .refuse 0x0A02 [])
      | some p =>
        if slice p.fingerprint 0 32 ≠ slice fingerprint 0 32 then (s, .refuse 0x0A02 [])
        else if s.twinLink = false then (s, .refuse 0x0A03 [])
        else
          let s1 := State.review { s with twin := { s.twin with expected := some (slice fingerprint 0 32, p.serial) } }
          (s1.raise (s1.ev 772 0x0A01 [(1, s1.twin.mode), (8, p.serial)]), ok [])) s)

/-- TWIN_UNPAIR (R491, R511). -/
def execTwinUnpair (h : Hdr) (s : State) : Host.Outcome State Fault Refusal :=
  .next (runCmd Cmd.twinUnpair h (fun s =>
    if s.twin.expected.isNone then (s, .refuse 0x0A01 [])
    else (State.review { s with twin := { s.twin with expected := none } }, ok [])) s)

end Sys2Proof.Machine
end

