-- ==== Sys2Proof/Machine/Dispatch.lean ====
section
/-! DEFINITION. The dispatch: one arm per command of the block. -/

namespace Sys2Proof.Machine

open Sys2Proof

def exec (i : Instr) (s : State) : Host.Outcome State Fault Refusal :=
  match i with
  | .powerOnReset => Sys2Proof.Machine.execPowerOnReset s
  | .coldReset cause => Sys2Proof.Machine.execColdReset cause s
  | .warmResetEntry => Sys2Proof.Machine.execWarmResetEntry s
  | .watchdogExpiry => Sys2Proof.Machine.execWatchdogExpiry s
  | .lockstepMismatch => Sys2Proof.Machine.execLockstepMismatch s
  | .warmEntrySave => Sys2Proof.Machine.execWarmEntrySave s
  | .resetRelease b => Sys2Proof.Machine.execResetRelease b s
  | .warmBoot b => Sys2Proof.Machine.execWarmBoot b s
  | .firmwareInitTimeout => Sys2Proof.Machine.execFirmwareInitTimeout s
  | .bootLoad value b => Sys2Proof.Machine.execBootLoad value b s
  | .frameMark source => Sys2Proof.Machine.execFrameMark source s
  | .line link m => Sys2Proof.Machine.execLine link m s
  | .windowClose context tile row => Sys2Proof.Machine.execWindowClose context tile row s
  | .slotStart e slot => Sys2Proof.Machine.execSlotStart e slot s
  | .sqCall e addr desc => Sys2Proof.Machine.execSqCall e addr desc s
  | .sqRet e addr => Sys2Proof.Machine.execSqRet e addr s
  | .sqLoop e addr desc => Sys2Proof.Machine.execSqLoop e addr desc s
  | .sqEndloop e addr => Sys2Proof.Machine.execSqEndloop e addr s
  | .sqMark e addr desc => Sys2Proof.Machine.execSqMark e addr desc s
  | .markTargetReached e => Sys2Proof.Machine.execMarkTargetReached e s
  | .sqChg e addr desc => Sys2Proof.Machine.execSqChg e addr desc s
  | .sqLate e addr desc => Sys2Proof.Machine.execSqLate e addr desc s
  | .sqEnd e addr => Sys2Proof.Machine.execSqEnd e addr s
  | .inRdq e desc => Sys2Proof.Machine.execInRdq e desc s
  | .inFsq e desc => Sys2Proof.Machine.execInFsq e desc s
  | .inFlr e desc => Sys2Proof.Machine.execInFlr e desc s
  | .svLvl e desc => Sys2Proof.Machine.execSvLvl e desc s
  | .svExp e desc => Sys2Proof.Machine.execSvExp e desc s
  | .mcCrs e desc => Sys2Proof.Machine.execMcCrs e desc s
  | .mfQrf e desc => Sys2Proof.Machine.execMfQrf e desc s
  | .ipEst e desc => Sys2Proof.Machine.execIpEst e desc s
  | .mdSel e desc => Sys2Proof.Machine.execMdSel e desc s
  | .mdFlr e desc => Sys2Proof.Machine.execMdFlr e desc s
  | .tqFwd e desc => Sys2Proof.Machine.execTqFwd e desc s
  | .tqFlr e desc => Sys2Proof.Machine.execTqFlr e desc s
  | .iqRec e desc => Sys2Proof.Machine.execIqRec e desc s
  | .iqFlr e desc => Sys2Proof.Machine.execIqFlr e desc s
  | .lfDbk e desc => Sys2Proof.Machine.execLfDbk e desc s
  | .lfSao e desc => Sys2Proof.Machine.execLfSao e desc s
  | .alAlf e desc => Sys2Proof.Machine.execAlAlf e desc s
  | .alDer e desc => Sys2Proof.Machine.execAlDer e desc s
  | .derComplete e => Sys2Proof.Machine.execDerComplete e s
  | .bnBin e desc => Sys2Proof.Machine.execBnBin e desc s
  | .bnSlh e desc => Sys2Proof.Machine.execBnSlh e desc s
  | .bnFlr e desc => Sys2Proof.Machine.execBnFlr e desc s
  | .bnEos e desc => Sys2Proof.Machine.execBnEos e desc s
  | .rwCrf e desc => Sys2Proof.Machine.execRwCrf e desc s
  | .drRd e desc => Sys2Proof.Machine.execDrRd e desc s
  | .dwWr e desc => Sys2Proof.Machine.execDwWr e desc s
  | .substitution e => Sys2Proof.Machine.execSubstitution e s
  | .cueEccFault e memory address error => Sys2Proof.Machine.execCueEccFault e memory address error s
  | .segmentOpen e => Sys2Proof.Machine.execSegmentOpen e s
  | .segmentClose e => Sys2Proof.Machine.execSegmentClose e s
  | .taskDispatch => Sys2Proof.Machine.execTaskDispatch s
  | .affinityWaitExpiry stream => Sys2Proof.Machine.execAffinityWaitExpiry stream s
  | .eventTask => Sys2Proof.Machine.execEventTask s
  | .packetCommit l => Sys2Proof.Machine.execPacketCommit l s
  | .gapMarkerCommit queue => Sys2Proof.Machine.execGapMarkerCommit queue s
  | .ladleFault l outOfPosition => Sys2Proof.Machine.execLadleFault l outOfPosition s
  | .stockpotMove queue => Sys2Proof.Machine.execStockpotMove queue s
  | .stockpotRefillLand queue poisoned => Sys2Proof.Machine.execStockpotRefillLand queue poisoned s
  | .egressSelect => Sys2Proof.Machine.execEgressSelect s
  | .shaperRefill => Sys2Proof.Machine.execShaperRefill s
  | .gateEntryChange => Sys2Proof.Machine.execGateEntryChange s
  | .egressAck link queue epoch next => Sys2Proof.Machine.execEgressAck link queue epoch next s
  | .flitReceive link flit violations adapt => Sys2Proof.Machine.execFlitReceive link flit violations adapt s
  | .flitSend link => Sys2Proof.Machine.execFlitSend link s
  | .replayTimeout link => Sys2Proof.Machine.execReplayTimeout link s
  | .creditStarved link vc => Sys2Proof.Machine.execCreditStarved link vc s
  | .ckLost link => Sys2Proof.Machine.execCkLost link s
  | .trainingBlock link lane block violation => Sys2Proof.Machine.execTrainingBlock link lane block violation s
  | .partnerCkDetect link => Sys2Proof.Machine.execPartnerCkDetect link s
  | .clockLock link => Sys2Proof.Machine.execClockLock link s
  | .deskew link aligned => Sys2Proof.Machine.execDeskew link aligned s
  | .adaptEnd link trained => Sys2Proof.Machine.execAdaptEnd link trained s
  | .verifyPass link => Sys2Proof.Machine.execVerifyPass link s
  | .capability link word => Sys2Proof.Machine.execCapability link word s
  | .trainingLimitExpiry link => Sys2Proof.Machine.execTrainingLimitExpiry link s
  | .linkActive link => Sys2Proof.Machine.execLinkActive link s
  | .darkRetry link => Sys2Proof.Machine.execDarkRetry link s
  | .eyeDone link counts => Sys2Proof.Machine.execEyeDone link counts s
  | .patternLock link lane => Sys2Proof.Machine.execPatternLock link lane s
  | .patternLockLost link lane errors bits => Sys2Proof.Machine.execPatternLockLost link lane errors bits s
  | .regRead link tag address count => Sys2Proof.Machine.execRegRead link tag address count s
  | .regWrite link tag address count words => Sys2Proof.Machine.execRegWrite link tag address count words s
  | .timeOfDay link second valid => Sys2Proof.Machine.execTimeOfDay link second valid s
  | .eventNotify => Sys2Proof.Machine.execEventNotify s
  | .audio link m => Sys2Proof.Machine.execAudio link m s
  | .ancillary link channel stamp payload => Sys2Proof.Machine.execAncillary link channel stamp payload s
  | .graphicWrite link pair offset data => Sys2Proof.Machine.execGraphicWrite link pair offset data s
  | .graphicCommitPacket link pair => Sys2Proof.Machine.execGraphicCommitPacket link pair s
  | .contentLatch context => Sys2Proof.Machine.execContentLatch context s
  | .graphicReleased pair => Sys2Proof.Machine.execGraphicReleased pair s
  | .previewLineSend context line => Sys2Proof.Machine.execPreviewLineSend context line s
  | .curtainNEdge level => Sys2Proof.Machine.execCurtainNEdge level s
  | .curtainCopy => Sys2Proof.Machine.execCurtainCopy s
  | .audioFrame group inputs => Sys2Proof.Machine.execAudioFrame group inputs s
  | .audioPcmResumed link pair => Sys2Proof.Machine.execAudioPcmResumed link pair s
  | .audioChangeApply route => Sys2Proof.Machine.execAudioChangeApply route s
  | .audioChangeTimeout route => Sys2Proof.Machine.execAudioChangeTimeout route s
  | .linkSampleWindowClose channel index => Sys2Proof.Machine.execLinkSampleWindowClose channel index s
  | .audioRestarted port => Sys2Proof.Machine.execAudioRestarted port s
  | .audioClockStop group => Sys2Proof.Machine.execAudioClockStop group s
  | .swapping => Sys2Proof.Machine.execSwapping s
  | .swap => Sys2Proof.Machine.execSwap s
  | .refreshWindow => Sys2Proof.Machine.execRefreshWindow s
  | .zqCalibration => Sys2Proof.Machine.execZqCalibration s
  | .mr4Read sub rank code configured => Sys2Proof.Machine.execMr4Read sub rank code configured s
  | .ddrSchedule sub => Sys2Proof.Machine.execDdrSchedule sub s
  | .ddrWriteRequest port address data => Sys2Proof.Machine.execDdrWriteRequest port address data s
  | .ddrReadReturn sub id err => Sys2Proof.Machine.execDdrReadReturn sub id err s
  | .patrolScrub sub err => Sys2Proof.Machine.execPatrolScrub sub err s
  | .ddrAlert sub => Sys2Proof.Machine.execDdrAlert sub s
  | .ppsEdge subTickPs => Sys2Proof.Machine.execPpsEdge subTickPs s
  | .ppsLost => Sys2Proof.Machine.execPpsLost s
  | .rootUnlock => Sys2Proof.Machine.execRootUnlock s
  | .activityLoss c => Sys2Proof.Machine.execActivityLoss c s
  | .gateEnd c offset => Sys2Proof.Machine.execGateEnd c offset s
  | .phaseComparison c phasePs ask => Sys2Proof.Machine.execPhaseComparison c phasePs ask s
  | .waitToRestore c => Sys2Proof.Machine.execWaitToRestore c s
  | .switchEnd phasePs => Sys2Proof.Machine.execSwitchEnd phasePs s
  | .lockAcquired => Sys2Proof.Machine.execLockAcquired s
  | .historySample meanY => Sys2Proof.Machine.execHistorySample meanY s
  | .refPins refsel refforceN => Sys2Proof.Machine.execRefPins refsel refforceN s
  | .evtRdWrite value => Sys2Proof.Machine.execEvtRdWrite value s
  | .cueEdge pin level => Sys2Proof.Machine.execCueEdge pin level s
  | .cueStuck pin => Sys2Proof.Machine.execCueStuck pin s
  | .cueReleased pin => Sys2Proof.Machine.execCueReleased pin s
  | .cueOutputEdge pin level => Sys2Proof.Machine.execCueOutputEdge pin level s
  | .arbHbToggle => Sys2Proof.Machine.execArbHbToggle s
  | .heartbeatServiceTimeout => Sys2Proof.Machine.execHeartbeatServiceTimeout s
  | .takeover => Sys2Proof.Machine.execTakeover s
  | .demotion => Sys2Proof.Machine.execDemotion s
  | .beatSend => Sys2Proof.Machine.execBeatSend s
  | .beat m => Sys2Proof.Machine.execBeat m s
  | .twinHeartbeatLost => Sys2Proof.Machine.execTwinHeartbeatLost s
  | .orphanTimeout => Sys2Proof.Machine.execOrphanTimeout s
  | .healthSend => Sys2Proof.Machine.execHealthSend s
  | .health m => Sys2Proof.Machine.execHealth m s
  | .twinHelloSend => Sys2Proof.Machine.execTwinHelloSend s
  | .twinHello m => Sys2Proof.Machine.execTwinHello m s
  | .positionsSend => Sys2Proof.Machine.execPositionsSend s
  | .positions entries => Sys2Proof.Machine.execPositions entries s
  | .ackHoldExpiry queue => Sys2Proof.Machine.execAckHoldExpiry queue s
  | .frameRecord r => Sys2Proof.Machine.execFrameRecord r s
  | .rowRecord r => Sys2Proof.Machine.execRowRecord r s
  | .confirm queue seq => Sys2Proof.Machine.execConfirm queue seq s
  | .itemRequest queue first count => Sys2Proof.Machine.execItemRequest queue first count s
  | .item queue it rtpSeq => Sys2Proof.Machine.execItem queue it rtpSeq s
  | .rowRequest context frameCount row poisoned => Sys2Proof.Machine.execRowRequest context frameCount row poisoned s
  | .rowData m => Sys2Proof.Machine.execRowData m s
  | .blockRequest context block => Sys2Proof.Machine.execBlockRequest context block s
  | .blockData context block content => Sys2Proof.Machine.execBlockData context block content s
  | .journalHeadWrite => Sys2Proof.Machine.execJournalHeadWrite s
  | .thermalSample sensor reading => Sys2Proof.Machine.execThermalSample sensor reading s
  | .supplySample monitor mV => Sys2Proof.Machine.execSupplySample monitor mV s
  | .doorbell mb value route => Sys2Proof.Machine.execDoorbell mb value route s
  | .cplRdWrite mb value => Sys2Proof.Machine.execCplRdWrite mb value s
  | .mailboxReset mb => Sys2Proof.Machine.execMailboxReset mb s
  | .intStatusWrite value => Sys2Proof.Machine.execIntStatusWrite value s
  | .hostWindowWrite address value => Sys2Proof.Machine.execHostWindowWrite address value s
  | .spiTransaction op => Sys2Proof.Machine.execSpiTransaction op s
  | .spiStatus => Sys2Proof.Machine.execSpiStatus s
  | .hello h minMinor maxMinor major hostId => Sys2Proof.Machine.execHello h minMinor maxMinor major hostId s
  | .goodbye h => Sys2Proof.Machine.execGoodbye h s
  | .mbConfig h depths => Sys2Proof.Machine.execMbConfig h depths s
  | .echo h data => Sys2Proof.Machine.execEcho h data s
  | .identify h => Sys2Proof.Machine.execIdentify h s
  | .certRead h bulkOffset length => Sys2Proof.Machine.execCertRead h bulkOffset length s
  | .attest h nonce bulkOffset => Sys2Proof.Machine.execAttest h nonce bulkOffset s
  | .ownerKeyLoad h bulkOffset length => Sys2Proof.Machine.execOwnerKeyLoad h bulkOffset length s
  | .debugToken h bulkOffset length => Sys2Proof.Machine.execDebugToken h bulkOffset length s
  | .fuseProgram h bulkOffset length => Sys2Proof.Machine.execFuseProgram h bulkOffset length s
  | .productionLoad h imageOffset length bulkOffset => Sys2Proof.Machine.execProductionLoad h imageOffset length bulkOffset s
  | .productionCheck h => Sys2Proof.Machine.execProductionCheck h s
  | .productionCue h request => Sys2Proof.Machine.execProductionCue h request s
  | .productionAbort h => Sys2Proof.Machine.execProductionAbort h s
  | .productionStatus h => Sys2Proof.Machine.execProductionStatus h s
  | .contextRateSet h context schedSel rAvg => Sys2Proof.Machine.execContextRateSet h context schedSel rAvg s
  | .contextQpLimitsSet h context qpLo qpHi => Sys2Proof.Machine.execContextQpLimitsSet h context qpLo qpHi s
  | .layerGeometrySet h context layer dst src => Sys2Proof.Machine.execLayerGeometrySet h context layer dst src s
  | .layerOpacitySet h context layer opacity => Sys2Proof.Machine.execLayerOpacitySet h context layer opacity s
  | .graphicCommit h pair => Sys2Proof.Machine.execGraphicCommit h pair s
  | .layerStatus h context => Sys2Proof.Machine.execLayerStatus h context s
  | .curtainStage h offset data => Sys2Proof.Machine.execCurtainStage h offset data s
  | .curtainInstall h => Sys2Proof.Machine.execCurtainInstall h s
  | .curtainDrop h sequence fingerprint signature => Sys2Proof.Machine.execCurtainDrop h sequence fingerprint signature s
  | .curtainRaise h sequence fingerprint signature => Sys2Proof.Machine.execCurtainRaise h sequence fingerprint signature s
  | .curtainStatus h => Sys2Proof.Machine.execCurtainStatus h s
  | .audioGainSet h route gain => Sys2Proof.Machine.execAudioGainSet h route gain s
  | .audioMuteSet h route mute => Sys2Proof.Machine.execAudioMuteSet h route mute s
  | .audioPortRestart h port => Sys2Proof.Machine.execAudioPortRestart h port s
  | .audioStatus h port => Sys2Proof.Machine.execAudioStatus h port s
  | .egressShaperSet h queue rate => Sys2Proof.Machine.execEgressShaperSet h queue rate s
  | .linkStatus h link => Sys2Proof.Machine.execLinkStatus h link s
  | .linkRetrain h link mode => Sys2Proof.Machine.execLinkRetrain h link mode s
  | .linkTxSet h link presets => Sys2Proof.Machine.execLinkTxSet h link presets s
  | .linkGuardSet h link lanes ctle tap1 taps2to5 phase => Sys2Proof.Machine.execLinkGuardSet h link lanes ctle tap1 taps2to5 phase s
  | .eyeScan h link lanes k bulkOffset => Sys2Proof.Machine.execEyeScan h link lanes k bulkOffset s
  | .patternStart h link pattern mode lanes user => Sys2Proof.Machine.execPatternStart h link pattern mode lanes user s
  | .patternRead h link seen => Sys2Proof.Machine.execPatternRead h link seen s
  | .patternInject h link lanes mode k => Sys2Proof.Machine.execPatternInject h link lanes mode k s
  | .patternStop h link => Sys2Proof.Machine.execPatternStop h link s
  | .linkProtocol h link => Sys2Proof.Machine.execLinkProtocol h link s
  | .clockStatus h => Sys2Proof.Machine.execClockStatus h s
  | .candidateStatus h first count => Sys2Proof.Machine.execCandidateStatus h first count s
  | .candidateSet h candidate f => Sys2Proof.Machine.execCandidateSet h candidate f s
  | .dpllSet h f => Sys2Proof.Machine.execDpllSet h f s
  | .dpllSoftware h word => Sys2Proof.Machine.execDpllSoftware h word s
  | .dpllNudge h ns => Sys2Proof.Machine.execDpllNudge h ns s
  | .dpllClose h => Sys2Proof.Machine.execDpllClose h s
  | .clockHistoryClear h dpllMask candidateMask => Sys2Proof.Machine.execClockHistoryClear h dpllMask candidateMask s
  | .houseTimeStatus h => Sys2Proof.Machine.execHouseTimeStatus h s
  | .houseTimeSet h mode time => Sys2Proof.Machine.execHouseTimeSet h mode time s
  | .houseTimeAlarmSet h timeAlarm => Sys2Proof.Machine.execHouseTimeAlarmSet h timeAlarm s
  | .ddrStatus h => Sys2Proof.Machine.execDdrStatus h s
  | .ddrSubchannelStatus h first count => Sys2Proof.Machine.execDdrSubchannelStatus h first count s
  | .ddrPortStatus h first count => Sys2Proof.Machine.execDdrPortStatus h first count s
  | .ddrErrorLog h clear => Sys2Proof.Machine.execDdrErrorLog h clear s
  | .ddrMark h subchannel rank component action => Sys2Proof.Machine.execDdrMark h subchannel rank component action s
  | .ddrScrubSet h period threshold => Sys2Proof.Machine.execDdrScrubSet h period threshold s
  | .ddrChecksEnable h subchannel => Sys2Proof.Machine.execDdrChecksEnable h subchannel s
  | .twinStatus h => Sys2Proof.Machine.execTwinStatus h s
  | .twinPair h fingerprint => Sys2Proof.Machine.execTwinPair h fingerprint s
  | .twinUnpair h => Sys2Proof.Machine.execTwinUnpair h s
  | .engineStatus h first count => Sys2Proof.Machine.execEngineStatus h first count s
  | .queueStatus h first count => Sys2Proof.Machine.execQueueStatus h first count s
  | .contextStatus h context => Sys2Proof.Machine.execContextStatus h context s
  | .telemetry h => Sys2Proof.Machine.execTelemetry h s
  | .eventMaskSet h first count enable => Sys2Proof.Machine.execEventMaskSet h first count enable s
  | .eventSourceStatus h first count => Sys2Proof.Machine.execEventSourceStatus h first count s
  | .cueConfig h pin f => Sys2Proof.Machine.execCueConfig h pin f s
  | .cueOutput h pin f => Sys2Proof.Machine.execCueOutput h pin f s
  | .cueStatus h first count clear => Sys2Proof.Machine.execCueStatus h first count clear s
  | .cuConfig h unit polynomial => Sys2Proof.Machine.execCuConfig h unit polynomial s
  | .cuFeed h unit source length bulkOffset data eccBad => Sys2Proof.Machine.execCuFeed h unit source length bulkOffset data eccBad s
  | .cuRead h unit eccBad => Sys2Proof.Machine.execCuRead h unit eccBad s
  | .cuWrite h unit value => Sys2Proof.Machine.execCuWrite h unit value s
  | .selftestReport h => Sys2Proof.Machine.execSelftestReport h s
  | .testLogicReset => Sys2Proof.Machine.execTestLogicReset s
  | .idcode => Sys2Proof.Machine.execIdcode s
  | .samplePreload data => Sys2Proof.Machine.execSamplePreload data s
  | .extest => Sys2Proof.Machine.execExtest s
  | .highz => Sys2Proof.Machine.execHighz s
  | .clamp => Sys2Proof.Machine.execClamp s
  | .extestPulse => Sys2Proof.Machine.execExtestPulse s
  | .extestTrain => Sys2Proof.Machine.execExtestTrain s
  | .bypass => Sys2Proof.Machine.execBypass s
  | .rootLock => Sys2Proof.Machine.execRootLock s
  | .candidateActivityReturn c => Sys2Proof.Machine.execCandidateActivityReturn c s

end Sys2Proof.Machine
end

