-- ==== Sys2Proof/Machine/Tick.lean ====
section
/-! DEFINITION. What one FCLK cycle of time does by itself. -/

namespace Sys2Proof.Machine

/-- House time advances by one tick of 1.25 ns (R392), but not while a power-on or cold reset holds it at 0 (R393). -/
def HouseTime.advance (t : HouseTime) (held : Bool) : HouseTime :=
  { t with fclk := t.fclk + 1, tick := if held then t.tick else t.tick + 1 }

/-- One FCLK cycle passes. At the end of an XO cycle, which is four FCLK cycles, the DPLL acts on the cycle's causes (R370);
at a whole second, y's average over it is taken (R379). Nothing else happens by itself: every other timed happening is a
command (notes/assumptions/1). -/
def tickPasses (s : State) : State :=
  let s1 := if s.time.fclk % 4 = 3 then s.xoEnds else s
  let s2 := { s1 with time := s1.time.advance (s1.boot.phase == .held) }
  if s2.time.tick % 800000000 = 0 ∧ s2.boot.phase ≠ .held then s2.secondEnds else s2

end Sys2Proof.Machine
end

