-- ==== Sys2Proof/Safety.lean ====
section
/-! DEFINITION. The words that claims use: when a mailbox command executes, what its acceptance or refusal answers, and
the invariants of the block. -/

namespace Sys2Proof.Safety

open Sys2Proof Sys2Proof.Machine

/-- A command executes: it is present in its ring with room for its completion, and its header, session and mailbox
pass (R468 to R472, R476). `pass` lets a DROP or RAISE pass a running install (R471). -/
def Executes (c : Spec) (h : Hdr) (s : State) (pass : Bool := false) : Prop :=
  s.mayBegin c h pass = true ∧ entriesOf h.length ≤ 16 ∧ s.precheck c h = none

/-- The state after a command has executed in `s` with the effect `t` and the reply `r`: its completion is journaled and
written into the ring (R469, R473, R479). -/
def answered (c : Spec) (h : Hdr) (s t : State) (r : Reply) : State :=
  t.complete h.mb (vget s.host.mbs h.mb).cmdRd (s.host.sess.getD (min h.minor 2)) c.opcode h.tag h.length true r

/-- The rings of R467: MB0 has 128 entries, each other mailbox 16, 32, 64, 128 or 256, and together they fit the ring
area. -/
def RingsFit (s : State) : Prop :=
  (vget s.host.mbs 0).depth = 128 ∧ (∀ n : Fin 8, (vget s.host.mbs n).depth ∈ [16, 32, 64, 128, 256])
    ∧ (s.host.mbs.toList.map (·.depth)).sum ≤ 1280

/-- The resets and the boot. -/
def isReset : Instr → Bool
  | .powerOnReset | .coldReset _ | .warmResetEntry | .watchdogExpiry | .lockstepMismatch | .warmEntrySave
  | .resetRelease _ | .warmBoot _ | .bootLoad _ _ => true
  | _ => false

/-- A kind of state that few commands change. -/
inductive Part where
  | time    -- house time and its discipline
  | cues    -- the CUE pins
  | sec     -- OTP, the owner key and access
  | cu      -- the check-value units
  | tap     -- the test port
  | mon     -- the monitors
  | green   -- the green room
  | running -- the running production
  | before  -- the production that ran at the last warm reset
  | rings   -- the layer rings
  | pairs   -- the graphic pairs
  | curtain -- the curtain
  | audio   -- audio
  | refs    -- the references and the DPLL
  deriving DecidableEq, Repr

/-- A kind of state is the same in two states. -/
def Part.kept (p : Part) (s t : State) : Prop :=
  match p with
  | .time => t.time = s.time
  | .cues => t.cues = s.cues
  | .sec => t.sec = s.sec
  | .cu => t.cu = s.cu
  | .tap => t.tap = s.tap
  | .mon => t.mon = s.mon
  | .green => t.green = s.green
  | .running => t.running = s.running
  | .before => t.before = s.before
  | .rings => t.rings = s.rings
  | .pairs => t.pairs = s.pairs
  | .curtain => t.curtain = s.curtain
  | .audio => t.audio = s.audio
  | .refs => t.cands = s.cands ∧ t.dpll = s.dpll

/-- The commands that a kind of state belongs to, the resets apart. -/
def Part.owner : Part → Instr → Bool
  | .time => fun c => match c with
    | .timeOfDay _ _ _ | .ppsEdge _ | .ppsLost | .houseTimeStatus _ | .houseTimeSet _ _ _ | .houseTimeAlarmSet _ _ => true
    | _ => false
  | .cues => fun c => match c with
    | .swap | .demotion | .cueEdge _ _ | .cueStuck _ | .cueReleased _ | .cueOutputEdge _ _ | .cueConfig _ _ _ | .cueOutput _ _ _
    | .cueStatus _ _ _ _ => true
    | _ => false
  | .sec => fun c => match c with
    | .ownerKeyLoad _ _ _ | .debugToken _ _ _ | .fuseProgram _ _ _ => true
    | _ => false
  | .cu => fun c => match c with
    | .cuConfig _ _ _ | .cuFeed _ _ _ _ _ _ _ | .cuRead _ _ _ | .cuWrite _ _ _ => true
    | _ => false
  | .tap => fun c => match c with
    | .testLogicReset | .idcode | .samplePreload _ | .extest | .highz | .clamp | .extestPulse | .extestTrain
    | .bypass => true
    | _ => false
  | .mon => fun c => match c with
    | .thermalSample _ _ | .supplySample _ _ | .fuseProgram _ _ _ => true
    | _ => false
  | .green => fun c => match c with
    | .slotStart _ _ | .swapping | .swap | .productionLoad _ _ _ _ | .productionCheck _ | .productionCue _ _
    | .productionAbort _ => true
    | _ => false
  | .running => fun c => match c with
    | .swap => true
    | _ => false
  | .before => fun c => match c with
    | .swap => true
    | _ => false
  | .rings => fun c => match c with
    | .line _ _ | .swap => true
    | _ => false
  | .pairs => fun c => match c with
    | .graphicWrite _ _ _ _ | .graphicCommitPacket _ _ | .graphicReleased _ | .swap | .graphicCommit _ _ => true
    | _ => false
  | .curtain => fun c => match c with
    | .curtainNEdge _ | .curtainCopy | .curtainStage _ _ _ | .curtainInstall _ | .curtainDrop _ _ _ _
    | .curtainRaise _ _ _ _ => true
    | _ => false
  | .audio => fun c => match c with
    | .audio _ _ | .audioFrame _ _ | .audioPcmResumed _ _ | .audioChangeApply _ | .audioChangeTimeout _
    | .linkSampleWindowClose _ _ | .audioRestarted _ | .audioClockStop _ | .swap | .audioGainSet _ _ _
    | .audioMuteSet _ _ _ | .audioPortRestart _ _ | .ddrReadReturn _ _ _ => true
    | _ => false
  | .refs => fun c => match c with
    | .ppsEdge _ | .rootUnlock | .activityLoss _ | .gateEnd _ _ | .phaseComparison _ _ _ | .waitToRestore _
    | .switchEnd _ | .lockAcquired | .historySample _ | .refPins _ _ | .clockStatus _ | .candidateStatus _ _ _
    | .candidateSet _ _ _ | .dpllSet _ _ | .dpllSoftware _ _ | .dpllNudge _ _ | .dpllClose _
    | .clockHistoryClear _ _ _ | .rootLock | .candidateActivityReturn _ => true
    | _ => false

/-- The commands of the mailboxes: what the command table says of each, its header, and whether it passes a running
install (R471, R477). -/
def mailbox : Instr → Option (Spec × Hdr × Bool)
  | .hello h _ _ _ _ => some (Cmd.hello, h, false)
  | .goodbye h => some (Cmd.goodbye, h, false)
  | .mbConfig h _ => some (Cmd.mbConfig, h, false)
  | .echo h data => some (Cmd.echo data, h, false)
  | .identify h => some (Cmd.identify, h, false)
  | .certRead h _ _ => some (Cmd.certRead, h, false)
  | .attest h _ _ => some (Cmd.attest, h, false)
  | .ownerKeyLoad h _ _ => some (Cmd.ownerKeyLoad, h, false)
  | .debugToken h _ _ => some (Cmd.debugToken, h, false)
  | .fuseProgram h _ _ => some (Cmd.fuseProgram, h, false)
  | .productionLoad h _ _ _ => some (Cmd.productionLoad, h, false)
  | .productionCheck h => some (Cmd.productionCheck, h, false)
  | .productionCue h _ => some (Cmd.productionCue, h, false)
  | .productionAbort h => some (Cmd.productionAbort, h, false)
  | .productionStatus h => some (Cmd.productionStatus, h, false)
  | .contextRateSet h _ _ _ => some (Cmd.contextRateSet, h, false)
  | .contextQpLimitsSet h _ _ _ => some (Cmd.contextQpLimitsSet, h, false)
  | .layerGeometrySet h _ _ _ _ => some (Cmd.layerGeometrySet, h, false)
  | .layerOpacitySet h _ _ _ => some (Cmd.layerOpacitySet, h, false)
  | .graphicCommit h _ => some (Cmd.graphicCommit, h, false)
  | .layerStatus h _ => some (Cmd.layerStatus, h, false)
  | .curtainStage h _ data => some (Cmd.curtainStage data, h, false)
  | .curtainInstall h => some (Cmd.curtainInstall, h, false)
  | .curtainDrop h _ _ _ => some (Cmd.curtainDrop, h, true)
  | .curtainRaise h _ _ _ => some (Cmd.curtainRaise, h, true)
  | .curtainStatus h => some (Cmd.curtainStatus, h, false)
  | .audioGainSet h _ _ => some (Cmd.audioGainSet, h, false)
  | .audioMuteSet h _ _ => some (Cmd.audioMuteSet, h, false)
  | .audioPortRestart h _ => some (Cmd.audioPortRestart, h, false)
  | .audioStatus h _ => some (Cmd.audioStatus, h, false)
  | .egressShaperSet h _ _ => some (Cmd.egressShaperSet, h, false)
  | .linkStatus h _ => some (Cmd.linkStatus, h, false)
  | .linkRetrain h _ _ => some (Cmd.linkRetrain, h, false)
  | .linkTxSet h _ _ => some (Cmd.linkTxSet, h, false)
  | .linkGuardSet h _ _ _ _ _ _ => some (Cmd.linkGuardSet, h, false)
  | .eyeScan h _ _ _ _ => some (Cmd.eyeScan, h, false)
  | .patternStart h _ _ _ _ _ => some (Cmd.patternStart, h, false)
  | .patternRead h _ _ => some (Cmd.patternRead, h, false)
  | .patternInject h _ _ _ _ => some (Cmd.patternInject, h, false)
  | .patternStop h _ => some (Cmd.patternStop, h, false)
  | .linkProtocol h _ => some (Cmd.linkProtocol, h, false)
  | .clockStatus h => some (Cmd.clockStatus, h, false)
  | .candidateStatus h _ _ => some (Cmd.candidateStatus, h, false)
  | .candidateSet h _ _ => some (Cmd.candidateSet, h, false)
  | .dpllSet h _ => some (Cmd.dpllSet, h, false)
  | .dpllSoftware h _ => some (Cmd.dpllSoftware, h, false)
  | .dpllNudge h _ => some (Cmd.dpllNudge, h, false)
  | .dpllClose h => some (Cmd.dpllClose, h, false)
  | .clockHistoryClear h _ _ => some (Cmd.clockHistoryClear, h, false)
  | .houseTimeStatus h => some (Cmd.houseTimeStatus, h, false)
  | .houseTimeSet h _ _ => some (Cmd.houseTimeSet, h, false)
  | .houseTimeAlarmSet h _ => some (Cmd.houseTimeAlarmSet, h, false)
  | .ddrStatus h => some (Cmd.ddrStatus, h, false)
  | .ddrSubchannelStatus h _ _ => some (Cmd.ddrSubchannelStatus, h, false)
  | .ddrPortStatus h _ _ => some (Cmd.ddrPortStatus, h, false)
  | .ddrErrorLog h _ => some (Cmd.ddrErrorLog, h, false)
  | .ddrMark h _ _ _ _ => some (Cmd.ddrMark, h, false)
  | .ddrScrubSet h _ _ => some (Cmd.ddrScrubSet, h, false)
  | .ddrChecksEnable h _ => some (Cmd.ddrChecksEnable, h, false)
  | .twinStatus h => some (Cmd.twinStatus, h, false)
  | .twinPair h _ => some (Cmd.twinPair, h, false)
  | .twinUnpair h => some (Cmd.twinUnpair, h, false)
  | .engineStatus h _ _ => some (Cmd.engineStatus, h, false)
  | .queueStatus h _ _ => some (Cmd.queueStatus, h, false)
  | .contextStatus h _ => some (Cmd.contextStatus, h, false)
  | .telemetry h => some (Cmd.telemetry, h, false)
  | .eventMaskSet h _ _ _ => some (Cmd.eventMaskSet, h, false)
  | .eventSourceStatus h _ _ => some (Cmd.eventSourceStatus, h, false)
  | .cueConfig h _ _ => some (Cmd.cueConfig, h, false)
  | .cueOutput h _ _ => some (Cmd.cueOutput, h, false)
  | .cueStatus h _ _ _ => some (Cmd.cueStatus, h, false)
  | .cuConfig h _ _ => some (Cmd.cuConfig, h, false)
  | .cuFeed h _ source length _ _ _ => some (Cmd.cuFeed source length, h, false)
  | .cuRead h _ _ => some (Cmd.cuRead, h, false)
  | .cuWrite h _ _ => some (Cmd.cuWrite, h, false)
  | .selftestReport h => some (Cmd.selftestReport, h, false)
  | _ => none

/-- The status of a reply, 0 for an accepted command (R473). -/
def replyStatus : Reply → Nat
  | .accept _ _ => 0
  | .refuse st _ => st

/-- The result of a reply. -/
def replyResult : Reply → List Byte
  | .accept x _ => x
  | .refuse _ x => x

end Sys2Proof.Safety
end

