-- ==== Sys2Proof/Certificates/Slice0/Obligations.lean ====
section
/-! DEFINITION. The statements for the provers, by kind: the queue and reset; that every command completes, family by
family; rules of the spec; frames; and invariants of every step. -/

open Sys2Proof Sys2Proof.Machine Sys2Proof.Safety

/-! ### The queue, time and reset -/

/-- Log entry 2: the command at the front of the queue is what a step runs, on the state with the queue's rest. -/
def Obligations.StepRunsFront : Prop :=
  ∀ (s : State) (c : Instr) (rest : List Instr),
    step { s with pending := c :: rest } = exec c { s with pending := rest }

/-- Log entry 1 (DESIGN CHOICE): with no command waiting, one FCLK tick passes, house time advances by 1.25 ns (R392) unless
a reset holds it at 0 (R393), and no engine, link, queue, pin or DDR5 state changes. Nothing else changes either, except that
at the end of an XO cycle the DPLL acts on what came in it (R370, R376), and that y's average is taken at a whole second (R379). -/
def Obligations.StepIdleTick : Prop :=
  ∀ s : State, s.pending = [] →
    (∃ t, step s = .next t ∧ t.time.fclk = s.time.fclk + 1
      ∧ t.time.tick = (if s.boot.phase = .held then s.time.tick else s.time.tick + 1) ∧ t.pending = []
      ∧ t.cues = s.cues ∧ t.engines = s.engines ∧ t.ctxs = s.ctxs ∧ t.links = s.links ∧ t.flow = s.flow ∧ t.ddr = s.ddr
      ∧ t.twin = s.twin ∧ t.boot = s.boot)
    ∧ (s.boot.phase ≠ .held →
      s.time.fclk % 4 ≠ 3 ∨ s.darkCands = [] ∧ s.dpll.due = none ∧ s.dpll.lostDue = false →
      (s.time.tick + 1) % 800000000 ≠ 0 →
      step s = .next { s with time := { s.time with fclk := s.time.fclk + 1, tick := s.time.tick + 1 } })
    ∧ (s.boot.phase ≠ .held → s.time.fclk % 4 = 3 → s.dpll.due.isSome = true → (s.time.tick + 1) % 800000000 ≠ 0 →
      ∃ t, step s = .next t ∧ t.dpll.due = none)

/-- What a power-on reset leaves, by R330, R344, R348, R364, R393, R400, R447, R452, R465, R467, R475, R538 and R540: the
values the spec gives. The rest of State.reset is the model's (log entry 4). -/
def Obligations.ResetValues : Prop :=
  State.reset.time.tick = 0 ∧ State.reset.time.valid = false ∧ State.reset.time.alarmNs = 1000
    ∧ State.reset.evt.wr = 0 ∧ State.reset.evt.rd = 0
    ∧ State.reset.boot.phase = .held ∧ State.reset.boot.state = 0 ∧ State.reset.boot.cause = 0
    ∧ State.reset.host.scratch = 0 ∧ State.reset.host.sess = none ∧ State.reset.host.intEnable = 0x300
    ∧ (∀ n : Fin 8, (vget State.reset.host.mbs n).depth = 128 ∧ (vget State.reset.host.mbs n).cmdWr = 0
        ∧ (vget State.reset.host.mbs n).cmdRd = 0 ∧ (vget State.reset.host.mbs n).fault = false
        ∧ (vget State.reset.host.mbs n).long = none)
    ∧ (∀ u : Fin 16, (vget State.reset.cu u).poly = 0 ∧ (vget State.reset.cu u).r = 0xFFFFFFFF
        ∧ (vget State.reset.cu u).fault = false)
    ∧ (∀ p : Fin 16, (vget State.reset.cues p).cfg.direction = 0)
    ∧ (∀ l : Fin 12, (vget State.reset.links l).state = 0)
    ∧ (∀ c : Fin 16, 4 ≤ c.val → (vget State.reset.cands c).cfg.nominal = 100000000)
    ∧ State.reset.tap.ir = .idcode ∧ State.reset.running = none ∧ State.reset.green.state = 0
    ∧ State.reset.curtain.valid = false ∧ State.reset.curtain.cmdDown = false ∧ State.reset.pending = []

/-! ### Resets and boot -/

/-- The reset happenings complete (R22, R447, R449, R450, R460): each into the reset it starts, a firmware that does not
start into ERROR. A RESET_N pulse shorter than 10 µs is left open by R447: a cold reset, or none. -/
def Obligations.ResetsComplete : Prop :=
  ∀ s : State,
    exec .powerOnReset s = .next (s.coldHeld 0)
    ∧ (∀ low, s.powerHeld = false → 10000 ≤ low → exec (.coldReset (.resetN low)) s = .next (s.coldHeld 1))
    ∧ (∀ low, s.powerHeld = false → low < 10000 →
        ∃ t, exec (.coldReset (.resetN low)) s = .next t ∧ (t = s.fresh ∨ t = s.fresh.coldHeld 1))
    ∧ (∀ mV, s.powerHeld = false → mV < 680 → exec (.coldReset (.supply mV)) s = .next (s.coldHeld 2))
    ∧ exec .warmResetEntry s = .next (s.warmReset 3 false)
    ∧ (s.boot.firmware = true → exec .watchdogExpiry s = .next (s.warmReset 4 true))
    ∧ (s.boot.firmware = true → exec .lockstepMismatch s = .next (s.warmReset 5 true))
    ∧ (s.boot.phase = .running → s.boot.state = 6 →
        exec .firmwareInitTimeout s = .next { s with boot := { s.boot with phase := .running, state := 15, error := 9 } })

/-- The boot happenings complete (R22, R25, R92, R433, R453 to R460): the warm entry's save once every record has room in
its write queue, the boot ROM after a release and
after a warm entry, and a host load's chunk. -/
def Obligations.BootCompletes : Prop :=
  ∀ (s : State) (b : BootInputs),
    (s.boot.phase = .warmEntry → s.entryDone = true → s.entryWrites.ddr.waiting = [] →
      ∃ t, exec .warmEntrySave s = .next t ∧ t.boot.phase = .warmSaved ∧ t.ddr.state = 2
        ∧ ∀ l : Fin 12, (vget t.links l).state = 0 ∧ (vget t.links l).ckLock = false)
    ∧ (s.boot.phase = .held → exec (.resetRelease b) s = .next (s.rom b))
    ∧ (s.boot.phase = .held → b.bootsel % 8 = 2 → b.sramFails = [] → b.otpBad = false →
        ∃ t, exec (.resetRelease b) s = .next t ∧ t.boot.phase = .waitHost ∧ t.boot.state = 4)
    ∧ (s.boot.phase = .warmSaved → exec (.warmBoot b) s = .next (s.warmCleared.rom b))
    ∧ (∀ v : U32, s.hostAnswers = true → v.toNat / 2 ^ 25 % 2 = 0 →
        exec (.bootLoad v b) s = .next { s with boot := { s.boot with
          loadReg := v.toNat % 2 ^ 17 + 2 ^ 24 * (v.toNat / 2 ^ 24 % 4) } })
    ∧ (∀ v : U32, s.boot.phase = .waitHost → s.boot.state = 4 → v.toNat / 2 ^ 25 % 2 = 1 →
        1 ≤ v.toNat % 2 ^ 17 → v.toNat % 2 ^ 17 ≤ 65536 →
        exec (.bootLoad v b) s = .next (State.takeChunk
          { s with boot := { s.boot with
              loadReg := v.toNat % 2 ^ 17 + 2 ^ 24 * (v.toNat / 2 ^ 24 % 4), phase := .waitHost, state := 4, error := 0 } }
          b (v.toNat % 2 ^ 17) (decide (v.toNat / 2 ^ 24 % 2 = 1))))

/-! ### The host window -/

/-- Every write of the host window completes while the device answers (R6, R462 to R470): a doorbell, a completion index, a
mailbox reset, INT_STATUS, whose bit stays set when hardware set it in the same cycle, any mapped word, SPI in both
directions, and the SPI status that a read clears. -/
def Obligations.HostWindowCompletes : Prop :=
  ∀ s : State, s.hostAnswers = true →
    (∀ mb v r, exec (.doorbell mb v r) s = .next (s.ringDoorbell mb v r))
    ∧ (∀ mb v, exec (.cplRdWrite mb v) s = .next (s.consume mb v))
    ∧ (∀ mb, (vget s.host.mbs mb).long = none → exec (.mailboxReset mb) s = .next (s.resetMb mb))
    ∧ (∀ mb, (vget s.host.mbs mb).long ≠ none → exec (.mailboxReset mb) s = .next { s with host := { s.host with
        mbs := vset s.host.mbs mb { vget s.host.mbs mb with resetDue := true } } })
    ∧ (∀ v : U32, exec (.intStatusWrite v) s = .next { s with host := { s.host with
        ringFault := s.host.ringFault && !(v.getLsbD 10 && s.host.setAt.getD 0 0 != s.time.fclk + 1)
        sessClosed := s.host.sessClosed && !(v.getLsbD 11 && s.host.setAt.getD 1 0 != s.time.fclk + 1)
        replayed := s.host.replayed && !(v.getLsbD 12 && s.host.setAt.getD 2 0 != s.time.fclk + 1) } })
    ∧ (∀ a v, a % 4 = 0 → exec (.hostWindowWrite a v) s = .next (s.writeHost a v 0))
    ∧ (∀ a bs, bs.length % 4 = 0 → 0 < bs.length → bs.length ≤ 256 → badRange a (bs.length / 4) = false →
        exec (.spiTransaction (.write a bs)) s = .next (State.writeWords 0 a (leWords bs) s))
    ∧ (∀ a n, a % 4 = 0 → n ≤ 64 → exec (.spiTransaction (.read a n)) s = .next { s with host := { s.host with
        spiOut := (List.range n).flatMap (fun i => leBytes 4 (s.hostWord (a + 4 * i))) } })
    ∧ exec .spiStatus s = .next { s with host := { s.host with
        spiOut := leBytes 1 (boolNat s.host.spiFailed + 2 * boolNat s.host.spiAddr + 4 * boolNat s.host.spiCount)
        spiFailed := false, spiAddr := false, spiCount := false } }

/-- Register packets of VC0 complete on the links that carry them (R344, R345), and the journal head is written while the
device runs (R479). -/
def Obligations.RegisterPacketsComplete : Prop :=
  ∀ (s : State) (link : Fin 12) (tag a : Nat),
    (∀ n, s.hasMsg link 0 1 (regResponse tag a n 0 []) = true → s.regLink link = true → regStatus a n = 0 →
      exec (.regRead link tag a n) s = .next ((s.popInbox link 0).send link 0 3 (regResponse tag a n 0
        ((List.range n).flatMap (fun i => leBytes 4 (s.hostWord (a + 4 * i)))))))
    ∧ (∀ ws : List U32, s.hasMsg link 0 2 (regResponse tag a ws.length 0 (ws.flatMap (fun w => leBytes 4 w.toNat))) = true →
      s.regLink link = true → regStatus a ws.length = 0 →
      exec (.regWrite link tag a ws.length ws) s =
        .next ((State.writeWords (1 + link.val) a ws (s.popInbox link 0)).send link 0 3 (regResponse tag a ws.length 0 [])))
    ∧ (s.up = true → s.journal.headAt = 0 ∨ s.journal.headAt + 799999 ≤ s.time.fclk →
      exec .journalHeadWrite s = .next { s with
        ddr := s.ddr.writeJournal (s.journalAt 0) 4096 s.time.fclk
        journal := { s.journal with head := some s.journalHead, headAt := s.time.fclk + 1 } })

/-! ### Mailbox commands -/

/-- HELLO, GOODBYE, MB_CONFIG and ECHO execute (R467, R475, R476): a HELLO whose minors overlap opens a session after
closing the old one; MB_CONFIG gives each named empty mailbox its new depth and starts it afresh. -/
def Obligations.SessionCommandsExecute : Prop :=
  ∀ (s t : State) (h : Hdr), t = s.takeCmd h →
    (∀ lo hi host u, Executes Cmd.hello h s → lo ≤ min hi 2 →
      u = (if t.host.sess.isSome then t.closeSession 1 else t).openSession (min hi 2) →
      exec (.hello h lo hi 1 host) s = .next (answered Cmd.hello h s u (ok (leBytes 1 1 ++ leBytes 1 (min hi 2)
        ++ leBytes 1 (s.boot.fw.version / 65536) ++ leBytes 1 (s.boot.fw.version / 256) ++ leBytes 2 (s.boot.fw.version % 256)
        ++ [0, 0] ++ leBytes 4 u.host.sessNum ++ leBytes 1 u.host.sessRoute ++ [0, 0, 0]))))
    ∧ (Executes Cmd.goodbye h s →
      exec (.goodbye h) s = .next (answered Cmd.goodbye h s (t.closeSession 0) (ok [])))
    ∧ (∀ codes : List Nat, Executes Cmd.mbConfig h s → (∀ d ∈ codes.drop 1, d = 0 ∨ 4 ≤ d ∧ d ≤ 8) →
      (askedDepths t.host.mbs codes).sum ≤ 1280 →
      (∀ n : Fin 8, n.val ≠ 0 → codes.getD n 0 ≠ 0 → (vget t.host.mbs n).empty = true) →
      ∃ u, exec (.mbConfig h codes) s =
          .next (answered Cmd.mbConfig h s u (ok ((askedDepths t.host.mbs codes).flatMap (leBytes 2))))
        ∧ u = { t with
            host := { t.host with mbs := u.host.mbs }
            journal := { t.journal with recs := t.journal.recs.filter (fun r =>
              !(List.finRange 8).any (fun n => decide (n.val ≠ 0 ∧ codes.getD n 0 ≠ 0) && n.val == r.mb)) } }
        ∧ ∀ n : Fin 8, vget u.host.mbs n =
          if n.val ≠ 0 ∧ codes.getD n 0 ≠ 0 then { depth := 2 ^ codes.getD n 0 } else vget t.host.mbs n)
    ∧ (∀ data, Executes (Cmd.echo data) h s →
      exec (.echo h data) s = .next (answered (Cmd.echo data) h s t (ok data)))

/-- The identity commands execute (R1, R521, R524 to R527): identification, the certificate chain into the bulk area, an
attestation with its free signature, and the owner key whose hash OTP holds. -/
def Obligations.IdentityCommandsExecute : Prop :=
  ∀ (s t : State) (h : Hdr), t = s.takeCmd h →
    (Executes Cmd.identify h s → exec (.identify h) s = .next (answered Cmd.identify h s t (ok (leBytes 2 0x4816 ++ [1, 0]
      ++ leBytes 2 0x0100 ++ leBytes 4 s.boot.fw.version ++ leBytes 2 0x0102 ++ leBytes 2 s.boot.fw.engine
      ++ leBytes 2 s.boot.fw.ladle ++ [0, 0] ++ leBytes 4 0x24816C2B ++ fingerprint ++ leBytes 8 s.sec.otp.serial))))
    ∧ (∀ off len, Executes Cmd.certRead h s → off % 4 = 0 → off + len ≤ 0x40000 →
      exec (.certRead h off len) s = .next (answered Cmd.certRead h s (t.setBulk off (certChain.take len))
        (ok (leBytes 4 (certChain.take len).length))))
    ∧ (∀ nonce off, Executes Cmd.attest h s → off % 4 = 0 → off + 672 ≤ 0x40000 →
      exec (.attest h nonce off) s = .next (answered Cmd.attest h s
        (State.raise (t.fresh.setBulk off (t.attestStatement nonce
            ++ slice (Config.identitySign s.free (t.attestStatement nonce)) 0 384))
          (t.ev 835 0x0113 [(4, ((s.running.map (·.id)).getD 0 : Nat)), (4, t.attestFlags)]))
        (ok t.measurements)))
    ∧ (∀ off (bs hash : List Byte), Executes Cmd.ownerKeyLoad h s → t.bulk off 388 = some bs →
      s.sec.otp.ownerHash = some hash →
      exec (.ownerKeyLoad h off 388) s = .next (
        if keyHash (bs.take 384) (beNat (bs.drop 384)) = hash then
          answered Cmd.ownerKeyLoad h s
            (State.raise { t with sec := { t.sec with ownerKey := some (bs.take 384, beNat (bs.drop 384)) } }
              (t.ev 835 0x0110 [(8, field hash 0 8)])) (ok [])
        else answered Cmd.ownerKeyLoad h s t (.refuse 0x0102 [])))

/-- The commands that a signature decides execute (R216, R217, R219, R517, R529 to R533): with the signature, key and
fields as the spec asks they have their effect, and otherwise they are refused with none. -/
def Obligations.SignedCommandsDecide : Prop :=
  ∀ (s t : State) (h : Hdr), t = s.takeCmd h →
    (∀ off (b : List Byte), Executes Cmd.debugToken h s → t.bulk off 1088 = some b →
      exec (.debugToken h off 1088) s = .next (
        if t.tokenOk b = true then
          answered Cmd.debugToken h s
            (State.raise { t with sec := { t.sec with
                boundary := t.sec.boundary || bitOf (field b 5 1) 0, debug := t.sec.debug || bitOf (field b 5 1) 1 } }
              (t.ev 835 0x0112 [(1, boolNat (t.sec.boundary || bitOf (field b 5 1) 0)
                + 2 * boolNat (t.sec.debug || bitOf (field b 5 1) 1)), (8, field b 0x30 8)])) (ok [])
        else answered Cmd.debugToken h s (t.sigRefused 0x0105 4 0x0101) (.refuse 0x0101 [])))
    ∧ (∀ off len, Executes Cmd.fuseProgram h s →
      exec (.fuseProgram h off len) s = .next (
        match t.fuseCheck off len with
        | .ok (q, o) => answered Cmd.fuseProgram h s
            (State.raise { t with sec := { t.sec with otp := o } }
              (t.ev 798 0x0118 [(1, field q 0 1), (1, field q 1 1), (4, field q 4 4)])) (ok [])
        | .error st => answered Cmd.fuseProgram h s
            ((if st = 0x0103 then State.raise { t with mon := { t.mon with alarm := vset t.mon.alarm 1 true } }
                  (t.ev 795 0x0C98 [(2, (vget t.mon.supply 1 : Nat))])
                else if st = 0x0101 then t.sigRefused 0x0106 5 st else t).raise
              (t.ev 798 0x0119 [(1, match t.bulk off len with | none => 0 | some q => field q 0 1), (2, st)])) (.refuse st [])))
    ∧ (Executes Cmd.curtainInstall h s →
      exec (.curtainInstall h) s = .next (
        match t.installRefusal (readBytes t.curtain.staging 0 (0x1FA480 + 1024)) with
        | some st => answered Cmd.curtainInstall h s
            (((if st = 0x0401 then t.sigRefused 0x0441 3 st else t)).curtainRefused 0x0441 st).1 (.refuse st [])
        | none => { t with
            curtain := { t.curtain with install := some ((readBytes t.curtain.staging 0 (0x1FA480 + 1024)).take 0x1FA480) }
            host := { t.host with mbs := vset t.host.mbs h.mb { vget t.host.mbs h.mb with
              long := some ⟨h, 0x0441, (vget s.host.mbs h.mb).cmdRd, 0⟩ } } }))
    ∧ (∀ down seq print sig key, Executes (if down then Cmd.curtainDrop else Cmd.curtainRaise) h s true →
      s.sec.ownerKey = some key → print = fingerprint → s.curtain.cmdSeq < seq →
      exec (if down then .curtainDrop h seq print sig else .curtainRaise h seq print sig) s = .next (
        if pssVerify key.1 (leBytes 2 (if down then 0x0442 else 0x0443) ++ leBytes 8 seq ++ print) sig = true then
          answered (if down then Cmd.curtainDrop else Cmd.curtainRaise) h s
            (t.moveCurtain { t.curtain with cmdDown := down, cmdSeq := seq } 1)
            (ok (leBytes 4 (t.moveCurtain { t.curtain with cmdDown := down, cmdSeq := seq } 1).curtain.gen))
        else
          answered (if down then Cmd.curtainDrop else Cmd.curtainRaise) h s
            (t.curtainRefused (if down then 0x0442 else 0x0443) 0x0401).1 (.refuse 0x0401 [])))

/-- The production commands execute (R48 to R54, R481 to R483): a chunk of an image, a check that admits, a cue of an
admitted production and of one that still loads, an abort, and the status. -/
def Obligations.ProductionCommandsExecute : Prop :=
  ∀ (s t : State) (h : Hdr), t = s.takeCmd h →
    (∀ off bulk (chunk : List Byte), Executes Cmd.productionLoad h s → s.green.state ≤ 2 →
      off = (if s.green.state = 1 then s.green.staging.length else 0) → 0 < chunk.length →
      t.bulk bulk chunk.length = some chunk → (off = 0 → 64 ≤ chunk.length ∧ headerOk chunk = true) →
      (if off = 0 then field chunk 8 4 else s.green.size) ≤ 48 * 2 ^ 20 →
      off + chunk.length ≤ (if off = 0 then field chunk 8 4 else s.green.size) →
      exec (.productionLoad h off chunk.length bulk) s =
        .next (answered Cmd.productionLoad h s (t.loadChunk off chunk).1 (t.loadChunk off chunk).2))
    ∧ (Executes Cmd.productionCheck h s → s.green.state = 2 ∨ s.green.state = 3 →
      exec (.productionCheck h) s = .next (
        match t.admission s.green.staging with
        | none => answered Cmd.productionCheck h s t.admitted (ok (leBytes 4 (production s.green.staging).id))
        | some d => answered Cmd.productionCheck h s
            (if d.reason = 0x0203 then (t.greenTo { s.green with state := 2, prod := none, detail := d }).raise
                (t.ev 835 0x0111 [(2, 0x0202), (2, 2), (2, 0x0203)])
              else t.greenTo { s.green with state := 2, prod := none, detail := d })
            (.refuse d.reason (d.bytes (s.host.sess.getD 2)))))
    ∧ (∀ request p point deferred, Executes Cmd.productionCue h s → s.green.state = 3 → s.green.prod = some p →
      t.cueBlock (some p) = none → fixCue s.running p request (t.readyTime p) s.cycle = .ok (point, deferred) →
      exec (.productionCue h request) s = .next (answered Cmd.productionCue h s (t.setCue p point deferred)
        (.accept (cueResult point p.id false) true)))
    ∧ (∀ request, Executes Cmd.productionCue h s → s.green.state = 1 → t.cueBlock none = none →
      exec (.productionCue h request) s = .next (answered Cmd.productionCue h s
        { t with green := { s.green with request := some request } }
        (.accept (cueResult 0 (if s.green.staging.length < 64 then 0 else field s.green.staging 0x14 4) true) true)))
    ∧ (Executes Cmd.productionAbort h s → s.green.state ≠ 5 →
      exec (.productionAbort h) s = .next (answered Cmd.productionAbort h s (t.greenTo { detail := s.green.detail }) (ok [])))
    ∧ (Executes Cmd.productionStatus h s →
      exec (.productionStatus h) s = .next (answered Cmd.productionStatus h s t (ok (
        leBytes 4 ((s.running.map (·.id)).getD 0)
        ++ leBytes 4 (if 64 ≤ s.green.staging.length then field s.green.staging 0x14 4 else 0) ++ leBytes 1 s.green.state
        ++ leBytes 1 (boolNat s.green.request.isSome + 2 * boolNat s.flow.hasSaved) ++ [0, 0]
        ++ leBytes 4 s.green.staging.length ++ leBytes 4 s.green.size ++ [0, 0, 0, 0]
        ++ leBytes 8 (if s.green.state = 4 ∨ s.green.state = 5 then s.green.cuePoint else 0)
        ++ s.green.detail.bytes (s.host.sess.getD 2)))))

/-- The commands of a context execute (R187, R188, 0x0B03): rate and QP limits inside the entry's bounds wait for their
frame mark, and the status answers and clears its counters. -/
def Obligations.ContextCommandsExecute : Prop :=
  ∀ (s t : State) (h : Hdr) (context : Nat), t = s.takeCmd h →
    (∀ p c sched rAvg, Executes Cmd.contextRateSet h s → s.running = some p → p.ctx context = some c →
      sched < (p.boxOf c).schedCount → ((p.boxOf c).mode = 0 → sched = 0) →
      ((p.boxOf c).mode = 1 → (p.boxOf c).rAvgMin ≤ rAvg ∧ rAvg ≤ ((p.boxOf c).scheds.getD sched (0, 0)).1) →
      exec (.contextRateSet h context sched rAvg) s = .next (answered Cmd.contextRateSet h s
        (t.acceptRate c { sched := some sched, rAvg := if (p.boxOf c).mode = 1 then some rAvg else none }).1
        (.accept (leBytes 4 (t.effectFrame c)) true)))
    ∧ (∀ p c (lo : Int) (hi : Nat), Executes Cmd.contextQpLimitsSet h s → s.running = some p → p.ctx context = some c →
      (p.boxOf c).qpLoMin ≤ lo → lo ≤ hi → (hi : Int) ≤ (p.boxOf c).qpHiMax →
      exec (.contextQpLimitsSet h context lo hi) s = .next (answered Cmd.contextQpLimitsSet h s
        (t.acceptRate c { qpLo := some lo, qpHi := some (hi : Int) }).1 (.accept (leBytes 4 (t.effectFrame c)) true)))
    ∧ (Executes Cmd.contextStatus h s → context < 512 →
      exec (.contextStatus h context) s = .next (answered Cmd.contextStatus h s
        (t.setCtx context { s.ctxSt context with rowsRepeated := 0, linesDup := 0, lateReads := 0, sweeps := 0, starts := 0 })
        (ok (t.ctxBytes context))))

/-- The layer commands execute (R195, R201, R206, R209, R210): a change that fits waits for its geometry latch, a commit
swaps a released pair, and the status answers with the geometry of the newest latch and the state of the newest content
latch. -/
def Obligations.LayerCommandsExecute : Prop :=
  ∀ (s t : State) (h : Hdr), t = s.takeCmd h →
    (∀ context layer p c l dst src, Executes Cmd.layerGeometrySet h s → s.layerAt context layer = some (p, c, l) →
      l.fits p.pairs ((List.range c.tiles).map c.tilePx) dst src = true →
      exec (.layerGeometrySet h context layer dst src) s = .next (answered Cmd.layerGeometrySet h s
        (t.changeLayer c { layer := layer, frame := 0, geo := some (dst, src) }).1
        (.accept (leBytes 4 (t.effectFrame c)) true)))
    ∧ (∀ context layer p c l opacity, Executes Cmd.layerOpacitySet h s → s.layerAt context layer = some (p, c, l) →
      opacity ≤ 256 → (l.opaque_ = true → opacity = 256) →
      exec (.layerOpacitySet h context layer opacity) s = .next (answered Cmd.layerOpacitySet h s
        (t.changeLayer c { layer := layer, frame := 0, opacity := some opacity }).1
        (.accept (leBytes 4 (t.effectFrame c)) true)))
    ∧ (∀ pair g, Executes Cmd.graphicCommit h s → g = cget {} s.pairs pair →
      pair < ((s.running.map (fun p => p.pairs.length)).getD 0) → g.backFree = true →
      exec (.graphicCommit h pair) s = .next (answered Cmd.graphicCommit h s
        { t with pairs := cset {} s.pairs pair { g with front := 1 - g.front, committed := true, backFree := false } }
        (.accept [] true)))
    ∧ (∀ context p c set, Executes Cmd.layerStatus h s → s.running = some p → p.ctx context = some c →
      p.sets[c.layers]? = some set →
      exec (.layerStatus h context) s = .next (answered Cmd.layerStatus h s t (ok ((List.range 8).flatMap (fun i =>
        layerBytes (set.layers.getD i {})
          (((s.ctxSt context).latches.headD {}).geo.getD i (set.layers.getD i {}).geo)
          ((((s.ctxSt context).latches.find? Latch.content).getD {}).states.getD i 0)
          ((s.ctxSt context).notReady.getD i 0))))))

/-- The curtain's commands that need no signature, its pin and its copy complete (R214, R216 to R219). -/
def Obligations.CurtainCompletes : Prop :=
  ∀ (s t : State) (h : Hdr), t = s.takeCmd h →
    (∀ off (data : List Byte), Executes (Cmd.curtainStage data) h s → off + data.length ≤ 2097152 →
      exec (.curtainStage h off data) s = .next (answered (Cmd.curtainStage data) h s
        { t with curtain := { s.curtain with staging := writeBytes s.curtain.staging off data } } (ok [])))
    ∧ (Executes Cmd.curtainStatus h s →
      exec (.curtainStatus h) s = .next (answered Cmd.curtainStatus h s t (ok (leBytes 1 (boolNat s.curtain.cmdDown)
        ++ leBytes 1 (boolNat s.curtain.pin) ++ leBytes 1 (boolNat s.curtain.valid) ++ [0] ++ leBytes 4 s.curtain.gen
        ++ leBytes 4 s.curtain.imageId ++ leBytes 4 0 ++ leBytes 8 s.curtain.seq ++ slice s.curtain.sha 0 32))))
    ∧ (∀ level, level ≠ s.curtain.pin → s.up = true ∨ s.boot.phase = .warmEntry →
      exec (.curtainNEdge level) s = .next (s.moveCurtain (s.curtain.edge level s.time.tick) 0))
    ∧ (∀ level, level ≠ s.curtain.pin → s.up = false → s.boot.phase ≠ .warmEntry → s.boot.phase ≠ .held →
      exec (.curtainNEdge level) s =
        .next { s with curtain := (s.moveCurtain (s.curtain.edge level s.time.tick) 0).curtain })
    ∧ (∀ level, level ≠ s.curtain.pin → s.up = false → s.boot.phase = .held →
      exec (.curtainNEdge level) s = .next { s with curtain := s.curtain.edge level s.time.tick })
    ∧ (∀ img, s.curtain.install = some img → s.downComposing = false →
      ∃ u, exec .curtainCopy s = .next u ∧ u.curtain.mem = writeBytes [] 0 img ∧ u.curtain.valid = true
        ∧ u.curtain.sha = sha256 img ∧ u.curtain.gen = (s.curtain.gen + 1) % 2 ^ 32 ∧ u.curtain.imageId = field img 0x0C 4
        ∧ u.curtain.seq = field img 0x10 8 ∧ u.curtain.install = none ∧ u.curtain.cmdDown = s.curtain.cmdDown)

/-- The audio commands and EGRESS_SHAPER_SET execute (R238, R239, R280): for routes, ports and queues of the running
production. -/
def Obligations.AudioCommandsExecute : Prop :=
  ∀ (s t : State) (h : Hdr), t = s.takeCmd h →
    (∀ route gain x, Executes Cmd.audioGainSet h s → s.routeAt route = some x →
      exec (.audioGainSet h route gain) s = .next (answered Cmd.audioGainSet h s
        { t with audio := s.audio.askRoute x.1 route x.2 (some gain) none s.time.tick } (.accept [] true)))
    ∧ (∀ route mute x, Executes Cmd.audioMuteSet h s → s.routeAt route = some x →
      exec (.audioMuteSet h route mute) s = .next (answered Cmd.audioMuteSet h s
        { t with audio := s.audio.askRoute x.1 route x.2 none (some (mute != 0)) s.time.tick } (.accept [] true)))
    ∧ (∀ port i e, Executes Cmd.audioPortRestart h s → s.usedPort port = some (i, e) →
      exec (.audioPortRestart h port) s = .next (answered Cmd.audioPortRestart h s
        (t.restartPort e i 0) (.accept [] true)))
    ∧ (∀ port i e, Executes Cmd.audioStatus h s → s.usedPort port = some (i, e) →
      exec (.audioStatus h port) s = .next (answered Cmd.audioStatus h s t (ok (portBytes e (vget s.audio.ports i)))))
    ∧ (∀ queue rate p e, Executes Cmd.egressShaperSet h s → s.running = some p →
      p.scheds.find? (fun x => x.queue == queue) = some e → e.rateMin ≤ rate → rate ≤ e.rateMax →
      exec (.egressShaperSet h queue rate) s = .next (answered Cmd.egressShaperSet h s
        (t.setQueue queue { s.queue queue with newRate := some (rate, s.now / 1000) }) (.accept [] true)))

/-- The link commands execute on every link L0 to L11 (R303, R304, R306 to R309, R316, R317, R357), and a link number
above 11 is refused. -/
def Obligations.LinkCommandsExecute : Prop :=
  ∀ (s t : State) (h : Hdr) (i : Fin 12), t = s.takeCmd h →
    (Executes Cmd.linkStatus h s → exec (.linkStatus h i.val) s = .next (answered Cmd.linkStatus h s
      (t.setLink i { vget s.links i with retrains := 0, rx := (vget s.links i).rx.map (fun x => { x with violations := 0 }) })
      (ok ((vget s.links i).statusBytes i s.time.fclk s.now))))
    ∧ (Executes Cmd.linkRetrain h s → (vget s.links i).state = 8 ∨ (vget s.links i).state = 9 →
      exec (.linkRetrain h i.val 0) s = .next (answered Cmd.linkRetrain h s (t.retrain i 4) (ok [])))
    ∧ (∀ mode, Executes Cmd.linkRetrain h s → mode ≤ 1 →
      (vget s.links i).state = 10 ∨ mode = 1 ∧ ((vget s.links i).state = 8 ∨ (vget s.links i).state = 9) →
      exec (.linkRetrain h i.val mode) s = .next (answered Cmd.linkRetrain h s (t.orderTraining i) (ok [])))
    ∧ (∀ presets, Executes Cmd.linkTxSet h s → (∀ p ∈ presets, p ≤ 7) →
      exec (.linkTxSet h i.val presets) s = .next (answered Cmd.linkTxSet h s
        (t.setLink i { vget s.links i with tx := Vector.ofFn (fun n : Fin 4 =>
          { vget (vget s.links i).tx n with next := presets.getD n (vget (vget s.links i).tx n).next }) }) (ok [])))
    ∧ (∀ lanes a b c d, Executes Cmd.linkGuardSet h s → lanes ≤ 15 → a ≤ 31 → b ≤ 31 → c ≤ 31 → d ≤ 31 →
      exec (.linkGuardSet h i.val lanes a b c d) s = .next (answered Cmd.linkGuardSet h s
        ((lanesOf lanes).foldl (fun x n => (List.range 7).foldl (fun x k =>
            t.adaptStep i x n k ((vget (vget s.links i).rx n).coeff k).1 ((vget (vget s.links i).rx n).atEdge k)) x)
          (t.setLink i { vget s.links i with rx := Vector.ofFn (fun n : Fin 4 =>
            if bitOf lanes n then { vget (vget s.links i).rx n with guards := [a, b, c, d] }
            else vget (vget s.links i).rx n) })) (ok [])))
    ∧ (Executes Cmd.linkProtocol h s → exec (.linkProtocol h i.val) s = .next (answered Cmd.linkProtocol h s
      (t.setLink i { vget s.links i with naks := 0, replaysN := 0, protoErr := 0, fresh := 0, unexpected := 0, rejected := 0
                                         waits := Vector.replicate 8 0 })
      (ok ((vget s.links i).protocolBytes i))))
    ∧ (∀ n, 12 ≤ n → Executes Cmd.linkStatus h s →
      exec (.linkStatus h n) s = .next (answered Cmd.linkStatus h s t (.refuse 0x0701 [])))

/-- The link tests' commands execute (R311 to R315): a scan of an ACTIVE link starts, a pattern starts on a link that
carries no session and no pairing, is read, disturbed and stopped. -/
def Obligations.LinkTestCommandsExecute : Prop :=
  ∀ (s t : State) (h : Hdr) (i : Fin 12), t = s.takeCmd h →
    (∀ lanes k off, Executes Cmd.eyeScan h s → 1 ≤ lanes → lanes ≤ 15 → 10 ≤ k → k ≤ 30 → (vget s.links i).state = 8 →
      (vget s.links i).eye = none → off % 4 = 0 → off + 16384 * (lanesOf lanes).length ≤ 0x40000 →
      exec (.eyeScan h i.val lanes k off) s = .next { t with
        links := vset s.links i { vget s.links i with eye := some ⟨lanes, k, off, s.time.fclk, h.mb⟩ }
        host := { t.host with mbs := vset t.host.mbs h.mb { vget t.host.mbs h.mb with
          long := some ⟨h, 0x0705, (vget s.host.mbs h.mb).cmdRd, 0⟩ } } })
    ∧ (∀ pattern mode lanes user, Executes Cmd.patternStart h s → pattern ≤ 5 → mode ≤ 1 → lanes ≤ 15 →
      t.sessionLink ≠ some i.val → (i = 11 → s.twin.expected = none) →
      (vget s.links i).state ≠ 0 → (vget s.links i).state ≠ 11 →
      ∃ u, exec (.patternStart h i.val pattern mode lanes user) s = .next (answered Cmd.patternStart h s u (ok []))
        ∧ (vget u.links i).state = 11 ∧ (vget u.links i).test =
          some { pattern := pattern, raw := decide (mode = 1), lanes := lanes, user := user, from_ := s.time.fclk
                 check := Vector.replicate 4 { from_ := s.time.fclk } })
    ∧ (∀ seen p, Executes Cmd.patternRead h s → (vget s.links i).test = some p →
      exec (.patternRead h i.val seen) s = .next (answered Cmd.patternRead h s
        (t.setLink i { vget s.links i with test := some { p with check := Vector.ofFn (fun n : Fin 4 =>
          { locked := (vget p.check n).locked, from_ := (vget p.check n).from_
            seen := (vget p.check n).seen + (if (vget p.check n).locked then (seen.getD n (0, 0)).2 else 0) }) } })
        (ok ((List.finRange 4).flatMap (fun n : Fin 4 =>
          leBytes 8 (satAdd 48 (vget p.check n).bits (if (vget p.check n).locked then (seen.getD n (0, 0)).1 else 0))
          ++ leBytes 8 (satAdd 48 (vget p.check n).errors (if (vget p.check n).locked then (seen.getD n (0, 0)).2 else 0))
          ++ leBytes 4 (vget p.check n).lost ++ leBytes 1 (boolNat (vget p.check n).locked) ++ [0, 0, 0])))))
    ∧ (∀ lanes k p bit, Executes Cmd.patternInject h s → lanes ≤ 15 → (vget s.links i).test = some p →
      bit = bitsIn (s.time.fclk - p.from_) (vget s.links i).rate →
      exec (.patternInject h i.val lanes 1 k) s = .next (answered Cmd.patternInject h s
        (t.setLink i { vget s.links i with test := some { p with inject := p.inject ++ [(lanes, bit, 0, none)] } }) (ok [])))
    ∧ (∀ lanes mode k p bit off, Executes Cmd.patternInject h s → lanes ≤ 15 → mode = 0 ∨ mode = 2 ∧ 6 ≤ k ∧ k ≤ 40 →
      (vget s.links i).test = some p → bit = bitsIn (s.time.fclk - p.from_) (vget s.links i).rate →
      off = p.inject.map (fun x =>
        (x.1, x.2.1, x.2.2.1, if x.2.2.2 = none ∧ x.2.2.1 ≠ 0 then some bit else x.2.2.2)) →
      exec (.patternInject h i.val lanes mode k) s = .next (answered Cmd.patternInject h s
        (t.setLink i { vget s.links i with test := some { p with
          inject := if mode = 0 then off else off ++ [(lanes, bit, 2 ^ k, none)] } }) (ok [])))
    ∧ (Executes Cmd.patternStop h s → (vget s.links i).state = 11 →
      exec (.patternStop h i.val) s = .next (answered Cmd.patternStop h s
        (t.setLink i ((vget s.links i).fullTraining s.time.fclk)) (ok [])))

/-- The clock commands execute (R364, R366, R368, R370, R373, R376, R380, R383 to R386): settings in range take effect,
or wait for the end of a switch in progress; the status answers and clears its counters. -/
def Obligations.ClockCommandsExecute : Prop :=
  ∀ (s t : State) (h : Hdr), t = s.takeCmd h →
    (Executes Cmd.clockStatus h s → exec (.clockStatus h) s = .next (answered Cmd.clockStatus h s
      { t with dpll := { t.ck.settle.dpll with switches := 0, clamps := 0 } } (ok t.ck.settle.statusBytes)))
    ∧ (∀ first count, Executes Cmd.candidateStatus h s → 1 ≤ count → count ≤ 7 → first + count ≤ 16 →
      exec (.candidateStatus h first count) s = .next (answered Cmd.candidateStatus h s
        { t with cands := Vector.ofFn (fun c : Fin 16 =>
            if first ≤ c.val ∧ c.val < first + count then { vget s.cands c with hits := 0, losses := 0 }
            else vget s.cands c) }
        (ok (((List.finRange 16).filter (fun c : Fin 16 => decide (first ≤ c.val) && decide (c.val < first + count))).flatMap
          t.ck.candBytes))))
    ∧ (∀ (c : Fin 16) f, Executes Cmd.candidateSet h s → candInRange f = true →
      (4 ≤ c.val → f.nominal = 100000000) → s.dpll.switching = none →
      exec (.candidateSet h c.val f) s = .next (answered Cmd.candidateSet h s
        (t.putCk ((t.ck.settle.applyCand c f).select true)) (ok [])))
    ∧ (∀ f, Executes Cmd.dpllSet h s → dpllInRange f = true → t.ck.settle.dpll.switching = none →
      exec (.dpllSet h f) s = .next (answered Cmd.dpllSet h s
        (t.putCk ({ t.ck.settle with dpll := { t.ck.settle.dpll with cfg := f } }.select true)) (ok [])))
    ∧ (∀ word, Executes Cmd.dpllSoftware h s → t.ck.settle.dpll.switching = none →
      exec (.dpllSoftware h word) s = .next (answered Cmd.dpllSoftware h s
        (t.putCk (t.ck.settle.applySoft (clampInt word (-(t.ck.settle.dpll.cfg.pullRange * 1000000))
          (t.ck.settle.dpll.cfg.pullRange * 1000000)))) (ok [])))
    ∧ (∀ ns : Int, Executes Cmd.dpllNudge h s → -1000000 ≤ ns → ns ≤ 1000000 → t.ck.settle.dpll.state ≠ 0 →
      exec (.dpllNudge h ns) s = .next (answered Cmd.dpllNudge h s
        { t with dpll := { t.ck.settle.dpll with nudge := t.ck.settle.dpll.nudge + 1000 * ns } } (ok [])))
    ∧ (Executes Cmd.dpllClose h s → s.dpll.state = 4 →
      exec (.dpllClose h) s = .next (answered Cmd.dpllClose h s
        (t.putCk ((t.ck.settle.setDpll 3 6).select true)) (ok [])))
    ∧ (∀ d c, Executes Cmd.clockHistoryClear h s → s.dpll.switching = none →
      exec (.clockHistoryClear h d c) s = .next (answered Cmd.clockHistoryClear h s
        (t.putCk (t.ck.applyClear (d, c))) (ok [])))

/-- The house time commands execute (R393, R394, R396): the time is set at once or at the next edge while no production
runs or is cued, the alarm threshold is set, and the status answers. -/
def Obligations.HouseTimeCommandsExecute : Prop :=
  ∀ (s t : State) (h : Hdr), t = s.takeCmd h →
    (Executes Cmd.houseTimeStatus h s →
      exec (.houseTimeStatus h) s = .next (answered Cmd.houseTimeStatus h s
        { t with time := { s.time with todMissing := 0 } }
        (ok (leBytes 8 s.now ++ leBytes 8 s.time.lastPps ++ leInt 4 (clampInt s.time.errorPs (-2147483647) 2147483647)
          ++ leBytes 1 (boolNat s.time.valid + 2 * boolNat s.time.todSeen + 4 * boolNat s.time.ppsPresent
            + 8 * boolNat s.time.alarm) ++ [0, 0, 0] ++ leBytes 4 s.time.todMissing ++ leBytes 4 s.time.alarmNs))))
    ∧ (∀ time, Executes Cmd.houseTimeSet h s → s.busyWithProduction = false →
      exec (.houseTimeSet h 1 time) s = .next (answered Cmd.houseTimeSet h s (t.setTime time 1) (ok [])))
    ∧ (∀ time, Executes Cmd.houseTimeSet h s → s.busyWithProduction = false →
      exec (.houseTimeSet h 0 time) s = .next (answered Cmd.houseTimeSet h s
        { t with time := { s.time with setAtEdge := some time } } (ok [])))
    ∧ (∀ mode time, Executes Cmd.houseTimeSet h s → mode ≤ 1 → s.busyWithProduction = true →
      exec (.houseTimeSet h mode time) s = .next (answered Cmd.houseTimeSet h s t (.refuse 0x0804 [])))
    ∧ (∀ a, Executes Cmd.houseTimeAlarmSet h s → 10 ≤ a → a ≤ 1000000 →
      exec (.houseTimeAlarmSet h a) s = .next (answered Cmd.houseTimeAlarmSet h s
        { t with time := { s.time with alarmNs := a } } (ok [])))

/-- The DDR5 commands execute (R426 to R430, R437, R438): the status records, the error log with its clear, a mark set
and cleared, the scrub settings and the checks. -/
def Obligations.DdrCommandsExecute : Prop :=
  ∀ (s t : State) (h : Hdr), t = s.takeCmd h →
    (Executes Cmd.ddrStatus h s → exec (.ddrStatus h) s = .next (answered Cmd.ddrStatus h s
      { t with ddr := { s.ddr with passes := 0, uncorr := 0 } } (ok t.ddrBytes)))
    ∧ (∀ first count, Executes Cmd.ddrSubchannelStatus h s → 1 ≤ count → first + count ≤ 12 →
      exec (.ddrSubchannelStatus h first count) s = .next (answered Cmd.ddrSubchannelStatus h s
        { t with ddr := { s.ddr with subs := Vector.ofFn (fun i : Fin 12 =>
            if first ≤ i.val ∧ i.val < first + count then { vget s.ddr.subs i with alerts := 0, replays := 0, uncorr := 0 }
            else vget s.ddr.subs i) } }
        (ok (((List.finRange 12).filter (fun i : Fin 12 => decide (first ≤ i.val) && decide (i.val < first + count))).flatMap
          (fun i => (vget s.ddr.subs i).bytes i)))))
    ∧ (∀ first count, Executes Cmd.ddrPortStatus h s → 1 ≤ count → first + count ≤ 22 →
      exec (.ddrPortStatus h first count) s = .next (answered Cmd.ddrPortStatus h s
        { t with ddr := { s.ddr with ports := Vector.ofFn (fun i : Fin 22 =>
            if first ≤ i.val ∧ i.val < first + count then
              { target := (vget s.ddr.ports i).target, fill := (vget s.ddr.ports i).fill }
            else vget s.ddr.ports i) } }
        (ok (((List.finRange 22).filter (fun i : Fin 22 => decide (first ≤ i.val) && decide (i.val < first + count))).flatMap
          (fun i => (vget s.ddr.ports i).bytes i)))))
    ∧ (∀ clear, Executes Cmd.ddrErrorLog h s → clear ≤ 1 →
      exec (.ddrErrorLog h clear) s = .next (answered Cmd.ddrErrorLog h s
        { t with ddr := if clear = 1 then
            { s.ddr with log := [], overflow := 0, corr := 0, subs := s.ddr.subs.map (fun c => { c with corr := [] }) }
          else s.ddr }
        (ok (leBytes 2 s.ddr.log.length ++ leBytes 2 s.ddr.overflow ++ [0, 0, 0, 0] ++ s.ddr.log.flatMap LogEntry.bytes))))
    ∧ (∀ (i : Fin 12) (r : Fin 2) comp, Executes Cmd.ddrMark h s → comp ≤ 9 → (vget s.ddr.subs i).state ≠ 0 →
      r.val < s.ddr.ranks → vget (vget s.ddr.subs i).marked r = none →
      exec (.ddrMark h i.val r.val comp 1) s = .next (answered Cmd.ddrMark h s (t.markComp i r.val comp 1) (ok [])))
    ∧ (∀ (i : Fin 12) (r : Fin 2) comp, Executes Cmd.ddrMark h s → comp ≤ 9 → (vget s.ddr.subs i).state ≠ 0 →
      r.val < s.ddr.ranks → vget (vget s.ddr.subs i).marked r = some comp →
      exec (.ddrMark h i.val r.val comp 0) s = .next (answered Cmd.ddrMark h s
        (t.setSub i { vget s.ddr.subs i with
          marked := vset (vget s.ddr.subs i).marked r none
          corr := cset 0 (vget s.ddr.subs i).corr (10 * r.val + comp) 0 }) (ok [])))
    ∧ (∀ period threshold, Executes Cmd.ddrScrubSet h s → 1 ≤ period → period ≤ 168 → 1 ≤ threshold → threshold ≤ 65535 →
      exec (.ddrScrubSet h period threshold) s = .next (answered Cmd.ddrScrubSet h s
        { t with ddr := { s.ddr with scrubPeriod := period, threshold := threshold } } (ok [])))
    ∧ (∀ i : Fin 12, Executes Cmd.ddrChecksEnable h s → (vget s.ddr.subs i).state ≠ 0 →
      exec (.ddrChecksEnable h i.val) s = .next (answered Cmd.ddrChecksEnable h s
        (t.setSub i { vget s.ddr.subs i with caParity := true, writeCrc := true, run := 0 }) (ok [])))

/-- The twin commands execute (R334, R491, R511, R512): a pairing with the peer that HELLO has shown, its end, and the
status. -/
def Obligations.TwinCommandsExecute : Prop :=
  ∀ (s t : State) (h : Hdr), t = s.takeCmd h →
    (Executes Cmd.twinStatus h s → exec (.twinStatus h) s = .next (answered Cmd.twinStatus h s
      { t with twin := { s.twin with compared := 0, divergent := 0, repaired := 0 } }
      (ok (leBytes 1 s.twin.role ++ leBytes 1 s.twin.readiness ++ leBytes 1 s.twin.mode ++ [0]
        ++ leBytes 2 s.twin.epoch.toNat ++ [0, 0] ++ slice ((s.twin.peer.map (·.fingerprint)).getD []) 0 32
        ++ leBytes 4 s.twin.compared ++ leBytes 4 s.twin.divergent ++ leBytes 4 s.twin.repaired ++ leBytes 4 0))))
    ∧ (∀ print p u, Executes Cmd.twinPair h s → s.twinMode ≠ 0 → s.twin.peer = some p →
      slice p.fingerprint 0 32 = slice print 0 32 → s.twinLink = true →
      u = State.review { t with twin := { s.twin with expected := some (slice print 0 32, p.serial) } } →
      exec (.twinPair h print) s = .next (answered Cmd.twinPair h s
        (u.raise (u.ev 772 0x0A01 [(1, u.twin.mode), (8, p.serial)])) (ok [])))
    ∧ (∀ x, Executes Cmd.twinUnpair h s → s.twin.expected = some x →
      exec (.twinUnpair h) s = .next (answered Cmd.twinUnpair h s
        (State.review { t with twin := { s.twin with expected := none } }) (ok [])))

/-- The status commands and the event masks execute: ENGINE_STATUS (R95), QUEUE_STATUS (R271), TELEMETRY (R579),
EVENT_MASK_SET and EVENT_SOURCE_STATUS (R404), and SELFTEST_REPORT (R544). Each answers the records it names, byte for byte,
and the counters cleared on read are cleared; a field outside its range is refused with EVENT_PARAM or OBJECT_NUMBER. -/
def Obligations.StatusCommandsExecute : Prop :=
  ∀ (s t : State) (h : Hdr), t = s.takeCmd h →
    (∀ first count, Executes Cmd.engineStatus h s → 1 ≤ count → first + count ≤ 16 →
      ∃ u, exec (.engineStatus h first count) s = .next (answered Cmd.engineStatus h s u (ok (recordsFrom (fun e =>
          ((finOf 16 e).map (fun i => ((vget s.engines i).counted s.cycle).bytes e (s.engineCycle e))).getD []) first count)))
        ∧ u = { t with engines := u.engines }
        ∧ ∀ i : Fin 16, vget u.engines i =
          if first ≤ i.val ∧ i.val < first + count then { vget s.engines i with
            n := { latenessMax := (vget s.engines i).lateNow s.cycle }
            q := { (vget s.engines i).q with frzSeen := ((vget s.engines i).q.frozenAt.map (s.cycle - ·)).getD 0 } }
          else vget s.engines i)
    ∧ (∀ first count, Executes Cmd.engineStatus h s → count = 0 ∨ 16 < first + count →
      exec (.engineStatus h first count) s = .next (answered Cmd.engineStatus h s t (.refuse 0x0B02 [])))
    ∧ (∀ first count, Executes Cmd.queueStatus h s → 1 ≤ count → count ≤ 126 → first + count ≤ 576 →
      exec (.queueStatus h first count) s = .next (answered Cmd.queueStatus h s
        ((List.range count).foldl (fun (u : State) i => u.setQueue (first + i)
          { u.queue (first + i) with fillMax := (u.queue (first + i)).fill, refused := 0, late := 0 }) t)
        (ok (recordsFrom (fun q => queueBytes q (s.queue q)) first count))))
    ∧ (∀ first count, Executes Cmd.queueStatus h s → count = 0 ∨ 126 < count ∨ 576 < first + count →
      exec (.queueStatus h first count) s = .next (answered Cmd.queueStatus h s t (.refuse 0x0B02 [])))
    ∧ (Executes Cmd.telemetry h s → exec (.telemetry h) s = .next (answered Cmd.telemetry h s t
      (ok (s.mon.temp.toList.flatMap (leInt 2) ++ s.mon.supply.toList.flatMap (leBytes 2) ++ [0, 0, 0, 0]))))
    ∧ (∀ first count enable, Executes Cmd.eventMaskSet h s → first + count ≤ 1024 → enable ≤ 1 →
      exec (.eventMaskSet h first count enable) s = .next (answered Cmd.eventMaskSet h s
        { t with evt := { s.evt with sources := (List.range count).foldl (fun a i =>
            cmod {} a (first + i) (fun x => { x with masked := decide (enable = 0) })) s.evt.sources } } (ok [])))
    ∧ (∀ first count enable, Executes Cmd.eventMaskSet h s → 1024 < first + count ∨ 1 < enable →
      exec (.eventMaskSet h first count enable) s = .next (answered Cmd.eventMaskSet h s t (.refuse 0x0B01 [])))
    ∧ (∀ first count, Executes Cmd.eventSourceStatus h s → 1 ≤ count → count ≤ 252 → first + count ≤ 1024 →
      exec (.eventSourceStatus h first count) s = .next (answered Cmd.eventSourceStatus h s t
        (ok (leBytes 4 s.evt.stale ++ [0, 0, 0, 0]
          ++ recordsFrom (fun i => (cget {} s.evt.sources i).bytes) first count))))
    ∧ (∀ first count, Executes Cmd.eventSourceStatus h s → count = 0 ∨ 252 < count ∨ 1024 < first + count →
      exec (.eventSourceStatus h first count) s = .next (answered Cmd.eventSourceStatus h s t (.refuse 0x0B01 [])))
    ∧ (Executes Cmd.selftestReport h s → exec (.selftestReport h) s = .next (answered Cmd.selftestReport h s t
      (ok (s.boot.report.getD ⟨0, [], 0, 0⟩).bytes)))

/-- The CUE pin commands execute on every pin (R408, R411 to R413). -/
def Obligations.CueCommandsExecute : Prop :=
  ∀ (s t : State) (h : Hdr), t = s.takeCmd h →
    (∀ (i : Fin 16) f, Executes Cmd.cueConfig h s → f.direction ≤ 2 → f.active ≤ 1 → f.mode ≤ 3 → f.stuck ≤ 3600000 →
      (f.direction = 1 → 1 ≤ f.holdoff ∧ f.holdoff ≤ 10000) → (f.direction ≠ 1 → f.holdoff = 0 ∧ f.stuck = 0) →
      exec (.cueConfig h i.val f) s = .next (answered Cmd.cueConfig h s
        (t.setPin i { vget s.cues i with cfg := f, level := decide (f.active = 0), holdEnd := 0, heldEdges := 0
                                         stuckNow := false, out := none, missed := false, nextPulse := 0 }) (ok [])))
    ∧ (∀ (i : Fin 16) f, Executes Cmd.cueOutput h s → (vget s.cues i).cfg.direction = 2 →
      cueOutOk (vget s.cues i).cfg.mode f = true →
      exec (.cueOutput h i.val f) s = .next (answered Cmd.cueOutput h s
        (t.setPin i { vget s.cues i with
          out := some f, accepted := s.now, missed := false
          nextPulse := if (vget s.cues i).cfg.mode = 3 then tickOf ((s.now : Int) - f.offset).toNat else 0 }) (ok [])))
    ∧ (∀ first count clear, Executes Cmd.cueStatus h s → 1 ≤ count → first + count ≤ 16 → clear ≤ 1 →
      exec (.cueStatus h first count clear) s = .next (answered Cmd.cueStatus h s
        { t with cues := Vector.ofFn (fun i : Fin 16 =>
            if first ≤ i.val ∧ i.val < first + count ∧ clear = 1 then { vget s.cues i with stuck := false }
            else vget s.cues i) }
        (ok (((List.finRange 16).filter (fun i : Fin 16 => decide (first ≤ i.val) && decide (i.val < first + count))).flatMap
          (fun i => leBytes 1 (boolNat (vget s.cues i).level) ++ leBytes 1 (boolNat (vget s.cues i).stuck) ++ [0, 0]
            ++ leBytes 4 (vget s.cues i).edges ++ leBytes 4 (vget s.cues i).suppressed ++ leBytes 4 (vget s.cues i).skipped)))))

/-- The check-value units' commands execute on every unit (R535 to R538). -/
def Obligations.CheckUnitCommandsExecute : Prop :=
  ∀ (s t : State) (h : Hdr) (u : Fin 16) (c : CheckUnit), t = s.takeCmd h → c = vget s.cu u →
    (∀ poly, Executes Cmd.cuConfig h s → poly ≤ 5 →
      exec (.cuConfig h u.val poly) s = .next (answered Cmd.cuConfig h s
        (t.setCu u { poly := poly, r := BitVec.ofNat 32 (crcParam poly).init, fault := false, fed := 0 }) (ok [])))
    ∧ (∀ source len off data bs, Executes (Cmd.cuFeed source len) h s → feedBytes t source len off data = .ok bs →
      c.fault = false →
      exec (.cuFeed h u.val source len off data false) s = .next (answered (Cmd.cuFeed source len) h s
        (t.setCu u { c with r := BitVec.ofNat 32 (crcFeed (crcParam c.poly) c.r.toNat bs)
                            fed := satAdd 32 c.fed bs.length }) (ok [])))
    ∧ (Executes Cmd.cuRead h s → c.fault = false →
      exec (.cuRead h u.val false) s = .next (answered Cmd.cuRead h s t
        (ok (leBytes 4 c.r.toNat ++ leBytes 4 (c.r.toNat ^^^ (crcParam c.poly).xorOut)))))
    ∧ (∀ v : U32, Executes Cmd.cuWrite h s →
      exec (.cuWrite h u.val v) s = .next (answered Cmd.cuWrite h s
        (t.setCu u { c with r := BitVec.ofNat 32 (v.toNat % 2 ^ (crcParam c.poly).width), fault := false, fed := 0 }) (ok [])))
    ∧ (Executes Cmd.cuRead h s → c.fault = false →
      exec (.cuRead h u.val true) s = .next (answered Cmd.cuRead h s (t.cuFault u) (.refuse 0x0C02 [])))

/-! ### Engines -/

/-- The sequencer's happenings complete (R34, R64 to R68, R85, R89, R90): a slot begins, and each control word of an
engine that issues has its effect on the program counter, the calls, the loops, MARK, LATE and the record. -/
def Obligations.SequencerCompletes : Prop :=
  ∀ (s : State) (e : Fin 16),
    (∀ slot p, s.slotPlace e slot = some p → (vget s.engines e).q.inSlot = false → s.slotsRun p.ctx p.frame = true →
      ∃ u, exec (.slotStart e slot) s = .next u ∧ (vget u.engines e).q.inSlot = true ∧ (vget u.engines e).q.slot = slot
        ∧ (vget u.engines e).q.frame = p.frame ∧ (vget u.engines e).q.lateness = 0
        ∧ (vget u.engines e).q.due = 2 * p.mark + p.slot.offset
        ∧ (vget u.engines e).q.pc = (p.tab.programs.getD p.slot.program {}).entry)
    ∧ (∀ a d t j g, s.control e 1 a (some d) = (t, some (j, g)) → g.q.calls.length < 8 →
      exec (.sqCall e a d) s = .next (t.setEngine e
        { g with q := { g.q with calls := (a + 1) :: g.q.calls, pc := (j.sq d).target } }))
    ∧ (∀ a t j g, s.control e 2 a none = (t, some (j, g)) →
      (∀ r rest, g.q.calls = r :: rest → g.q.inBlock = false →
        exec (.sqRet e a) s = .next (t.setEngine e { g with q := { g.q with calls := rest, pc := r } }))
      ∧ (∀ r rest, g.q.calls = r :: rest → g.q.inBlock = true → rest.length = g.q.blockBase →
        exec (.sqRet e a) s = .next (t.setEngine e (Engine.endBlock { g with q := { g.q with calls := rest, pc := r } } j.b))))
    ∧ (∀ a d t j g, s.control e 3 a (some d) = (t, some (j, g)) → g.q.loops.length < 4 →
      exec (.sqLoop e a d) s = .next (t.setEngine e
        { g with q := { g.q with
            loops := ((if (j.sq d).count = 0 then j.slot.nCtu else (j.sq d).count), a + 1) :: g.q.loops } }))
    ∧ (∀ a t j g n b rest, s.control e 4 a none = (t, some (j, g)) → g.q.loops = (n, b) :: rest →
      exec (.sqEndloop e a) s = .next (t.setEngine e { g with q :=
        if 1 < n then { g.q with loops := (n - 1, b) :: rest, pc := b } else { g.q with loops := rest } }))
    ∧ (∀ a d t j g target, s.control e 5 a (some d) = (t, some (j, g)) →
      target = 2 * g.q.slotMark + j.slot.offset + (j.sq d).mark → exec (.sqMark e a d) s =
        .next (t.setEngine e { g with q :=
          if g.q.due < target then { g.q with hold := some target, due := target }
          else { g.q with lateness := g.q.due - target } }))
    ∧ (∀ a d t j g floor, s.control e 7 a (some d) = (t, some (j, g)) → g.q.calls.length < 8 →
      floor = (((g.q.flag || decide (j.slot.thetaF ≤ g.q.lateness)) && !decide (g.q.lateness < j.slot.thetaR))) →
      ∃ u, exec (.sqLate e a d) s = .next u ∧ (vget u.engines e).q.flag = floor ∧ (vget u.engines e).q.floor = floor
        ∧ (vget u.engines e).q.pc = (if floor then (j.sq d).alt else (j.sq d).target)
        ∧ (vget u.engines e).q.calls = (a + 1) :: g.q.calls ∧ (vget u.engines e).q.inBlock = true
        ∧ (vget u.engines e).n.latenessMax = max g.n.latenessMax g.q.lateness
        ∧ (∀ c h, g.q.lateSeen = false → g.incoming = some (c, h) → (vget u.engines e).storeHalf = h))
    ∧ (∀ a d t j g, s.control e 6 a (some d) = (t, some (j, g)) → ∃ u, exec (.sqChg e a d) s = .next u
      ∧ (vget u.engines e).incoming = some (j.ctx.context, 1 - (vget u.engines e).storeHalf)
      ∧ (vget u.engines e).recTag = j.tab.recordTag ∧ (vget u.engines e).windows = [] ∧ (vget u.engines e).slots = [])
    ∧ (∀ a t j g, s.control e 8 a none = (t, some (j, g)) → exec (.sqEnd e a) s = .next ((t.setEngine e g).endSlot e))
    ∧ (∀ target, (vget s.engines e).q.hold = some target → target ≤ s.cycle →
      exec (.markTargetReached e) s = .next (s.setEngine e
        { vget s.engines e with q := { (vget s.engines e).q with hold := none, lateness := 0 } }))

/-- When a cue word issues (R61, R62, R80, R83): in a slot, neither frozen nor held, once the word's cycle has come and its
tags have arrived (or the block cannot freeze, or the word has begun to issue), each unit operation, each DMA operation and
the control action of the word issue, each once; a control action moves the sequencer to the next word, WAIT cycles on. -/
def Obligations.UnitIssues : Prop :=
  ∀ (s : State) (e : Fin 16) (j : Job) (w : CueWord) (q : Seq), q = (vget s.engines e).q →
    s.job e = some j → (vget s.engines e).issues = true → j.tab.words[q.pc]? = some w → q.due ≤ s.cycle →
    ((∀ t ∈ j.tab.consumed w, (cget {} (vget s.engines e).tags t).arrived = true) ∨ (vget s.engines e).steady = true ∨ q.did ≠ []) →
    (∀ u op desc d, j.tab.unitDesc u desc = some d → w.op u = (op, desc) → q.did.contains u = false →
      (s.issue e u op desc).2 = some (j, d))
    ∧ (∀ u desc d, (if u = 12 then j.tab.dr else j.tab.dw)[desc]? = some d → w.op u = (1, desc) → q.did.contains u = false →
      (s.issueDma e u desc).2 = some (j, d))
    ∧ (∀ op desc, w.sq.1 = op → (∀ d, desc = some d → w.sq.2 = d) → q.did.contains 14 = false →
      ∃ g, s.control e op q.pc desc = (s, some (j, g)) ∧ g.q.pc = q.pc + 1 ∧ g.q.due = q.due + w.wait ∧ g.q.did = [])

/-- A word whose tags have not come freezes its engine (R80, R95): when its cycle has come, outside a block that cannot
freeze, nothing of the word issues, the freeze is counted, and it begins at this cycle. -/
def Obligations.LateWordFreezes : Prop :=
  ∀ (s : State) (e : Fin 16) (u op desc : Nat) (j : Job) (d : UnitDesc) (w : CueWord) (t : Nat),
    s.job e = some j → j.tab.unitDesc u desc = some d → (vget s.engines e).issues = true →
    j.tab.words[(vget s.engines e).q.pc]? = some w → (vget s.engines e).q.due ≤ s.cycle → (vget s.engines e).q.did = [] →
    t ∈ j.tab.consumed w → (cget {} (vget s.engines e).tags t).arrived = false → (vget s.engines e).steady = false →
    (s.issue e u op desc).2 = none
      ∧ (vget (s.issue e u op desc).1.engines e).q.frozenAt = some s.cycle
      ∧ (vget (s.issue e u op desc).1.engines e).n.freezes = satAdd 32 (vget s.engines e).n.freezes 1
      ∧ (vget (s.issue e u op desc).1.engines e).issues = false

/-- The operations of the units IN, SV, MC, MF, IP and MD complete where they issue (R75, R82, R122, R127, R149, R155,
R158, R161, R165, R192): each leaves its result with the CTU in work. What the published standards' searches choose is a
free value (log entry 5). -/
def Obligations.SearchUnitsComplete : Prop :=
  ∀ (s t : State) (e : Fin 16) (desc : Nat) (j : Job) (d : UnitDesc) (g : Engine), g = vget t.engines e →
    (s.issue e 0 1 desc = (t, some (j, d)) → exec (.inRdq e desc) s = .next (State.readQuad e t j d))
    ∧ (s.issue e 0 2 desc = (t, some (j, d)) → exec (.inFsq e desc) s = .next (State.readQuad e t j d))
    ∧ (s.issue e 0 3 desc = (t, some (j, d)) → exec (.inFlr e desc) s = .next ((t.work e (fun c => { c with
        summary := (t.jobScene j g).blockSums j.tile.cod.bitDepth (j.col g) g.q.row })).previewCtu e j (List.range 16)))
    ∧ (s.issue e 1 1 desc = (t, some (j, d)) → exec (.svLvl e desc) s = .next (t.work e (fun c => { c with
        levels := t.curLevels e j g.q.ctu g.q.row })))
    ∧ (s.issue e 1 2 desc = (t, some (j, d)) → exec (.svExp e desc) s = .next (t.setEngine e { g with
        staged := g.staged ++ [{ ctu := j.num g
                                 levels := if g.c.levels = {} then t.curLevels e j g.q.ctu g.q.row else g.c.levels }] }))
    ∧ (∀ x k r, s.issue e 2 1 desc = (t, some (j, d)) → j.nextCtu g = some (x, k) → t.jobRec e j = some r →
      ∃ u v quads, exec (.mcCrs e desc) s = .next u
        ∧ (vget u.engines e).steers = ⟨j.tile.ctu x k, v, t.cycle + 480, quads⟩ :: g.steers.take 1
        ∧ u.jobRec e j = some { r with mf := cset {} r.mf (j.tile.ctu x k) v })
    ∧ (∀ r refs res, s.issue e 3 1 desc = (t, some (j, d)) → t.jobRec e j = some r →
      refs = (r.enabled j.tile.cod.structure_).zipIdx.filter (fun b => (Config.refEnables d.ints).testBit b.2) →
      res = refs.foldl (fun (m : Cells FineRes) b => cset {} m (2 * d.quad + b.2) (t.fineRes e j r b.2 b.1 d.quad)) [] →
      exec (.mfQrf e desc) s = .next (t.work e (fun c => { c with
        fine := res.foldl (fun m x => cset {} m x.1 x.2) c.fine
        bi := cset maxCost c.bi d.quad (if refs.length = 2 then
          t.biRes e j r d.quad (cget {} res (2 * d.quad)) (cget {} res (2 * d.quad + 1)) else maxCost) })))
    ∧ (s.issue e 4 1 desc = (t, some (j, d)) → ∃ n, n ≤ maxCost ∧ exec (.ipEst e desc) s =
        .next (t.work e (fun c => { c with intra := cset maxCost c.intra d.quad n })))
    ∧ (∀ u r, s.issue e 5 1 desc = (t, some (j, d)) → u = t.decisionPoint e j false → u.jobRec e j = some r →
      ((vget u.engines e).c.floor ≠ 0 → exec (.mdSel e desc) s =
        .next (u.work e (fun c => { c with md := cset {} c.md 16 (j.floorMd (vget u.engines e)) })))
      ∧ ((vget u.engines e).c.floor = 0 → ∃ m, exec (.mdSel e desc) s =
          .next (u.work e (fun c => { c with md := cset {} c.md d.quad m }))
        ∧ ((vget u.engines e).c.joins d.quad = none → m.floor = 0 ∧ m.qp = (vget u.engines e).c.qp)))
    ∧ (∀ u, s.issue e 5 2 desc = (t, some (j, d)) → u = t.decisionPoint e j g.q.floor →
      exec (.mdFlr e desc) s = .next (u.work e (fun c => { c with md := cset {} c.md 16 (j.floorMd (vget u.engines e)) })))

/-- The operations of the units TQ, IQ, LF, AL, BN and RW complete where they issue (R77, R107, R118, R119, R165, R182): a
transformed quad never takes the running bound beyond the CTU's room, and one that would is clipped and adds nothing; a
reconstructed quad has its samples within the bit depth. -/
def Obligations.CodingUnitsComplete : Prop :=
  ∀ (s t : State) (e : Fin 16) (desc : Nat) (j : Job) (d : UnitDesc) (g : Engine), g = vget t.engines e →
    (s.issue e 6 1 desc = (t, some (j, d)) → g.c.floor = 0 →
      ∃ u, exec (.tqFwd e desc) s = .next u
        ∧ ((vget u.engines e).c.runBits + sideBits ≤ g.c.room ∧ (vget u.engines e).c.runBins + sideBins ≤ g.c.rb
            ∧ (∃ c b n, (vget u.engines e).c.tq = cset {} g.c.tq d.quad ⟨c, b, n, false⟩ ∧ n ≤ b
                ∧ (vget u.engines e).c.runBits = g.c.runBits + b ∧ (vget u.engines e).c.runBins = g.c.runBins + n)
          ∨ (vget u.engines e).c.runBits = g.c.runBits ∧ (vget u.engines e).c.runBins = g.c.runBins
            ∧ (vget u.engines e).r.clipped = g.r.clipped + 1
            ∧ (vget u.engines e).c.tq = cset {} g.c.tq d.quad ⟨0, 0, 0, true⟩))
    ∧ (s.issue e 6 1 desc = (t, some (j, d)) → g.c.floor ≠ 0 →
      exec (.tqFwd e desc) s = .next (if d.quad = 0 then t.floorTq e j else t))
    ∧ (s.issue e 6 2 desc = (t, some (j, d)) → exec (.tqFlr e desc) s = .next (t.floorTq e j) ∧
      ∃ c n, exec (.tqFlr e desc) s = .next (t.work e (fun y => { y with tq := cset {} y.tq 16 ⟨c, 6 * n, n, false⟩ }))
        ∧ (n ≠ 0 → g.c.intraFlr = true ∧ n ≤ floorIntraBins j.ctx.chroma))
    ∧ (s.issue e 7 1 desc = (t, some (j, d)) → g.c.floor = 0 → ∃ l : List Nat, exec (.iqRec e desc) s =
        .next (t.work e (fun c => { c with recon := cset [] c.recon d.quad l }))
        ∧ l.length = quadSize j.ctx.chroma ∧ ∀ x ∈ l, x < 2 ^ j.tile.cod.bitDepth)
    ∧ (s.issue e 7 1 desc = (t, some (j, d)) → g.c.floor ≠ 0 →
      exec (.iqRec e desc) s = .next (if d.quad = 0 then t.floorRecon e j else t))
    ∧ (s.issue e 7 2 desc = (t, some (j, d)) → exec (.iqFlr e desc) s = .next (t.floorRecon e j))
    ∧ (s.issue e 8 1 desc = (t, some (j, d)) → exec (.lfDbk e desc) s = .next (t.filterQuad e j d 1 []))
    ∧ (s.issue e 8 2 desc = (t, some (j, d)) → g.c.floor = 0 → bitOf j.tile.cod.tools 0 = true →
      exec (.lfSao e desc) s = .next (t.filterQuad e j d 2 []))
    ∧ (∀ u, s.issue e 9 1 desc = (t, some (j, d)) → g.c.floor = 0 → bitOf j.tile.cod.tools 1 = true →
      u = (t.latchFilter e j).alfNote e d →
      exec (.alAlf e desc) s = .next (u.filterQuad e j d 3 (j.alfSets (u.jobRec e j))))
    ∧ (s.issue e 9 2 desc = (t, some (j, d)) → g.r.derAt = none → ∃ n, exec (.alDer e desc) s =
      .next (t.setEngine e { g with r := { g.r with derAt := some t.cycle, derCtx := j.ctx.context, derived := 1 + n } }))
    ∧ (∀ a r, g.r.derAt = some a → a + 49152 ≤ t.cycle → g.record g.r.derCtx = some r →
      exec (.derComplete e) t = .next (t.setEngine e (Engine.setRecord { g with r := { g.r with derAt := none } } g.r.derCtx
        { r with filterNext := g.r.derived })))
    ∧ (s.issue e 10 1 desc = (t, some (j, d)) → g.c.floor = 0 →
      ∃ side bits bins byp ops, exec (.bnBin e desc) s = .next ((t.work e (fun c => { c with side := c.side + side })).addBits e
          (side + bits) ((cget {} g.c.tq d.quad).bins + bins) byp (opTiming 10 1 j.chromaClass).1 true ops)
        ∧ side ≤ sideBits - g.c.side ∧ bins ≤ sideBins / 16
        ∧ ((cget {} g.c.tq d.quad).bins ≤ (cget {} g.c.tq d.quad).bound → bits ≤ (cget {} g.c.tq d.quad).bound))
    ∧ (∀ u, s.issue e 10 2 desc = (t, some (j, d)) → u = t.enterRow e j →
      ((vget u.engines e).r.sliceOpen = true → exec (.bnSlh e desc) s = .next u)
      ∧ ((vget u.engines e).r.sliceOpen = false → ∃ n, exec (.bnSlh e desc) s = .next (State.openSlice (u.setEngine e
          { vget u.engines e with r := { (vget u.engines e).r with entropy := n } }) e j)))
    ∧ (s.issue e 10 3 desc = (t, some (j, d)) → exec (.bnFlr e desc) s = .next (t.floorBin e j))
    ∧ (s.issue e 10 4 desc = (t, some (j, d)) → exec (.bnEos e desc) s = .next (t.endRow e j))
    ∧ (∀ x, s.issue e 11 1 desc = (t, some (j, d)) → (g.q.floor = false ∨ g.q.inBlock = false) → d.quad ≠ 15 →
      x = crfQuad j.ctx.chroma ((g.c.outQuad d.quad).map (crfSample j.tile.cod.bitDepth)) →
      exec (.rwCrf e desc) s = .next (t.work e (fun c => { c with crf := { c.crf with
        units := lset 0 c.crf.units d.quad x.1, raw := lset false c.crf.raw d.quad x.2 } })))
    ∧ (s.issue e 11 1 desc = (t, some (j, d)) → g.q.floor = true → g.q.inBlock = true →
      exec (.rwCrf e desc) s = .next (t.stageCrf e j))

/-- DR.RD, DW.WR, the substitution of a frozen word and a cue memory fault complete (R73, R79, R81, R83, R84, R94, R95): a
read that issues asks, under its tag, for the byte ranges of its plan, which for a record and for a class 2 read that no
layer masks is the descriptor's; a substitution sets every late tag arrived and not valid, and adds the freeze to the
lateness; a single-bit error is corrected and counted, and a double-bit one ends the slot. -/
def Obligations.DmaCompletes : Prop :=
  ∀ (s : State) (e : Fin 16),
    (∀ desc t j d p, s.issueDma e 12 desc = (t, some (j, d)) → p = t.readPlan j (vget t.engines e) d →
      exec (.drRd e desc) s = .next ((t.setEngine e p.1).issueRead e d.tag p.2 d)
      ∧ (d.cls = 4 ∨ d.cls = 2 ∧ d.dest ≠ 3 →
        p = (vget t.engines e, [(t.dmaAddress j (vget t.engines e) d, 64 * d.length)])))
    ∧ (∀ desc t j d g, s.issueDma e 13 desc = (t, some (j, d)) → g = vget t.engines e →
      (d.cls = 0 → exec (.dwWr e desc) s = .next (t.writeCrf e j (t.writeAddress j g d)))
      ∧ (d.cls = 1 → exec (.dwWr e desc) s = .next (t.writeLevels e j (t.writeAddress j g d) d.length))
      ∧ (d.cls = 2 ∨ d.cls = 3 ∨ d.cls = 5 →
        exec (.dwWr e desc) s = .next (t.issueWrite e j.ctx.context d.cls (t.dmaAddress j g d) (64 * d.length)).1))
    ∧ (∀ j f, s.job e = some j → (vget s.engines e).q.frozenAt = some f →
      f + (j.slot.phi - (vget s.engines e).q.frz) ≤ s.cycle →
      ∃ u, exec (.substitution e) s = .next u ∧ (vget u.engines e).q.frozenAt = none
        ∧ (vget u.engines e).q.lateness = satAdd 32 (vget s.engines e).q.lateness (j.slot.phi - (vget s.engines e).q.frz)
        ∧ (vget u.engines e).q.frz = j.slot.phi ∧ (vget u.engines e).q.noFreeze = true
        ∧ (vget u.engines e).n.substs =
          satAdd 32 (vget s.engines e).n.substs ((vget s.engines e).lateTags j.tab).length
        ∧ (cwf {} (vget s.engines e).tags = true → ∀ k ∈ (vget s.engines e).lateTags j.tab,
          (cget {} (vget u.engines e).tags k).arrived = true ∧ (cget {} (vget u.engines e).tags k).valid = false))
    ∧ (∀ j memory address bad, s.job e = some j →
      (∃ u, exec (.cueEccFault e memory address (.double bad)) s = .next u ∧ (vget u.engines e).q.inSlot = false)
      ∧ exec (.cueEccFault e memory address .single) s = .next (State.raise (s.setEngine e { vget s.engines e with
          n := { (vget s.engines e).n with eccFixed := satAdd 32 (vget s.engines e).n.eccFixed 1 } })
        (s.ev (644 + e.val) 0x0001 [(1, memory), (4, address)])))

/-! ### Flow -/

/-- Segments and tasks complete (R246 to R252): an open reserves its room in the chunk store or loses the slice's rest,
a close sends a task with the bytes up to the segment's end, the slice's last task also its row's end, and a ready task
goes to the ladle that may take it. -/
def Obligations.TasksComplete : Prop :=
  ∀ (s : State),
    (∀ (e : Fin 16) g k rest p c q, g = (vget s.engines e).code s.cycle → g.chunk.slices = k :: rest →
      s.sliceAt k = some (p, c, q) → g.chunk.segOpen = false → g.chunk.lost = false →
      exec (.segmentOpen e) s = .next (s.setEngine e { g with chunk :=
        if g.chunk.used + q.segmentRoom ≤ 131072 then
          { g.chunk with segOpen := true, used := g.chunk.used + q.segmentRoom }
        else { g.chunk with lost := true } }))
    ∧ (∀ (e : Fin 16) g k rest p c q size stop task, g = (vget s.engines e).code s.cycle → g.chunk.slices = k :: rest →
      s.sliceAt k = some (p, c, q) → g.chunk.lost = false → g.chunk.segOpen = true → k.closable q g.chunk.done = true →
      size = (if k.whole then k.bytes else k.bytesNow) → stop = q.segmentEnd size g.chunk.done →
      task = { chunkTask c k (s.framesAgo k.frameTick) e with
        bytes := stop - g.chunk.done, stored := stop - g.chunk.done, nal := size, start := g.chunk.done, parts := k.parts } →
      (k.whole = false ∨ stop ≠ size → exec (.segmentClose e) s = .next (State.newTask
        (s.setEngine e { g with chunk := { g.chunk with
          segOpen := false, done := stop, used := g.chunk.used - q.segmentRoom + (stop - g.chunk.done) } }) task))
      ∧ (k.whole = true → stop = size → exec (.segmentClose e) s = .next (State.newTask
        ((s.setEngine e { g with chunk := { g.chunk with
          segOpen := false, done := 0, used := g.chunk.used - q.segmentRoom + (stop - g.chunk.done), slices := rest } }).noteFloor k)
        (task.ends c k))))
    ∧ (∀ t l, s.flow.tasks = [t] → s.flow.waits t = true → s.ladleFor t = some l → s.flow.dispAt ≠ some s.time.fclk →
      exec .taskDispatch s = .next (s.dispatchTo t l))
    ∧ (∀ stream t l, s.flow.tasks.find? (fun x => x.stream == stream && s.flow.waits x) = some t →
      s.flow.dispAt ≠ some s.time.fclk → t.readyAt + tickOf (s.prodAgo t.ago).affinity ≤ s.time.fclk → s.ladleFor t = some l →
      exec (.affinityWaitExpiry stream) s = .next (s.dispatchTo t l))
    ∧ (∀ p, s.running = some p → s.evt.copies ≠ [] →
      32 ≤ s.evt.copies.length ∨ s.evt.lastTask + 800000 ≤ s.time.fclk →
      ∃ u, exec .eventTask s = .next u ∧ u.evt.copies = s.evt.copies.drop 32 ∧ u.evt.lastTask = s.time.fclk)
    ∧ (∀ link channel stamp payload p i,
      s.hasMsg link 5 0x50 (ancillaryBytes channel stamp payload) (reserved [(2, 6)]) = true →
      s.running = some p → p.streamOf 3 channel = some i →
      exec (.ancillary link channel stamp payload) s = .next ((s.popInbox link 5).newTask
        { kind := .ancillary, stream := i, queue := (p.streams.getD i {}).queue, payload := payload, bytes := payload.length
          stamp := stamp + (p.streams.getD i {}).delay, time90 := stamp * 90000 / 1000000000 }))

/-- Ladles and queues complete (R252, R262 to R269): a packet or the task's end, a truncation, a gap marker at its stamp, a
ladle's fault and its retry, the moves of the stockpot and a refill that lands. -/
def Obligations.LadlesAndQueuesComplete : Prop :=
  ∀ (s : State),
    (∀ l t, s.ladleTask l = some t → t.trunc = none → (vget s.flow.ladles l).packets = [] →
      (vget s.flow.ladles l).busyTo ≤ s.time.fclk → exec (.packetCommit l) s = .next (s.endTask l t))
    ∧ (∀ l t c rest, s.ladleTask l = some t → t.trunc = none → (vget s.flow.ladles l).packets = c :: rest →
      exec (.packetCommit l) s = .next (s.buildPacket l t c rest))
    ∧ (∀ q g, (s.queue q).gap = some g → g.stamp ≤ s.now →
      exec (.gapMarkerCommit q) s = .next (s.commitGap q))
    ∧ (∀ l t, s.ladleTask l = some t → t.retried = false →
      exec (.ladleFault l false) s = .next (State.raise
        ((s.setLadle l { vget s.flow.ladles l with
            busyTo := s.time.fclk + 96, packets := (vget s.flow.ladles l).all, redo := t.built }).setTask
          { t with retried := true, rebuilt := t.built + 1 })
        (s.ev (660 + l.val) 0x0020 [(2, t.stream), (1, t.kind.code), (1, 0), (1, 0)])))
    ∧ (∀ l t, s.ladleTask l = some t → t.retried = true →
      exec (.ladleFault l false) s = .next ((s.giveUp l t).raise
        (s.ev (660 + l.val) 0x0020 [(2, t.stream), (1, t.kind.code), (1, 0), (1, 1)])))
    ∧ (∀ l t c rest, s.ladleTask l = some t → (vget s.flow.ladles l).packets = c :: rest →
      (s.strm t.sid).expects t = false →
      exec (.ladleFault l true) s = .next (s.abortPacket l t c rest))
    ∧ (∀ l t, t.trunc = none → ((vget s.flow.ladles l).rest (s.taskStrm t)).1 = 0 → s.giveUp l t = s.endTask l t)
    ∧ (∀ l t n b, s.ladleTask l = some t → t.trunc = some (n, b) → (vget s.flow.ladles l).busyTo + 8 ≤ s.time.fclk →
      (vget s.flow.ladles l).packets ≠ [] →
      exec (.packetCommit l) s = .next (State.commitGap
        (State.addGap ((s.setLadle l { vget s.flow.ladles l with busyTo := (vget s.flow.ladles l).busyTo + 8 }).setTask
            { t with trunc := none }) t.queue t.ago n b (s.strm t.sid).rtpSeq 2 t.stamp t.rowAt)
        t.queue))
    ∧ (∀ q, exec (.stockpotMove q) s = .next (((s.moveTail q).issueRefill q).promote q))
    ∧ (∀ q i rest n, (s.queue q).refill = i :: rest → s.refillIn q = true → (s.queue q).refillBad = false →
      n = ((i :: rest).filter (fun y => decide (y.release < s.now))).length →
      exec (.stockpotRefillLand q false) s = .next (State.promote (State.raiseAll
        (s.setQueue q { s.queue q with head := (s.queue q).head ++ (s.queue q).refill, refill := [], refillBad := false
                                       late := satAdd 32 (s.queue q).late n })
        (evIf (decide (i.release < s.now)) (s.ev (queueSource q) 0x0603 [(2, q), (4, i.seq.toNat), (4, s.now - i.release)]))) q))
    ∧ (∀ q i rest m p, (s.queue q).refill = i :: rest → s.refillIn q = true → (p || (s.queue q).refillBad) = true →
      m = faultMarker (s.queue q).refill →
      exec (.stockpotRefillLand q p) s = .next (State.promote (State.raiseAll
        (s.setQueue q { s.queue q with head := (s.queue q).head ++ [m], refill := [], refillBad := false
                                       late := satAdd 32 (s.queue q).late (boolNat (decide (m.release < s.now))) })
        (s.ev (queueSource q) 0x0601 [(2, q), (4, i.seq.toNat), (4, rest.length + 1), (1, 3)]
          :: evIf (decide (i.release < s.now)) (s.ev (queueSource q) 0x0603 [(2, q), (4, i.seq.toNat), (4, s.now - i.release)]))) q))

/-- Egress completes (R57, R277, R278, R280, R282, R494, R501): one selection a cycle on a lead that is not fenced, after
which queues that have drained are disabled, the refill
for every microsecond that has passed, the gate of the present instant, and an acknowledgement on the lead. -/
def Obligations.EgressCompletes : Prop :=
  ∀ (s : State),
    (∀ p u w, s.up = true → s.running = some p → s.twin.role ≠ 2 → s.twin.fenced = false → s.flow.selAt ≠ some s.time.fclk →
      u = (State.backlogs { s with flow := { s.flow with selAt := some s.time.fclk } }).confirmLate →
      w = (match u.select with | none => u | some q => u.release q) →
      exec .egressSelect s = .next ((ckeys w.flow.queues).foldl State.endDrain w))
    ∧ (∀ p, s.running = some p → s.now / 1000 - s.flow.lastRefill ≠ 0 →
      exec .shaperRefill s = .next ((ckeys s.flow.queues).foldl
        (State.refill (s.now / 1000 - s.flow.lastRefill) (s.now / 1000))
        { s with flow := { s.flow with lastRefill := s.now / 1000 } }))
    ∧ (∀ p, s.running = some p → p.gcl ≠ [] → exec .gateEntryChange s =
      .next { s with flow := { s.flow with gate := (p.gateAt s.now).1, gateAt := (p.gateAt s.now).2 } })
    ∧ (∀ link q epoch next, s.hasMsg link 4 0x41 (leBytes 2 q ++ leBytes 2 epoch.toNat ++ leBytes 4 next.toNat) = true →
      s.twin.role ≠ 2 → q < 576 →
      exec (.egressAck link q epoch next) s = .next (((s.popInbox link 4).takeAck q epoch next).ackEpoch epoch))

/-! ### Links -/

/-- Flits complete on an ACTIVE link (R295, R300, R319 to R325, R331): a bad flit asks for a replay and changes no
sequence, the sender sends its next flit, a replay times out once, and a starved channel is reported once. -/
def Obligations.FlitsComplete : Prop :=
  ∀ (s : State) (i : Fin 12) (l : Link), l = vget s.links i →
    (∀ bits d, l.state = 8 ∨ l.state = 9 → d = l.descramble bits → flitGood d.2 = false → l.badRun < 15 →
      exec (.flitReceive i bits [] []) s = .next (s.setLink i (Link.askReplay { d.1 with badRun := l.badRun + 1 })))
    ∧ (∀ bits d, l.state = 8 ∨ l.state = 9 → d = l.descramble bits → flitGood d.2 = false → l.badRun = 15 →
      exec (.flitReceive i bits [] []) s =
        .next (State.retrain (s.setLink i (Link.askReplay { d.1 with badRun := 16 })) i 1))
    ∧ (∀ bits d r, l.state = 8 ∨ l.state = 9 → d = l.descramble bits → flitGood d.2 = true →
      r = d.1.takeGood d.2 s.time.fclk s.time.tick → r.1.badRun < 16 → d.1.nakExhausts d.2 s.time.fclk = false →
      exec (.flitReceive i bits [] []) s = .next ((s.setLink i r.1).raiseAll (r.2.map (fun u =>
        s.ev (632 + i.val) 0x0718 [(2, (d.2.extractLsb' 24 3).toNat), (1, u.1), (4, u.2)]))))
    ∧ (l.state = 8 → exec (.flitSend i) s = .next (s.setLink i (l.nextFlit s.time.fclk)))
    ∧ (l.state = 8 → l.replay ≠ [] → l.ackTick + 3200 ≤ s.time.fclk → l.replays4 < 4 ∨ l.replayFrom ≠ l.una →
      exec (.replayTimeout i) s = .next (s.setLink i (l.startReplay s.time.fclk)))
    ∧ (l.state = 8 → l.replay ≠ [] → l.ackTick + 3200 ≤ s.time.fclk → 4 ≤ l.replays4 → l.replayFrom = l.una →
      exec (.replayTimeout i) s = .next (s.retrain i 2))
    ∧ (∀ (vc : Fin 8) t type body rest, vget l.waitFrom vc = some t → vget l.txQueue vc = (type, body) :: rest →
      t + 80000 ≤ s.time.fclk → vget l.starved vc = false →
      exec (.creditStarved i vc) s = .next ((s.setLink i { l with starved := vset l.starved vc true }).raise
        (s.ev (632 + i.val) 0x0719 [(2, vc.val), (4, msgCredits body.length),
          (4, (vget l.held vc + 65536 - vget l.spent vc) % 65536)])))
    ∧ (l.ckLock = true → exec (.ckLost i) s = .next (State.retrain
      ((s.setLink i { l with ckLock := false }).raise (s.ev (608 + i.val) 0x0704 [(1, l.state)])) i 0))

/-- Training completes state by state (R303 to R307, R333, R334): DETECT to CLOCK_LOCK, to DESKEW, to ADAPT, to VERIFY, the
pass, the capability exchange's refusal of an old version, a limit that expires, ACTIVE or HELD_IDLE, and a dark link's
retry with its doubled wait. -/
def Obligations.TrainingCompletes : Prop :=
  ∀ (s : State) (i : Fin 12) (l : Link), l = vget s.links i →
    (l.state = 1 → l.since + 8000 ≤ s.time.fclk → s.time.fclk < l.since + limitMost 1 l.rate →
      exec (.partnerCkDetect i) s = .next (s.setLink i (l.beginAttempt 0 s.time.fclk)))
    ∧ (l.state = 2 → s.time.fclk < l.since + limitMost 2 l.rate →
      exec (.clockLock i) s = .next ((s.setLink i { l with state := 3, ckLock := true, since := s.time.fclk }).raise
      (s.ev (608 + i.val) 0x0705 [(1, l.rate)])))
    ∧ (∀ found, l.state = 3 → s.time.fclk < l.since + limitMost 3 l.rate →
      l.entryLanes l.attempt ≤ (l.alignedOf found).length →
      exec (.deskew i found) s = .next (s.setLink i { l with
        state := 4, since := s.time.fclk, rxLanes := maskOf (l.alignedOf found)
        rx := Vector.ofFn (fun n =>
          if (l.alignedOf found).contains n then { vget l.rx n with aligned := true, drift := false }
          else { vget l.rx n with aligned := false })
        tx := l.tx.map (fun t => { t with preset := t.next }) }))
    ∧ (∀ trained, l.state = 4 → l.since + 1600000 ≤ s.time.fclk →
      exec (.adaptEnd i trained) s = .next (s.setLink i { l with
        state := 5, since := s.time.fclk
        rx := trained.foldl (fun v p => vmod v p.1 (fun x =>
          { x with now := codesIn p.2, trained := codesIn p.2, good := 0 })) l.rx }))
    ∧ (∀ lane block, 2 ≤ l.state → l.state ≤ 7 → blockGood block = true →
      (block.extractLsb' 24 8).toNat ≤ l.attempt →
      exec (.trainingBlock i lane block false) s =
        .next (s.setLink i ((l.passBlock lane block).takeBlock lane block s.time.fclk)))
    ∧ (l.state = 5 → l.ownOk = false → l.okSent = true → l.partnerOk = true → s.time.fclk < l.since + limitMost 5 l.rate →
      l.verified.length = (lanesOf l.rxLanes).length →
      exec (.verifyPass i) s = .next (
        if (lanesOf l.rxLanes).all (fun n => !bitOf (Config.eyeErrors s.free) n.val)
        then s.fresh.setLink i (l.afterVerify s.time.fclk)
        else s.fresh.failAttempt i ((lanesOf l.rxLanes).filter (fun n => bitOf (Config.eyeErrors s.free) n.val))))
    ∧ ((l.afterVerify s.time.fclk).ownOk = true ∧ (l.afterVerify s.time.fclk).passed = l.rxLanes
      ∧ (l.afterVerify s.time.fclk).state = (if l.retrain || l.stepped then l.state else 6))
    ∧ (∀ word, l.state = 6 → word = l.capWord → 16 ≤ l.capCount → 16 ≤ l.capSent →
      s.time.fclk < l.since + limitMost 6 l.rate → (word.extractLsb' 0 8).toNat < 0x10 →
      exec (.capability i word) s = .next (State.raiseAll
        (s.setLink i (Link.goDark { l with version := 0 } s.time.fclk))
        [s.ev (632 + i.val) 0x071A [(1, (word.extractLsb' 0 8).toNat)], s.ev (632 + i.val) 0x0713 [(2, l.wait)]]))
    ∧ (∀ word, l.state = 6 → word = l.capWord → 16 ≤ l.capCount → 16 ≤ l.capSent →
      s.time.fclk < l.since + limitMost 6 l.rate → 0x10 ≤ (word.extractLsb' 0 8).toNat →
      ∃ m, exec (.capability i word) s = .next (s.setLink i m) ∧ m.version = min (word.extractLsb' 0 8).toNat 0x20
        ∧ m.stepped = true ∧ m.state = 2)
    ∧ (1 ≤ l.state → l.state ≤ 6 → l.state ≠ 4 → l.since + limitTicks l.state l.rate ≤ s.time.fclk →
      ¬ (l.state = 5 ∧ l.ownOk = true) →
      exec (.trainingLimitExpiry i) s = .next (s.failAttempt i l.lateLanes))
    ∧ (l.state = 5 → l.retrain = true ∨ l.stepped = true → l.ownOk = true → l.partnerOk = true → l.lastSeen = true →
      ∃ u, exec (.linkActive i) s = .next u ∧ (vget u.links i).state = (if s.heldIdle i then 9 else 8)
        ∧ (vget u.links i).everActive = true ∧ (vget u.links i).lastRate = l.rate ∧ (vget u.links i).wait = 1)
    ∧ (l.state = 10 → l.next ≤ s.time.fclk →
      exec (.darkRetry i) s = .next (s.setLink i { l.fullTraining s.time.fclk with wait := min 64 (2 * l.wait) }))

/-- The happenings of link tests complete (R311, R314): a scan that has had its time for all 4,096 points writes its 32-bit
counts into the buffer it named, completes its command and raises EYE_DONE; and in a link that is under test a checker
locks, and a locked one loses lock, with its counts. -/
def Obligations.LinkTestsComplete : Prop :=
  ∀ (s : State) (i : Fin 12) (l : Link), l = vget s.links i →
    (∀ e counts, l.eye = some e → 4096 ≤ e.pointsAt l.rate s.time.fclk →
      exec (.eyeDone i counts) s = .next (State.raise (State.finishLong
          ((s.setLink i { l with eye := none }).setBulk e.offset
            ((List.range (4096 * (lanesOf e.lanes).length)).flatMap (fun n => leBytes 4 (min (counts.getD n 0) (2 ^ 32 - 1)))))
          e.mb (ok (leBytes 4 4096)))
        (s.ev (632 + i.val) 0x0715 [(1, e.lanes), (4, 4096), (2, 0)])))
    ∧ (∀ lane t c, l.test = some t → c = vget t.check lane → bitOf l.rxLanes lane.val = true → bitOf t.lanes lane.val = true →
      c.locked = false → 64 ≤ bitsIn (s.time.fclk - c.from_) l.rate →
      exec (.patternLock i lane) s =
        .next (s.setChecker i t lane { c with locked := true, from_ := s.time.fclk, seen := 0 }))
    ∧ (∀ lane t c errors bits, l.test = some t → c = vget t.check lane → c.locked = true → 16 ≤ c.seen + errors →
      bits ≤ bitsIn (s.time.fclk - c.from_) l.rate →
      exec (.patternLockLost i lane errors bits) s = .next (s.setChecker i t lane
        { bits := satAdd 48 c.bits bits, errors := satAdd 48 c.errors errors, lost := satAdd 32 c.lost 1
          locked := false, from_ := s.time.fclk, seen := 0 }))

/-! ### Pictures, composition and swap -/

/-- Ingest and composition complete (R32, R140 to R147, R197, R207, R210 to R212, R326, R343, R349, R350, R353, R424): a frame
mark is sent on the source's links and passed to its contexts, a line is taken or discarded as at its delivery, a window that
has closed settles its row, a content latch takes the layers, a graphic packet is written, refused or not accepted, a commit
packet switches the pair or changes nothing, a former front buffer is released, and a preview line goes out. -/
def Obligations.PicturesComplete : Prop :=
  ∀ (s : State),
    (∀ source p q n, s.up = true → s.prodAt s.time.tick = some p → p.source source = some q →
      isMark (q.rateNum, q.rateDen) s.time.tick = true → n = markIndex q.rateNum q.rateDen s.time.tick →
      exec (.frameMark source) s = .next ((p.contexts.filter (fun c => c.source == source)).foldl
        (fun (t : State) c => t.contextMark p c n) (s.sayMark q source n)))
    ∧ (∀ (link : Fin 12) m, s.hasMsg link 2 0x20 (lineMsgBytes m) (reserved [(11, 5)]) = true →
      exec (.line link m) s = .next ((s.atDelivery link 2 (fun t => t.lineComes link m false)).popInbox link 2))
    ∧ (∀ (link : Fin 12) m, s.hasMsg link 2 0x20 (lineMsgBytes m) (reserved [(11, 5)]) = false → m.data = [] →
      s.hasShort link 2 0x20 (lineMsgBytes m) (reserved [(11, 5)]) = true →
      exec (.line link m) s = .next ((s.atDelivery link 2 (fun t => t.lineComes link m true)).popInbox link 2))
    ∧ (∀ (link : Fin 12) m q p q' n, s.up = true → s.lineSource m = some q → q.rejects link m = none →
      s.lineFrame m = some (p, q', n) → s.lineComes link m false = s.takeLine p q' n m)
    ∧ (∀ (link : Fin 12) m q cause, s.lineSource m = some q → q.rejects link m = some cause →
      s.lineComes link m false = s.rejectLine link m (some q) cause)
    ∧ (∀ (link : Fin 12) m short, s.lineSource m = none → s.lineComes link m short = s.rejectLine link m none 0)
    ∧ (∀ context tile row p c n, s.up = true → s.closing context tile row = some (p, c, n) →
      exec (.windowClose context tile row) s = .next (s.closeRow p c n tile row))
    ∧ (∀ context p, s.startsNow context = some p → s.slotsRun p.ctx p.frame = true →
      exec (.contentLatch context) s = .next (s.contentLatchAt p.prod p.ctx p.frame s.time.tick))
    ∧ (∀ (link : Fin 12) pair off data u, s.hasMsg link 5 0x51 (leBytes 2 pair ++ [0, 0] ++ leBytes 4 off ++ data)
        (reserved [(2, 2)]) = true → u = s.popInbox link 5 →
      (s.running.bind (fun p => p.pairs[pair]?) = none → exec (.graphicWrite link pair off data) s = .next u)
      ∧ (∀ p y g buf, s.running = some p → p.pairs[pair]? = some y → g = cget {} s.pairs pair →
        buf = writeBytes (g.buf (1 - g.front)) off (data.take (y.stride * y.height - off)) →
        exec (.graphicWrite link pair off data) s = .next (
          if g.backFree = false then u.raise (s.ev (632 + link.val) 0x071C [(2, pair), (4, data.length)])
          else if s.ddr.hasRoom 21 data.length = false then u.portFull 21 data.length
          else { u with
            pairs := cset {} s.pairs pair (if g.front = 0 then { g with buf1 := buf } else { g with buf0 := buf })
            ddr := s.ddr.writeRole 21 (p.region 5 (2 * pair + (1 - g.front)) + off) data.length s.time.fclk })))
    ∧ (∀ (link : Fin 12) pair u g, s.hasMsg link 5 0x52 (leBytes 2 pair ++ List.replicate 6 0) (reserved [(2, 6)]) = true →
      u = s.popInbox link 5 → g = cget {} s.pairs pair →
      exec (.graphicCommitPacket link pair) s = .next (
        if pair < (s.running.map (fun p => p.pairs.length)).getD 0 ∧ g.backFree = true then
          { u with pairs := cset {} s.pairs pair { g with front := 1 - g.front, committed := true, backFree := false } }
        else u))
    ∧ (∀ pair g, g = cget {} s.pairs pair → g.backFree = false → s.heldBy 2 pair (1 - g.front) = false →
      exec (.graphicReleased pair) s = .next (State.raiseAll { s with pairs := cset {} s.pairs pair { g with backFree := true } }
        ((((s.running.map (fun p => p.showsPair pair)).getD []).take 1).map (fun c => s.ev c.context 0x0407 [(2, pair)]))))
    ∧ (∀ context line p c n set link, s.previewFrame context line = some (p, c, n) → set = p.sets.getD c.layers {} →
      finOf 12 set.prevLink = some link → set.preview = true → s.up = true → s.twin.role ≠ 2 →
      exec (.previewLineSend context line) s = .next (s.sendPreview c set link n line))

/-- A swap completes (R9, R50, R55, R482): 200 µs before the cue point the green room closes, and at the cue point the
admitted production runs, SWAPPED names the old and the new one with the cue point as its stamp, and the green room
empties. -/
def Obligations.SwapCompletes : Prop :=
  ∀ (s : State),
    (s.up = true → s.green.state = 4 → s.green.cuePoint ≤ s.now + 200000 →
      exec .swapping s = .next (s.greenTo { s.green with state := 5 }))
    ∧ (∀ p, s.green.prod = some p → s.up = true → s.green.state = 5 → s.green.cuePoint ≤ s.now →
      exec .swap s = .next (((s.swapTo p s.green.cuePoint).greenTo { detail := s.green.detail }).raise
        ⟨825, 0x0224, s.green.cuePoint, evData [(4, (s.running.map (·.id)).getD 0), (4, p.id)]⟩)
      ∧ (s.swapTo p s.green.cuePoint).running = some p)

/-! ### Audio -/

/-- The audio happenings complete (R228 to R242, R351, R352): a group's frame counts by one and its ports take and give
their words, new clocks begin at their boundary, a message's samples are taken or counted as not taken, a link sample that
did not come is zero in the routes whose window has closed, changes apply at their crossing or time-out, PCM resumes, a port
settles, and a group's clock stops. -/
def Obligations.AudioCompletes : Prop :=
  ∀ (s : State),
    (∀ (group : Fin 4) inputs p g n u, g = vget s.audio.groups group → s.running = some p → s.up = true → g.running = true →
      n = g.index + 1 → onSampleEdge (audioFs g.rate) n s.time.tick = true → g.next = none →
      u = State.audioTasks { s with audio := { s.audio with
        groups := vset s.audio.groups group { g with index := n, stopAt := g.stopAt.map (· - 1) }
        out := s.audio.out.filter (fun y => y.1 / 8 != group.val) } } p →
      exec (.audioFrame group inputs) s = .next (if (p.groups.getD group.val {}).enable = 0 then u
        else (groupPorts group).foldl (fun (t : State) i => t.portFrame p g.framing n inputs i) u))
    ∧ (∀ (group : Fin 4) inputs p g rate framing, g = vget s.audio.groups group → s.running = some p → s.up = true →
      g.running = true → onSampleEdge (audioFs g.rate) (g.index + 1) s.time.tick = true → g.next = some (rate, framing) →
      exec (.audioFrame group inputs) s = .next { s with audio := { s.audio with
        groups := vset s.audio.groups group { g.clocked rate framing with
          next := none, index := sampleAt (audioFs rate) s.time.tick } } })
    ∧ (∀ link m, s.hasMsg link 3 0x30 (audioBytes m) (reserved [(4, 4)]) = true →
      exec (.audio link m) s = .next ((s.atDelivery link 3 (fun t => t.audioComes link m false)).popInbox link 3))
    ∧ (∀ (link : Fin 12) m p, s.running = some p → s.up = true →
      1 ≤ m.channelCount → m.channelCount ≤ 64 → p.takesAudio link.val m = true →
      s.audioComes link m false = State.audioTasks (m.frames.zipIdx.foldl (fun (t : State) f =>
        (List.range m.channelCount).foldl (fun (t : State) i =>
          t.linkSample p m.rate (m.firstChannel + i) (m.index + f.2) (linkWord (f.1.getD i 0))) t) s) p)
    ∧ (∀ (link : Fin 12) m p, s.running = some p → s.up = true →
      m.channelCount < 1 ∨ 64 < m.channelCount ∨ p.takesAudio link.val m = false →
      s.audioComes link m false = s.linkLate m.firstChannel 0 (max 1 (m.frames.length * m.channelCount)))
    ∧ (∀ channel index p c, s.running = some p → p.channels.find? (fun c => c.channel == channel) = some c → s.up = true →
      s.time.tick ≤ sampleTick (audioFs c.rate) index + tickOf (p.chanLag channel) + 800000 →
      s.linkDue p c.rate channel index = true →
      exec (.linkSampleWindowClose channel index) s = .next (State.audioTasks (s.closeLink p c.rate channel index) p))
    ∧ (∀ p pair (i : Fin 32), s.running = some p → pair = i.val → (vget s.audio.ports i).nonpcm = true →
      8192 ≤ (vget s.audio.ports i).quiet →
      exec (.audioPcmResumed false pair) s = .next (State.raise
        { s with audio := Audio.releasePair { s.audio with
            ports := vset s.audio.ports i { vget s.audio.ports i with nonpcm := false, quiet := 0 } } p pair s.time.tick }
        (s.ev (676 + i.val) 0x0502 [(2, pair), (8, (s.audio.groups.toList.getD (pair / 8) {}).index)])))
    ∧ (∀ p pair, s.running = some p → 8193 ≤ cget 0 s.audio.chanNonpcm pair →
      exec (.audioPcmResumed true pair) s = .next (State.raise
        { s with audio := Audio.releasePair { s.audio with chanNonpcm := cset 0 s.audio.chanNonpcm pair 0 } p (32 + pair)
                                    s.time.tick }
        (s.ev 821 0x0502 [(2, pair),
          (8, sampleAt (audioFs ((p.channels.find? (fun c => c.channel == 2 * pair)).getD {}).rate) s.time.tick)])))
    ∧ (∀ route p r x n, s.routeAt route = some (p, r) → x = cget {} s.audio.routes route → x.crossing = some n →
      exec (.audioChangeApply route) s = .next { s with audio := { s.audio with
        routes := cset {} s.audio.routes route (x.apply (s.audio.muted r.chan) n) } })
    ∧ (∀ route p r x n, s.routeAt route = some (p, r) → x = cget {} s.audio.routes route → x.pending.isSome = true →
      x.crossing = none → n = ceilDiv (x.close * audioFs (p.srcRate r)) 800000000 →
      sampleTick (audioFs (p.srcRate r)) n + (if r.srcKind = 1 then tickOf r.lag else 0) ≤ s.time.tick →
      exec (.audioChangeTimeout route) s = .next (State.raise { s with audio := { s.audio with
        routes := cset {} s.audio.routes route (x.apply (s.audio.muted r.chan) n) } }
        (s.ev (if r.srcKind = 0 then 676 + r.src / 2 else 821) 0x0506 [(2, route), (8, n)])))
    ∧ (∀ (port : Fin 32) c, (vget s.audio.ports port).settle = 1 → (vget s.audio.ports port).cause = some c →
      exec (.audioRestarted port) s = .next (State.raise
        (s.setPort port { vget s.audio.ports port with settle := 0, cause := none })
        (s.ev (676 + port.val) 0x0504 [(1, c), (8, (s.audio.groups.toList.getD (port.val / 8) {}).index + 1)])))
    ∧ (∀ port : Fin 32, (vget s.audio.ports port).settle = 1 → (vget s.audio.ports port).cause = none →
      exec (.audioRestarted port) s = .next (s.setPort port
        { vget s.audio.ports port with settle := 0, cause := none }))
    ∧ (∀ group : Fin 4, (vget s.audio.groups group).stopAt = some 0 →
      exec (.audioClockStop group) s = .next { s with audio := { s.audio with groups := vset s.audio.groups group {} } })

/-! ### DDR5 -/

/-- The happenings of DDR5 complete (R84, R92, R96, R418 to R429): the first refresh window starts the grid, a later one counts
every interval that has begun and closes every row, a calibration and a reading of MR4 fall in a window, the picked request
issues and waiting record writes that have room follow, a write is queued or finds its queue full, a read returns to its
owner or to the scrub, the scrub's read joins the queue, and an ALERT re-issues or ends the checks. -/
def Obligations.DramCompletes : Prop :=
  ∀ (s : State),
    (s.ddr.state = 1 → s.ddr.windows = 0 → exec .refreshWindow s = .next { s with ddr := { s.ddr with
      windows := 1, window := s.time.fclk, subs := s.ddr.subs.map (fun c => { c with open_ := [] }) } })
    ∧ (∀ k, s.ddr.state = 1 → s.ddr.windows ≠ 0 → k = (s.time.fclk - s.ddr.window) / s.ddr.tRefi → k ≠ 0 →
      exec .refreshWindow s = .next { s with ddr := { s.ddr with
        windows := satAdd 64 s.ddr.windows k, window := s.ddr.window + k * s.ddr.tRefi
        subs := s.ddr.subs.map (fun c => { c with open_ := [] }) } })
    ∧ (s.ddr.state = 1 → s.ddr.refreshing s.time.fclk = true → s.ddr.lastZq + 102400000 ≤ s.time.fclk →
      exec .zqCalibration s = .next { s with ddr := { s.ddr with lastZq := s.time.fclk } })
    ∧ (∀ (sub : Fin 12) rank code conf hot i, s.ddr.state = 1 → (vget s.ddr.subs sub).state = 1 → rank < s.ddr.ranks →
      s.ddr.refreshing s.time.fclk = true → i = 2 * sub.val + rank →
      cget 0 s.ddr.mr4At i = 0 ∨ cget 0 s.ddr.mr4At i + 25599999 ≤ s.time.fclk → hot = decide (conf < code) →
      exec (.mr4Read sub rank code conf) s = .next (State.raiseAll { s with ddr := { s.ddr with
          hot := s.ddr.hot || hot, hotAt := cset false s.ddr.hotAt i hot, mr4At := cset 0 s.ddr.mr4At i (s.time.fclk + 1) } }
        (evIf (hot && !decide (s.ddr.hotAt ≠ [])) (s.ev 720 0x0918 [(1, sub.val), (1, rank), (1, code)]))))
    ∧ (∀ (sub : Fin 12) d, d = s.ddr.roll s.time.fclk → d.state = 1 → (vget d.subs sub).state = 1 →
      d.refreshing s.time.fclk = false → (vget d.subs sub).picked ≤ s.time.fclk →
      exec (.ddrSchedule sub) s = .next (match d.pick (vget d.subs sub) s.time.fclk with
        | none => s
        | some r => State.noteQueues { s with ddr := (d.issue sub r s.time.fclk).writeWaiting s.time.fclk } d))
    ∧ (∀ (sub : Fin 12) (d : Ddr) (r : Nat × Nat × DdrKind × Nat × Nat) t, (vget (d.issue sub r t).subs sub).queue
          = (vget d.subs sub).queue.filter (fun x => decide (x.1 ≠ r.1))
        ∧ (vget (d.issue sub r t).subs sub).issued
          = (if r.2.2.1 = DdrKind.read then (vget d.subs sub).issued ++ [r] else (vget d.subs sub).issued)
        ∧ (d.issue sub r t).data = d.data ∧ (d.issue sub r t).recs = d.recs ∧ (d.issue sub r t).waiting = d.waiting)
    ∧ (∀ (port : Fin 22) address data, exec (.ddrWriteRequest port address data) s = .next (
      if s.ddr.hasRoom port data.length = true then
        State.noteQueues { s with ddr := s.ddr.write port address data s.time.fclk } s.ddr
      else match finOf 16 port.val with
        | some e => (s.portFull port data.length).dropWrite e data.length
        | none => s.portFull port data.length))
    ∧ (∀ (sub : Fin 12) id err r v, (vget s.ddr.subs sub).issued.find? (fun r => decide (r.1 = id)) = some r →
      s.ddr.refreshing s.time.fclk = false → (∀ k e, s.ddr.servesOf id ≠ .scrub k e) →
      v = State.decode { s with ddr := s.ddr.returned sub r s.time.fclk } sub r.2.1 r.2.2.2.1 err 0 →
      exec (.ddrReadReturn sub id err) s = .next (v.1.landed (s.ddr.servesOf id) v.2))
    ∧ (∀ (sub : Fin 12) id err r k e, (vget s.ddr.subs sub).issued.find? (fun r => decide (r.1 = id)) = some r →
      s.ddr.refreshing s.time.fclk = false → s.ddr.servesOf id = .scrub k e →
      exec (.ddrReadReturn sub id err) s = .next (State.scrubbed
        (State.decode { s with ddr := s.ddr.returned sub r s.time.fclk } sub 0xFF r.2.2.2.1 e 3).1 sub k))
    ∧ (∀ (sub : Fin 12) err, s.ddr.state = 1 → (vget s.ddr.subs sub).state = 1 →
      s.ddr.scrubInterval ≤ s.time.fclk - (vget s.ddr.subs sub).scrubAt →
      ∃ d, exec (.patrolScrub sub err) s = .next { s with ddr := d }
        ∧ (vget d.subs sub).scrub = (if s.ddr.codewords ≤ (vget s.ddr.subs sub).scrub + 1 then 0
          else (vget s.ddr.subs sub).scrub + 1)
        ∧ (vget d.subs sub).scrubAt
          = s.time.fclk - (s.time.fclk - (vget s.ddr.subs sub).scrubAt) % s.ddr.scrubInterval
        ∧ d.data = s.ddr.data)
    ∧ (∀ (sub : Fin 12) c, c = vget s.ddr.subs sub → c.state = 1 → c.caParity = true ∨ c.writeCrc = true →
      exec (.ddrAlert sub) s = .next (
        if c.run < 4 then
          (s.setSub sub { c with
              alerts := satAdd 32 c.alerts 1, run := c.run + 1, replays := satAdd 32 c.replays 1 }).raise
            (s.ev (subSource sub) 0x0913 [(4, c.run + 1)])
        else
          ((s.setSub sub { c with alerts := satAdd 32 c.alerts 1 }).raise
            (s.ev (subSource sub) 0x0913 [(4, c.run)])).checksOff sub c.lastRank))

/-! ### Time, events, references -/

/-- House time and events complete (R345 to R347, R393, R394, R400, R401): an edge of PPS_IN in each mode, its loss, the
second a distribution link names, the read index, and the notification. -/
def Obligations.TimeAndEventsComplete : Prop :=
  ∀ (s : State),
    (∀ ps, ∃ u, exec (.ppsEdge ps) s = .next u ∧ u.time.ppsPresent = true ∧ u.time.ppsLost = false
      ∧ u.time.lastPpsAt = s.time.fclk ∧ u.time.tod = none)
    ∧ (∀ ps, s.edgeSets = none →
      ∃ u, exec (.ppsEdge ps) s = .next u ∧ u.time.tick = s.time.tick ∧ u.time.valid = s.time.valid
        ∧ u.time.lastPps = (1250 * s.time.tick + 10 * (ps % 1250 / 10)) / 1000)
    ∧ (∀ ps t, s.time.setAtEdge = some t → s.busyWithProduction = false →
      ∃ u, exec (.ppsEdge ps) s = .next u ∧ u.time.tick = tickOf t ∧ u.time.valid = true ∧ u.time.setAtEdge = none)
    ∧ (∀ ps sec, s.time.setAtEdge = none → s.time.valid = false → s.time.tod = some sec → s.busyWithProduction = false →
      ∃ u, exec (.ppsEdge ps) s = .next u ∧ u.time.tick = tickOf (sec * 1000000000) ∧ u.time.valid = true)
    ∧ (∀ ps sec, s.edgeSets = none → s.time.tod = some sec →
      s.time.prevSecond = none ∨ s.time.prevSecond = some (sec - 1) ∧ 0 < sec →
      ∃ u, exec (.ppsEdge ps) s = .next u
        ∧ u.time.errorPs = ((1250 * s.time.tick + 10 * (ps % 1250 / 10) : Nat) : Int) - 1000000000000 * (sec : Int)
        ∧ u.time.alarm = decide ((s.time.alarmNs : Int) * 1000 ≤ |u.time.errorPs|))
    ∧ (s.time.ppsLost = false → s.time.lastPpsAt + 1200000000 ≤ s.time.fclk →
      exec .ppsLost s = .next (State.raise { s with time := { s.time with ppsLost := true, ppsPresent := false } }
        (s.ev 799 0x0905 [(8, s.time.lastPps)])))
    ∧ (∀ (link : Fin 12) second, s.hasMsg link 1 0x10 (leBytes 8 second ++ leBytes 4 1 ++ [0, 0, 0, 0]) todReserved = true →
      (s.headMsg link 1).role = 3 → (s.headMsg link 1).tod = true →
      exec (.timeOfDay link second true) s = .next { s.popInbox link 1 with
        time := { s.time with tod := some second, todSeen := true } })
    ∧ (∀ v, exec (.evtRdWrite v) s = .next (s.writeRd v))
    ∧ (s.evt.wr ≠ s.evt.rd → s.evt.notified = false ∨ s.evt.lastNotify + 800000 ≤ s.time.fclk →
      exec .eventNotify s = .next (((List.finRange 12).filter (fun i =>
          (vget s.links i).role == 3 && (vget s.links i).notify)).foldl
        (fun a i => a.send i 1 0x12 (leBytes 4 s.evt.wr.toNat ++ leBytes 4 (U32.dist s.evt.wr s.evt.rd)))
        { s with evt := { s.evt with notified := true, lastNotify := s.time.fclk } }))

/-- The reference clocks complete (R7, R363 to R382): the root's lock, a candidate's loss, return, gate, wait and phase
comparison, where a hit at the gate's close or later belongs to the next gate, the end of a switch, lock, the holdover sample, and the pins. -/
def Obligations.ReferencesComplete : Prop :=
  ∀ (s : State),
    exec .rootUnlock s = .next (s.putCk (Ck.say { s.ck with dpll := { s.dpll.mark s.time.fclk 5 with rootLock := false } } 789 0x0820 []))
    ∧ exec .rootLock s = .next (s.putCk (Ck.say { s.ck with dpll := { s.dpll with rootLock := true } } 789 0x0821 []))
    ∧ (∀ c : Fin 16, (vget s.cands c).actOk = true → exec (.activityLoss c) s = .next (s.putCk
      (Ck.disqualify { s.ck.settle with cands := vset s.cands c { (vget s.cands c).mark s.time.fclk 0 with
        actOk := false, losses := satAdd 32 (vget s.cands c).losses 1 } } c 0)))
    ∧ (∀ c : Fin 16, (vget s.cands c).actOk = false → (vget s.cands c).cfg.nominal ≠ 0 → s.canBeActive c = true →
      exec (.candidateActivityReturn c) s = .next { s with cands := vset s.cands c { vget s.cands c with
        actOk := true, gateFrom := s.time.fclk, hitInGate := false, hitNext := false, phases := [], cmpAt := none } })
    ∧ (∀ (c : Fin 16) raw offset x, x = vget s.cands c → x.actOk = true → s.canBeActive c = true → x.cfg.nominal ≠ 0 →
      x.gateFrom + gateTicks x.cfg ≤ s.time.fclk → offset = trimmed raw s.dpll.cfg.xoTrim →
      ((x.cfg.window : Int) * 1000000 < |offset|) →
      exec (.gateEnd c raw) s = .next (s.putCk (Ck.conflicts (Ck.disqualify { s.ck.settle with
        cands := vset s.cands c { x.mark s.time.fclk 1 with
          offset := offset, freqOk := false, noHit := !x.hitInGate, hitInGate := x.hitNext, hitNext := false
          gateFrom := s.time.fclk
          wtrEnd := if x.state = 0 then s.time.fclk + x.cfg.wtr * 800000000 else x.wtrEnd } } c 1))))
    ∧ (∀ (c : Fin 16) raw offset x k, x = vget s.cands c → x.actOk = true → s.canBeActive c = true → x.cfg.nominal ≠ 0 →
      x.gateFrom + gateTicks x.cfg ≤ s.time.fclk → offset = trimmed raw s.dpll.cfg.xoTrim →
      |offset| ≤ (x.cfg.window : Int) * 1000000 →
      k = { s.ck.settle with cands := vset s.cands c { x with
        offset := offset, freqOk := true, noHit := !x.hitInGate, hitInGate := x.hitNext, hitNext := false
        gateFrom := s.time.fclk
        wtrEnd := if x.state = 0 then s.time.fclk + x.cfg.wtr * 800000000 else x.wtrEnd } } →
      exec (.gateEnd c raw) s = .next (s.putCk (
        if x.state = 0 ∧ x.hitInGate = false then
          Ck.select (if x.cfg.wtr = 0 then (k.setCand c 1 1).setCand c 2 4 else k.setCand c 1 1) false
        else k.conflicts)))
    ∧ (∀ c : Fin 16, (vget s.cands c).state = 1 → (vget s.cands c).wtrEnd ≤ s.time.fclk →
      exec (.waitToRestore c) s = .next (s.putCk ((s.ck.settle.setCand c 2 4).select false)))
    ∧ (∀ (c : Fin 16) ps ask x, x = vget s.cands c → x.actOk = true → s.canBeActive c = true → x.cmpAt = none →
      x.phases.length < 16 → s.dpll.active ≠ some c.val →
      exec (.phaseComparison c ps ask) s = .next (s.putCk { s.ck with
        cands := vset s.cands c { x with phases := (ps :: x.phases).take 16, cmpAt := some s.time.fclk }
        dpll := s.dpll.settle s.time.fclk s.dpll.goal }))
    ∧ (∀ (c : Fin 16) ps ask x inGate, x = vget s.cands c → x.actOk = true → s.canBeActive c = true →
      (∀ t, x.cmpAt = some t → t + compareTicks x.cfg.nominal ≤ s.time.fclk) → x.phases.length = 16 →
      s.dpll.nextCand = [] ∨ s.dpll.switching ≠ some (some c.val) →
      40000 * (x.cfg.phaseHit : Int) < |hitDeviation40 x.phases ps| →
      inGate = decide (x.cfg.nominal = 0 ∨ s.time.fclk < x.gateFrom + gateTicks x.cfg) →
      ∃ u, exec (.phaseComparison c ps ask) s = .next u ∧ (vget u.cands c).phases = (ps :: x.phases).take 16
        ∧ (vget u.cands c).hits = satAdd 32 x.hits 1 ∧ (vget u.cands c).noHit = x.noHit
        ∧ (vget u.cands c).hitInGate = (x.hitInGate || inGate) ∧ (vget u.cands c).hitNext = (x.hitNext || !inGate))
    ∧ (∀ ps c k, s.dpll.switching = some (some c) → s.dpll.switchEnd ≤ s.time.fclk → k = (Ck.applyClear (
        let k1 := Ck.setDpll { s.ck.settle with dpll := { s.ck.settle.dpll with
          active := some c, switching := none, buildOut := ps, error := 0
          align := if s.dpll.cfg.phaseMode = 1 then -ps else 0 } } 1 0
        let k2 := Ck.say { k1 with dpll := { k1.dpll with lockFrom := some s.time.fclk } } 788 0x0811 [(1, candCode s.dpll.switchFrom), (1, c), (8, ps)]
        { k2 with dpll := { k2.dpll with
            cfg := s.dpll.nextCfg.getD s.dpll.cfg, nextCfg := none, softDue := none, nextCand := [], nextClear := (0, 0)
            deferred := false, deliberate := false } }) s.dpll.nextClear) →
      exec (.switchEnd ps) s = .next (s.putCk (
        let k4 := s.dpll.nextCand.foldl (fun k p => match finOf 16 p.1 with | none => k | some i => k.applyCand i p.2) k
        match s.dpll.softDue with
        | some w => k4.applySoft w
        | none => k4.select s.dpll.deliberate)))
    ∧ (∀ t, s.ck.settle.dpll.lockFrom = some t → s.ck.settle.dpll.state = 1 → s.ck.settle.dpll.align = 0 →
      t + 800000000000 / 10 ^ s.ck.settle.code ≤ s.time.fclk →
      exec .lockAcquired s = .next (s.putCk { s.ck.settle.setDpll 2 3 with
        dpll := { (s.ck.settle.setDpll 2 3).dpll with overRun := 0 } }))
    ∧ (∀ y, s.dpll.secMean = some y → s.dpll.lastY = none →
      exec (.historySample y) s = .next { s with dpll := { s.dpll with
        secMean := none, lastY := if s.dpll.secFrom.isSome then some y else none } })
    ∧ (∀ y v w, s.dpll.secMean = some y → s.dpll.lastY = some v →
      w = expDecay s.dpll.cfg.holdTau →
      exec (.historySample y) s = .next { s with dpll := { s.dpll with
        holdNum := s.dpll.holdNum * w / 2 ^ 64 + v * 2 ^ 64, holdDen := s.dpll.holdDen * w / 2 ^ 64 + 2 ^ 64
        samples := satAdd 32 s.dpll.samples 1, secMean := none
        lastY := if s.dpll.secFrom.isSome then some y else none } })
    ∧ (∀ (sel : Fin 16) forceN, ¬ (s.dpll.refsel = sel.val ∧ s.dpll.forceN = forceN) →
      s.dpll.pinsAt + 8000 ≤ s.time.fclk →
      exec (.refPins sel forceN) s = .next (s.putCk (Ck.select (Ck.say
        { s.ck.settle with dpll := { s.ck.settle.dpll with
          refsel := sel.val, forceN := forceN, pinsAt := s.time.fclk } } 788 0x0812
        [(1, sel.val), (1, boolNat forceN)]) true)))

/-- The CUE pins' happenings complete (R409 to R412): an accepted edge outside the holdoff, one inside it, stuck and its
release, and an output edge in each mode. -/
def Obligations.CuePinsComplete : Prop :=
  ∀ (s : State) (pin : Fin 16) (p : CuePin), p = vget s.cues pin →
    (∀ level, p.cfg.direction = 1 → p.level ≠ level → p.isActive level = true → p.holdEnd ≤ s.edgeNow →
      exec (.cueEdge pin level) s = .next (State.raise (s.setPin pin { p with
          level := level, lastEdge := s.edgeNow, edges := satAdd 32 p.edges 1, holdEnd := s.edgeNow + 1000 * p.cfg.holdoff
          heldEdges := 0 })
        { s.ev (804 + pin.val) 0x0B01 [(1, boolNat level), (4, p.heldEdges)] with stamp := s.edgeNow }))
    ∧ (∀ level, p.cfg.direction = 1 → p.level ≠ level → p.isActive level = true → s.edgeNow < p.holdEnd →
      exec (.cueEdge pin level) s = .next (s.setPin pin { p with
        level := level, lastEdge := s.edgeNow, edges := satAdd 32 p.edges 1, suppressed := satAdd 32 p.suppressed 1
        heldEdges := p.heldEdges + 1 }))
    ∧ (∀ level, p.cfg.direction = 1 → p.level ≠ level → p.isActive level = false → p.stuckNow = false →
      exec (.cueEdge pin level) s = .next (s.setPin pin { p with level := level }))
    ∧ (p.cfg.direction = 1 → p.isActive p.level = true → p.cfg.stuck ≠ 0 → p.stuckNow = false →
      p.lastEdge + 1000000 * p.cfg.stuck ≤ s.now →
      exec (.cueStuck pin) s = .next ((s.setPin pin { p with stuck := true, stuckNow := true }).raise
        (s.ev (804 + pin.val) 0x0B02 [(4, p.cfg.stuck)])))
    ∧ (p.stuckNow = true →
      exec (.cueReleased pin) s = .next ((s.setPin pin { p with level := !p.level, stuckNow := false }).raise
      { s.ev (804 + pin.val) 0x0B03 [(4, ((s.edgeNow - p.lastEdge) / 1000000 : Nat))] with stamp := s.edgeNow }))
    ∧ (∀ o level, p.out = some o → p.cfg.direction = 2 → p.cfg.mode = 0 → s.twin.role ≠ 2 → level = decide (o.level = 1) →
      exec (.cueOutputEdge pin level) s = .next (s.setPin pin { p with level := level }))
    ∧ (∀ o level t n, p.out = some o → p.cfg.direction = 2 → p.cfg.mode ≠ 0 → p.isActive level = true →
      s.outAbsent p o = false → s.nextPulse p = some (t, n) → p.accepted + 100000 ≤ t → t ≤ s.now → s.boot.phase = .running →
      exec (.cueOutputEdge pin level) s = .next (s.setPin pin { p with
        level := if s.twin.role = 2 then p.level else level, nextPulse := n, pulseEnd := t + o.width, missed := false }))
    ∧ (∀ o level, p.out = some o → p.cfg.direction = 2 → p.cfg.mode = 3 → p.isActive level = true →
      s.outAbsent p o = true → p.missed = false →
      exec (.cueOutputEdge pin level) s = .next ((s.setPin pin { p with missed := true }).raise
        (s.ev (804 + pin.val) 0x0B04 [(8, s.missedStart p o)])))
    ∧ (∀ o level, p.out = some o → p.cfg.direction = 2 → p.cfg.mode ≠ 0 → p.isActive p.level = true →
      p.isActive level = false → p.pulseEnd ≤ s.now →
      exec (.cueOutputEdge pin level) s = .next (s.setPin pin { p with level := level }))

/-! ### The twin -/

/-- The arbiter's pins and the twin heartbeat complete (R487 to R491, R497, R502 to R505, R512): the pin toggles, the
service timeout stops it, a cast and its loss move the role and release the CUE outputs, or with twin_mode 0 only the level, BEAT, HEALTH and HELLO go out and are taken, and a lost
heartbeat and an orphan are reviewed. -/
def Obligations.TwinBeatsComplete : Prop :=
  ∀ (s : State),
    (s.up = true → s.twin.hbDead = false → s.twin.hbAt + 400000 ≤ s.time.fclk →
      exec .arbHbToggle s = .next { s with twin := { s.twin with hb := !s.twin.hb, hbAt := s.time.fclk } })
    ∧ (s.up = true → exec .heartbeatServiceTimeout s = .next { s with twin := { s.twin with hb := false, hbDead := true } })
    ∧ (s.up = true → s.twin.cast = false → s.twinMode ≠ 0 → s.twin.role = 2 →
      exec .takeover s = .next (State.lead (State.raise { s with twin := { s.twin with cast := true } }
        (s.ev 775 0x0A30 [(1, 1)]))))
    ∧ (s.twin.cast = false → s.up = false ∨ s.twinMode = 0 → exec .takeover s = .next { s with twin := { s.twin with cast := true } })
    ∧ (s.twin.cast = true → s.up = false ∨ s.twinMode = 0 → exec .demotion s = .next { s with twin := { s.twin with cast := false } })
    ∧ (s.up = true → s.twin.cast = true → s.twinMode ≠ 0 → s.twin.role ≠ 1 →
      exec .demotion s = .next (State.raise { s with twin := { s.twin with cast := false } } (s.ev 775 0x0A30 [(1, 0)])))
    ∧ (s.up = true → s.twin.cast = true → s.twinMode ≠ 0 → s.twin.role = 1 →
      ∃ t, exec .demotion s = .next t ∧ t.twin.role = 2 ∧ t.twin.cast = false ∧ t.twin.demoted = true
        ∧ t.twin.fenced = false ∧ t.cues = s.cues.map CuePin.undriven ∧ ∀ i : Fin 12, (vget t.links i).state = (if (vget s.links i).state = 8
          ∧ (i = 10 ∨ (vget s.links i).role = 2) then 9
          else if (vget s.links i).state = 9 ∧ ¬ (i = 10 ∨ (vget s.links i).role = 2) then 8 else (vget s.links i).state))
    ∧ (s.twinned = true → s.twin.lastBeat + 8000 ≤ s.time.fclk →
      exec .beatSend s = .next (State.send
        { s.review with twin := { s.review.twin with lastBeat := s.time.fclk } } 11 1 0x18 (beatBytes
          { role := s.review.twin.role, readiness := s.review.twin.readiness, mode := s.review.twin.mode
            epoch := s.review.twin.epoch, production := (s.review.running.map (·.id)).getD 0, tSend := s.review.now
            tEcho := (s.review.twin.beat.map (·.tSend)).getD 0, tEchoRecv := s.review.twin.echoAt })))
    ∧ (∀ m u w at_ came, s.hasMsg 11 1 0x18 (beatBytes m) beatReserved = true →
      u = (if s.twin.lost = true then (s.popInbox 11 1).heartbeatBack else s.popInbox 11 1) →
      at_ = (s.headMsg 11 1).at_ → came = at_ * 5 / 4 →
      w = { u.twin with
        beat := some m, beatAt := s.time.fclk - (s.time.tick - at_), echoAt := came, lost := false, tookOver := false
        offsets := ((((came : Int) - m.tSend) - ((m.tEchoRecv : Int) - m.tEcho)) / 2 :: u.twin.offsets).take 1024
        maxEpoch := if u.twin.maxEpoch.toNat < m.epoch.toNat then m.epoch else u.twin.maxEpoch
        epoch := if u.twin.role = 2 ∧ m.role = 1 then m.epoch else u.twin.epoch
        gateOff := u.twin.gateOff && !(m.role == 2 && m.mode == 1)
        demoted := u.twin.demoted && !decide (m.role = 1) } →
      exec (.beat m) s = .next (State.raiseAll { u with twin := w }
        (if u.twin.demoted = true ∧ m.role = 1 then [s.ev 774 0x0A21 [(2, m.epoch.toNat)]] else [])).review)
    ∧ (s.twinned = true → s.twin.lost = false → s.twin.beatAt + 80000 ≤ s.time.fclk →
      exec .twinHeartbeatLost s = .next (State.raise { s with twin := { s.twin with lost := true, unconfCount := 0 } }
        (s.ev 776 0x0A40 [(8, (s.twin.beat.map (·.tSend)).getD 0)])).review)
    ∧ (s.up = true → s.lostLong = true → s.twin.cast = false → exec .orphanTimeout s = .next s.review)
    ∧ (s.twinned = true → s.twin.lastHealth + 800000000 ≤ s.time.fclk →
      exec .healthSend s = .next (State.raise (State.send { s with twin := { s.twin with lastHealth := s.time.fclk } } 11 1 0x19
        (healthBytes { role := s.twin.role, readiness := s.twin.readiness, unconf := s.unconfirmedOut
                       unrepaired := s.unrepairedRows, compared := s.twin.compared, divergent := s.twin.divergent
                       repaired := s.twin.repaired
                       offsetNs := (s.twin.offsets.mergeSort (fun a b => decide (a ≤ b))).getD
                         ((s.twin.offsets.mergeSort (fun a b => decide (a ≤ b))).length / 2) 0
                       curtain := s.curtainSha, generation := s.curtain.gen }))
        (s.ev 772 0x0A04 [(1, s.twin.readiness), (1, s.twin.role), (4, s.unrepairedRows), (4, s.twin.divergent)])))
    ∧ (∀ m, s.hasMsg 11 1 0x19 (healthBytes m) healthReserved = true →
      exec (.health m) s = .next (if slice m.curtain 0 32 = slice s.curtainSha 0 32 then s.popInbox 11 1
        else (s.popInbox 11 1).raise (s.ev 772 0x0A05 [(4, s.curtain.gen), (4, m.generation)])))
    ∧ (s.twinned = true → s.twin.lastHello + 80000000 ≤ s.time.fclk ∨ s.twin.lastHello < (vget s.links 11).since →
      exec .twinHelloSend s = .next (State.send { s with twin := { s.twin with lastHello := s.time.fclk } } 11 1 0x1A
        (helloBytes s.ownHello)))
    ∧ (∀ m, s.hasMsg 11 1 0x1A (helloBytes m) helloReserved = true → s.twin.expected = none →
      exec (.twinHello m) s = .next (State.review { s.popInbox 11 1 with twin := { s.twin with peer := some m } }))
    ∧ (∀ m f serial, s.hasMsg 11 1 0x1A (helloBytes m) helloReserved = true → s.twin.expected = some (f, serial) →
      slice f 0 32 = slice m.fingerprint 0 32 →
      exec (.twinHello m) s = .next (State.review { s.popInbox 11 1 with twin := { s.twin with peer := some m } }))
    ∧ (∀ m f serial, s.hasMsg 11 1 0x1A (helloBytes m) helloReserved = true → s.twin.expected = some (f, serial) →
      slice f 0 32 ≠ slice m.fingerprint 0 32 →
      exec (.twinHello m) s = .next (State.review (State.raise
        { s.popInbox 11 1 with twin := { s.twin with peer := some m, expected := none } }
        (s.ev 772 0x0A02 [(8, serial), (8, m.serial)]))))

/-- Positions, records and repair complete (R267, R424, R493 to R501, R508): the lead names the queues whose positions moved,
the understudy takes them, items past ack_hold are freed with the queue's drain, a frame's and a row's record are taken, a
confirmation moves the confirmed position, and every request and its answer is served. -/
def Obligations.TwinRecordsComplete : Prop :=
  ∀ (s : State),
    (∀ moved, s.twinned = true → s.twin.role = 1 → s.twin.lastPos + 16000 ≤ s.time.fclk →
      moved = s.flow.queues.filter (fun y => (y.2.next, y.2.released, y.2.acked) != y.2.reported) →
      exec .positionsSend s = .next (State.send
        { moved.foldl (fun (t : State) y =>
            t.setQueue y.1 { y.2 with reported := (y.2.next, y.2.released, y.2.acked) }) s with
          twin := { s.twin with lastPos := s.time.fclk } }
        11 6 0x62 (posBytes (moved.map (fun y => ⟨y.1, y.2.next, y.2.released, y.2.acked⟩)))))
    ∧ (∀ es, s.hasMsg 11 6 0x62 (posBytes es) (posReserved es) = true → s.twin.role = 2 →
      exec (.positions es) s = .next (es.foldl State.takePos (s.popInbox 11 6)).review)
    ∧ (∀ q, s.twin.role = 2 → s.freesByAck = false →
      exec (.ackHoldExpiry q) s = .next ((s.setQueue q ((s.queue q).mapParts (fun l =>
        l.filter (fun i => decide (s.now < i.release + (s.qEntry q).ackHold))))).endDrain q))
    ∧ (∀ r, s.hasMsg 11 6 0x60 (recBytes r) recReserved = true → s.twin.role = 2 → s.exact = true →
      ∃ u, exec (.frameRecord r) s = .next (State.review u)
        ∧ u.twin.adoptions = (s.twin.adoptions.filter (fun a => a.record.context != r.context)) ++ [{ record := r }])
    ∧ (∀ r own, s.hasMsg 11 6 0x61 (rowRecBytes r) rowRecReserved = true → s.twin.role = 2 → s.exact = true →
      own = (s.ctxSt r.queue).rows.find? (fun y => y.2.closed && y.1 % 128 == r.row && y.1 / 128 % 2 ^ 32 == r.frameCount) →
      (own = none → exec (.rowRecord r) s = .next { s.popInbox 11 6 with twin := { s.twin with
        rowRecs := s.twin.rowRecs ++ [r] } })
      ∧ (∀ y c, own = some y →
        (s.prods.findSome? (fun z => (z.1.ctx r.queue).filter (fun c => inRange z (c.markTick (y.1 / 128))))).orElse
          (fun _ => s.prods.findSome? (fun z => z.1.ctx r.queue)) = some c →
        exec (.rowRecord r) s = .next ((s.popInbox 11 6).compareRow c (y.1 / 128) r).review))
    ∧ (∀ q seq, s.hasMsg 11 6 0x63 (confirmBytes q seq) (reserved [(2, 2)]) = true → s.twin.role = 1 →
      exec (.confirm q seq) s = .next (
        if seqBefore (s.queue q).confirmed seq = true ∧ seqBefore (s.queue q).next seq = false then
          (s.popInbox 11 6).setQueue q { s.queue q with confirmed := seq }
        else s.popInbox 11 6))
    ∧ (∀ q (first : U32) n, s.hasMsg 11 7 0x70 (itemAskBytes q first n) (reserved [(2, 2)]) = true → s.twin.role = 1 →
      s.exact = true →
      exec (.itemRequest q first n) s = .next (((s.queue q).items.filter (fun i => decide (U32.dist i.seq first < n))).foldl
        (fun (t : State) i => t.send 11 7 0x71 (itemBytes_ q i (nextRtp i))) (s.popInbox 11 7)))
    ∧ (∀ q it rtp, s.hasMsg 11 7 0x71 (itemBytes_ q it rtp) itemReserved = true → s.twin.role = 2 → 512 ≤ q →
      exec (.item q it rtp) s = .next ((s.popInbox 11 7).copyItem q it rtp))
    ∧ (∀ q it rtp, s.hasMsg 11 7 0x71 (itemBytes_ q it rtp) itemReserved = true → s.twin.role = 2 → q < 512 →
      exec (.item q it rtp) s = .next (
        match s.twin.itemAsk.find? (fun a => a.queue == q && decide (U32.dist it.seq a.first < a.count)) with
        | none => s.popInbox 11 7
        | some a =>
          let b := { a with got := a.got.filter (fun i => i.seq != it.seq) ++ [it] }
          let u := { s.popInbox 11 7 with twin := { s.twin with
            itemAsk := s.twin.itemAsk.map (fun y => if y = a then b else y) } }
          if b.got.length < b.count then u else (u.repairItems b rtp).review))
    ∧ (∀ context frame row poisoned u held, s.hasMsg 11 7 0x72 (rowAskBytes context frame row)
        (reserved [(2, 2), (10, 2)]) = true → s.twin.role = 1 → s.exact = true → u = s.popInbox 11 7 →
      held = (s.running.bind (fun p => p.ctx context)).bind (fun c => (s.heldBuffer c frame row).map (fun b => (c, b))) →
      exec (.rowRequest context frame row poisoned) s = .next (
        match held with
        | none => u.send 11 7 0x73 (rowDataBytes ⟨context, frame, row, 0, true, none⟩)
        | some (c, b) =>
          if poisoned = true then
            (u.send 11 7 0x73 (rowDataBytes ⟨context, frame, row, 0, true, none⟩)).raise
              (s.ev 773 0x0A12 [(2, context), (4, frame), (2, row), (1, 1)])
          else (List.range c.cols).foldl (fun (t : State) col =>
            t.send 11 7 0x73 (rowDataBytes ⟨context, frame, row, col, col + 1 == c.cols,
              some (cget CtuCrf.none_ t.ddr.refs (refKey context b (c.ctuAt row col).1 (c.ctuAt row col).2),
                ((t.recordOf c (c.ctuAt row col).1).map (fun r => r.ok b (c.ctuAt row col).2)).getD false)⟩)) u))
    ∧ (∀ m u, s.hasMsg 11 7 0x73 (rowDataBytes m) rowDataReserved = true → s.twin.role = 2 → u = s.popInbox 11 7 →
      (m.body = none → exec (.rowData m) s = .next (u.rowFailed m))
      ∧ (∀ p c k valid, m.body = some (k, valid) → s.running = some p → p.ctx m.context = some c →
        exec (.rowData m) s = .next (
          match s.heldBuffer c m.frameCount m.row with
          | none => u.rowFailed m
          | some b =>
            if s.ddr.hasRoom 18 (crfBytes k) = false then s
            else if m.last = true then (u.landCtu p c b m k valid).rowLanded c b m
            else u.landCtu p c b m k valid)))
    ∧ (∀ context block, s.hasMsg 11 7 0x74 (blockAsk context block) = true → s.twin.role = 1 → s.exact = true →
      exec (.blockRequest context block) s = .next (
        match (s.running.bind (fun p => p.ctx context)).bind (fun c => s.recordOf c 0) with
        | none => s.popInbox 11 7
        | some r => (s.popInbox 11 7).send 11 7 0x75 (blockBytes context block (r.block block))))
    ∧ (∀ context block content, s.hasMsg 11 7 0x75 (blockBytes context block content) = true → s.twin.role = 2 →
      exec (.blockData context block content) s = .next (
        match s.running.bind (fun p => p.ctx context) with
        | none => s.popInbox 11 7
        | some c => (s.popInbox 11 7).modRecord c 0 (fun r => r.setBlock block content)))

/-! ### Monitors and the test port -/

/-- The monitors complete (R441, R579 to R581): the reading stands in its register, the over-temperature state follows
the trip and release levels over all four sensors, and a supply outside its range is an alarm while firmware runs. -/
def Obligations.MonitorsComplete : Prop :=
  ∀ (s : State),
    (∀ (sensor : Fin 4) reading, ∃ u, exec (.thermalSample sensor reading) s = .next u
      ∧ u.mon.temp = vset s.mon.temp sensor reading ∧ u.mon.supply = s.mon.supply
      ∧ (2528 ≤ reading → u.mon.tripped = true)
      ∧ ((∀ i : Fin 4, vget u.mon.temp i < 2400) → u.mon.tripped = false)
      ∧ ((∀ i : Fin 4, vget u.mon.temp i < 2528) → (∃ i : Fin 4, 2400 ≤ vget u.mon.temp i) →
        u.mon.tripped = s.mon.tripped))
    ∧ (∀ (monitor : Fin 2) mV, ∃ u, exec (.supplySample monitor mV) s = .next u
      ∧ u.mon.supply = vset s.mon.supply monitor mV ∧ u.mon.temp = s.mon.temp
      ∧ (s.up = true → vget u.mon.alarm monitor = s.supplyBad monitor mV)
      ∧ (monitor = 0 → u.boot.vcoreOk = inTarget s.boot.vcoreCode mV))

/-- The test port's instructions complete (R529, R540 to R542): each is selected where the port is open or it executes
while locked, BYPASS otherwise; SAMPLE/PRELOAD loads the update stage. -/
def Obligations.TestPortCompletes : Prop :=
  ∀ (s : State),
    exec .testLogicReset s = .next (s.tapSelect .idcode) ∧ exec .idcode s = .next (s.tapSelect .idcode)
    ∧ exec .bypass s = .next (s.tapSelect .bypass) ∧ exec .extest s = .next (s.tapSelect .extest)
    ∧ exec .highz s = .next (s.tapSelect .highz) ∧ exec .clamp s = .next (s.tapSelect .clamp)
    ∧ exec .extestPulse s = .next (s.tapSelect .extestPulse) ∧ exec .extestTrain s = .next (s.tapSelect .extestTrain)
    ∧ (∀ data, ∃ u, exec (.samplePreload data) s = .next u ∧ u.tap.preload = data ∧ u.tap.ir = .samplePreload)
    ∧ (∀ want, (s.tapSelect want).tap.ir = if s.tapOpen || want.whileLocked then want else .bypass)

/-! ### Rules of the whole block -/

/-- No command stops the block, and none touches the queue: every command answers a next state in every state, with the
queue as it was (R10, R17, R477; log entry 3 for one whose condition does not hold). -/
def Obligations.EveryCommandAnswers : Prop :=
  ∀ (c : Instr) (s : State), ∃ t, exec c s = .next t ∧ t.pending = s.pending

/-- Whatever the next step is, the mailbox rings keep fitting their area (R467) and the call board keeps its canonical
form. -/
def Obligations.StepKeepsRingsAndBoard : Prop :=
  ∀ s t : State, RingsFit s → cwf 0 s.host.board = true → step s = .next t →
    RingsFit t ∧ cwf 0 t.host.board = true

/-- The rings fit and the call board is canonical right after reset. -/
def Obligations.ResetRingsAndBoard : Prop :=
  RingsFit State.reset ∧ cwf 0 State.reset.host.board = true

/-- Only FUSE_PROGRAM changes what is programmed in OTP, and it never lowers the rollback counter nor takes it past the
running firmware's index (R513, R520). -/
def Obligations.OtpOnlyByFuse : Prop :=
  ∀ (c : Instr) (s t : State), exec c s = .next t → t.sec.otp ≠ s.sec.otp →
    (∃ h off len, c = .fuseProgram h off len)
    ∧ (t.sec.otp.rollback = s.sec.otp.rollback
        ∨ s.sec.otp.rollback < t.sec.otp.rollback ∧ t.sec.otp.rollback ≤ s.boot.fw.rollback)

/-- Every mailbox command is held to the same discipline (R468 to R472, R476, R477): while it may not begin it waits and
nothing changes; a length beyond 16 entries faults its mailbox; a command that its header, the session or the mailbox
refuses answers that status, is not journaled, and has no effect but CURTAIN_COMMAND_REFUSED (R216). A PRODUCTION_CUE is
covered while no cue is pending: a pending one is served first. -/
def Obligations.MailboxDiscipline : Prop :=
  ∀ (c : Instr) (k : Spec) (h : Hdr) (pass : Bool) (s : State), mailbox c = some (k, h, pass) →
    (s.green.request = none ∨ ∀ r, c ≠ .productionCue h r) →
    (s.mayBegin k h pass = false → exec c s = .next s)
    ∧ (s.mayBegin k h pass = true → 16 < entriesOf h.length → exec c s = .next (s.faultMb h.mb))
    ∧ (∀ st, s.mayBegin k h pass = true → entriesOf h.length ≤ 16 → s.precheck k h = some st →
        exec c s = .next (State.complete
          (if st = 0x0406 then (s.takeCmd h).raise (s.ev 820 0x0413 [(2, k.opcode), (2, st)]) else s.takeCmd h)
          h.mb (vget s.host.mbs h.mb).cmdRd (s.host.sess.getD (min h.minor 2)) k.opcode h.tag h.length false (.refuse st [])))

/-- A completion enters its ring (R467, R469, R472, R473): CPL_WR advances by the entries it spans, each entry holds its
256 bytes with zeros after the last, and no byte outside the mailbox's completion ring changes. -/
def Obligations.CompletionInRing : Prop :=
  ∀ (s t : State) (mb : Fin 8) (i : U32) (minor opcode tag length : Nat) (journaled : Bool) (r : Reply) (m : Mailbox)
      (bytes : List Byte) (n : Nat),
    m = vget s.host.mbs mb → n = entriesOf (16 + (replyResult r).length) →
    bytes = cplBytes minor opcode tag (replyStatus r) s.journal.next s.now (replyResult r) →
    RingsFit s → cwf 0 s.host.board = true → n ≤ m.depth →
    t = s.complete mb i minor opcode tag length journaled r →
    (vget t.host.mbs mb) = { m with cplWr := m.cplWr + BitVec.ofNat 32 n }
    ∧ (∀ j, j < n → readBytes t.host.board
        (cplBase s.host.mbs mb + 256 * ((m.cplWr + BitVec.ofNat 32 j).toNat % m.depth)) 256 = slice bytes (256 * j) 256)
    ∧ (∀ a, a < cplBase s.host.mbs mb ∨ cplBase s.host.mbs mb + 256 * m.depth ≤ a →
        readByte t.host.board a = readByte s.host.board a)

/-- What an occurrence does to the event unit (R391, R398, R400, R401, R404): nothing outside it but its ring; an
outstanding record keeps its place, stamp, type and data while its count grows; a masked source writes no record; and a
record opens only for an enabled source that has none, at EVT_WR, holding the occurrence. -/
def Obligations.EventRecords : Prop :=
  ∀ (s t : State) (e : Ev) (x y : EvSource), s.boot.evOpen = true → cwf {} s.evt.sources = true → cwf 0 s.host.board = true →
    t = s.raise e → x = cget {} s.evt.sources e.source → y = cget {} t.evt.sources e.source →
    t = { s with evt := { s.evt with sources := t.evt.sources, wr := t.evt.wr, copies := t.evt.copies }
                 host := { s.host with board := t.host.board }, free := t.free }
    ∧ (∀ k, k ≠ e.source → cget {} t.evt.sources k = cget {} s.evt.sources k)
    ∧ y.masked = x.masked
    ∧ (∀ a, a < 0x40000 ∨ 0x60000 ≤ a → readByte t.host.board a = readByte s.host.board a)
    ∧ (∀ i r, x.outstanding = some (i, r) → r.count < 2 ^ 32 → t.evt.wr = s.evt.wr ∧ ∃ q, y.outstanding = some (i, q)
        ∧ q.stamp = r.stamp ∧ q.source = r.source ∧ q.type = r.type ∧ q.data = r.data ∧ r.count ≤ q.count)
    ∧ (x.masked = true → t.evt.wr = s.evt.wr ∧ t.evt.copies = s.evt.copies ∧ t.host.board = s.host.board
        ∧ y.outstanding = x.outstanding)
    ∧ (x.outstanding = none → x.masked = false → x.tripEnd ≤ s.time.fclk → evMinor e.source e.type ≤ s.host.sess.getD 2 →
        ∃ q : EvRec, y.outstanding = some (s.evt.wr, q) ∧ t.evt.wr = s.evt.wr + 1 ∧ q.stamp = e.stamp ∧ q.source = e.source
          ∧ q.type = e.type ∧ q.data = e.data ∧ q.count = 1 + x.mergeCount ∧ q.mixed = false
          ∧ q.merged = decide (0 < x.mergeCount)
          ∧ readBytes t.host.board (ringAt s.evt.wr) 32 = q.bytes)

/-- The first copy of a line stands (R142): pixels already accepted keep their samples, a copy of pixels that are all there
counts as a duplicate and changes nothing else, a line at or beyond the height changes nothing, and an open pixel that is
not there yet is accepted. -/
def Obligations.FirstCopyStands : Prop :=
  ∀ (s t : State) (p : Production) (c : Ctx) (n : Nat) (m : LineMsg) (pic new : Picture) (isOpen : Nat → Bool),
    m.firstPixel + m.pixelCount ≤ 8192 →
    isOpen = (fun x => (p.openTiles c n (m.line / 64) s.cycle).any (fun i =>
      decide ((c.tilePx i).1 ≤ x) && decide (x < (c.tilePx i).2))) →
    pic = (cget {} s.pictures (picKey c.context n)).forFrame n →
    t = s.ctxLine p c n m true → new = (cget {} t.pictures (picKey c.context n)).forFrame n →
    cwf {} s.pictures = true → cwf false pic.got = true → cwf 0 pic.px = true →
    (∀ x y k, x < 8192 → k < 3 → pic.has x y = true → new.has x y = true ∧ new.at x y k = pic.at x y k)
    ∧ (c.height ≤ m.line → t = s)
    ∧ ((∀ x, m.firstPixel ≤ x → x < m.firstPixel + m.pixelCount → isOpen x = true → pic.has x m.line = true) →
        t.pictures = s.pictures)
    ∧ (∀ x, m.firstPixel ≤ x → x < m.firstPixel + m.pixelCount → isOpen x = true → m.line < c.height →
        (∀ x, m.firstPixel ≤ x → x < m.firstPixel + m.pixelCount → isOpen x = true → pic.has x m.line = true) →
        t = s.setCtx c.context { s.ctxSt c.context with linesDup := satAdd 32 (s.ctxSt c.context).linesDup 1 })
    ∧ (m.line < c.height → ∀ x, m.firstPixel ≤ x → x < m.firstPixel + m.pixelCount → isOpen x = true →
        new.has x m.line = true)
    ∧ (∀ y x, new.has x y = true → x < 8192 → pic.has x y = true ∨ y = m.line ∧ isOpen x = true
        ∧ m.firstPixel ≤ x ∧ x < m.firstPixel + m.pixelCount)

/-- R277: among the class 8 queues with an eligible head, the least S is selected, and equal tags go to the lower queue
number. Under the gate of R497 a head must be confirmed as well. -/
def Obligations.WeightedChoice : Prop :=
  ∀ (s : State) (h : Head), s.select = some h → h.cls = 8 →
    h ∈ s.heads ∧ s.eligible h = true
    ∧ ∀ k ∈ s.heads, k.cls = 8 → s.eligible k = true →
        (s.gated = false ∨ (s.queue k.q).hasConfirmed k.item.seq = true) →
        (s.queue h.q).s ≤ (s.queue k.q).s ∧ ((s.queue h.q).s = (s.queue k.q).s → h.q ≤ k.q)

/-- R83: an operation of a floor block, at the word that the sequencer stands at and whose cycle has come, never freezes: the tags it consumes that have not arrived are substituted at once,
with LATE_READ, and neither L nor FRZ changes. -/
def Obligations.FloorNeverFreezes : Prop :=
  ∀ (s t : State) (e : Fin 16) (u op desc : Nat) (g : Engine) (j : Job) (w : CueWord) (d : UnitDesc)
      (r : Option (Job × UnitDesc)),
    g = vget s.engines e → g.q.floor = true → g.q.inBlock = true → g.q.startDue = false → cwf {} g.tags = true →
    cwf {} s.ctxs = true →
    s.job e = some j → j.tab.unitDesc u desc = some d → g.issues = true → j.tab.words[g.q.pc]? = some w →
    g.q.due ≤ s.cycle → w.op u = (op, desc) → g.q.did.contains u = false →
    s.issue e u op desc = (t, r) →
    r = some (j, d)
    ∧ (vget t.engines e).state = g.state ∧ (vget t.engines e).q.frozenAt = g.q.frozenAt
    ∧ (vget t.engines e).q.lateness = g.q.lateness ∧ (vget t.engines e).q.frz = g.q.frz
    ∧ (vget t.engines e).n.freezes = g.n.freezes
    ∧ (∀ k, (cget {} (vget t.engines e).tags k) =
        if d.tags.contains k = true ∧ (cget {} g.tags k).arrived = false
        then { cget {} g.tags k with arrived := true, valid := false } else cget {} g.tags k)
    ∧ (∀ late, late = d.tags.filter (fun k => !(cget {} g.tags k).arrived) → late ≠ [] →
        (t.ctxSt g.q.context).lateReads = satAdd 32 (s.ctxSt g.q.context).lateReads 1
        ∧ ((∀ k ∈ d.tags, (cget {} g.tags k).desc.cls ≠ 3) →
          ∃ evs, t = State.raiseAll ((s.lateRead e late).setEngine e (vget t.engines e)) evs))

/-- R382: a cold or power-on reset restores the defaults of R364 and R368 in FREERUN with every candidate DISQUALIFIED and
nothing sticky; a warm reset, its save and its boot change neither the references nor house time. -/
def Obligations.ReferencesThroughResets : Prop :=
  ∀ (s t : State) (cause : ColdCause) (b : BootInputs) (c : Instr),
    c ∈ [Instr.powerOnReset, .coldReset cause, .warmResetEntry, .watchdogExpiry, .lockstepMismatch, .warmEntrySave, .warmBoot b] →
    exec c s = .next t →
    (c = .powerOnReset ∨ s.boot.phase ≠ .held → t.boot.phase = .held →
      t.dpll = {} ∧ t.dpll.state = 0 ∧ t.dpll.sticky = 0 ∧ t.dpll.samples = 0
      ∧ ∀ i : Fin 16, vget t.cands i = { cfg := ⟨0, 50, if i.val < 4 then 0 else 100000000, 100, 50, 60⟩ }
        ∧ (vget t.cands i).state = 0 ∧ (vget t.cands i).sticky = 0)
    ∧ (t.boot.phase ≠ .held → t.cands = s.cands ∧ t.dpll = s.dpll ∧ t.time = s.time)

/-- R448: a warm reset whose entry starts before DDR5 first runs, or while DDR5 is failed, is a cold reset that reports
WARM_N, with the WARM flag clear. -/
def Obligations.ColdInstead : Prop :=
  ∀ s : State, (s.boot.phase = .running ∨ s.boot.phase = .waitHost) → (s.ddr.ran = false ∨ s.ddr.state = 3) →
    exec .warmResetEntry s = .next (s.coldHeld 3)
    ∧ (s.boot.firmware = true → exec .watchdogExpiry s = .next (s.coldHeld 3)
        ∧ exec .lockstepMismatch s = .next (s.coldHeld 3))
    ∧ (s.coldHeld 3).boot.phase = .held ∧ (s.coldHeld 3).boot.cause = 3 ∧ (s.coldHeld 3).boot.warm = false

/-- Each kind of state has the commands that change it, and no other command does, the resets and the boot apart: house
time (R392 to R396), the CUE pins (R408 to R412), OTP, keys and access (R513 to R530), the check-value units (R538), the
test port (R531), the monitors, the green room and the running production (R50 to R58), layer rings and graphic pairs
(R199, R210), the curtain (R213 to R222), audio (R223 to R246) and the references (R360 to R386). -/
def Obligations.EachKindHasItsCommands : Prop :=
  ∀ (p : Part) (c : Instr) (s t : State), exec c s = .next t → isReset c = false → p.owner c = false → p.kept s t
end

