-- ==== Sys2Proof/Laws/Cells.lean ====
section
/-! SUPPORT. The laws of sparse tables, byte memory and fixed-length tables: read after write, and the canonical form. -/

namespace Sys2Proof.Machine

@[simp] theorem vget_vset_self {α : Type} {n : Nat} (v : Vector α n) (i : Fin n) (x : α) : vget (vset v i x) i = x := by
  simp [vget, vset]

theorem vget_vset_of_ne {α : Type} {n : Nat} (v : Vector α n) {i j : Fin n} (h : i ≠ j) (x : α) :
    vget (vset v i x) j = vget v j := by
  simp [vget, vset, Vector.getElem_set, Fin.ext_iff] at *; omega

theorem vget_vset {α : Type} {n : Nat} (v : Vector α n) (i j : Fin n) (x : α) :
    vget (vset v i x) j = if i = j then x else vget v j := by
  simp [vget, vset, Vector.getElem_set, Fin.ext_iff]

@[simp] theorem vget_ofFn {α : Type} {n : Nat} (f : Fin n → α) (i : Fin n) : vget (Vector.ofFn f) i = f i := by
  simp [vget]

theorem vget_vmod_self {α : Type} {n : Nat} (v : Vector α n) (i : Fin n) (f : α → α) : vget (vmod v i f) i = f (vget v i) := by
  simp [vmod]

theorem vget_vmod_of_ne {α : Type} {n : Nat} (v : Vector α n) {i j : Fin n} (h : i ≠ j) (f : α → α) :
    vget (vmod v i f) j = vget v j := by
  simp [vmod, vget_vset_of_ne v h]

theorem cget_cset_of_ne {α : Type} [DecidableEq α] (d : α) (m : Cells α) {k j : Nat} (h : k ≠ j) (v : α) :
    cget d (cset d m k v) j = cget d m j := by
  induction m with
  | nil => unfold cset; split <;> simp [cget, h]
  | cons p t ih =>
    obtain ⟨i, w⟩ := p
    simp only [cset]
    split
    · split <;> simp [cget, h]
    · split
      · next hk => subst hk; split <;> simp [cget, h]
      · simp only [cget, ih]

theorem cget_of_lt {α : Type} [DecidableEq α] (d : α) (m : Cells α) {lo k : Nat} (hm : cwfFrom d lo m = true) (h : k < lo) :
    cget d m k = d := by
  induction m generalizing lo with
  | nil => rfl
  | cons p t ih =>
    obtain ⟨i, w⟩ := p
    simp only [cwfFrom, Bool.and_eq_true, decide_eq_true_eq] at hm
    have hi : i ≠ k := by omega
    simp only [cget, if_neg hi]
    exact ih hm.2 (by omega)

theorem cwfFrom_mono {α : Type} [DecidableEq α] (d : α) (m : Cells α) {lo lo' : Nat} (h : lo' ≤ lo) (hm : cwfFrom d lo m = true) :
    cwfFrom d lo' m = true := by
  cases m with
  | nil => rfl
  | cons p t =>
    simp only [cwfFrom, Bool.and_eq_true, decide_eq_true_eq] at hm ⊢
    exact ⟨⟨by omega, hm.1.2⟩, hm.2⟩

/-- Writing keeps the canonical form. -/
theorem cwfFrom_cset {α : Type} [DecidableEq α] (d : α) (m : Cells α) {lo k : Nat} (v : α) (hm : cwfFrom d lo m = true) (h : lo ≤ k) :
    cwfFrom d lo (cset d m k v) = true := by
  induction m generalizing lo with
  | nil => unfold cset; split <;> simp_all [cwfFrom]
  | cons p t ih =>
    obtain ⟨i, w⟩ := p
    have hm0 := hm
    simp only [cwfFrom, Bool.and_eq_true, decide_eq_true_eq] at hm
    simp only [cset]
    split
    · split
      · exact hm0
      · next hki hv =>
        simp only [cwfFrom, Bool.and_eq_true, decide_eq_true_eq]
        exact ⟨⟨h, hv⟩, ⟨by omega, hm.1.2⟩, hm.2⟩
    · split
      · next hk =>
        subst hk
        split
        · exact cwfFrom_mono d t (by omega) hm.2
        · next hv =>
          simp only [cwfFrom, Bool.and_eq_true, decide_eq_true_eq]
          exact ⟨⟨h, hv⟩, hm.2⟩
      · simp only [cwfFrom, Bool.and_eq_true, decide_eq_true_eq]
        exact ⟨⟨hm.1.1, hm.1.2⟩, ih hm.2 (by omega)⟩

theorem cwf_cset {α : Type} [DecidableEq α] (d : α) (m : Cells α) (k : Nat) (v : α) (hm : cwf d m = true) :
    cwf d (cset d m k v) = true := cwfFrom_cset d m v hm (Nat.zero_le k)

/-- Read after write. -/
theorem cget_cset_self {α : Type} [DecidableEq α] (d : α) (m : Cells α) {lo : Nat} (k : Nat) (v : α) (hm : cwfFrom d lo m = true) :
    cget d (cset d m k v) k = v := by
  induction m generalizing lo with
  | nil => unfold cset; split <;> simp_all [cget]
  | cons p t ih =>
    obtain ⟨i, w⟩ := p
    simp only [cwfFrom, Bool.and_eq_true, decide_eq_true_eq] at hm
    simp only [cset]
    split
    · next hki =>
      split
      · next hv =>
        have hi : i ≠ k := by omega
        simp only [cget, if_neg hi]
        rw [cget_of_lt d t hm.2 (by omega), hv]
      · simp [cget]
    · split
      · next hk =>
        subst hk
        split
        · next hv => rw [cget_of_lt d t hm.2 (by omega), hv]
        · simp [cget]
      · next hk =>
        have hi : i ≠ k := fun e => hk e.symm
        simp only [cget, if_neg hi]
        exact ih hm.2

theorem cget_cset {α : Type} [DecidableEq α] (d : α) (m : Cells α) (k j : Nat) (v : α) (hm : cwf d m = true) :
    cget d (cset d m k v) j = if k = j then v else cget d m j := by
  by_cases h : k = j
  · subst h; simp [cget_cset_self d m k v hm]
  · simp [h, cget_cset_of_ne d m h]

/-- Every memory operation keeps the canonical form. -/
theorem writeBytes_wf (bs : List Byte) (m : Memory) (a : Nat) (hm : cwf 0 m = true) : cwf 0 (writeBytes m a bs) = true := by
  induction bs generalizing m a with
  | nil => exact hm
  | cons b bs ih => exact ih _ _ (cwf_cset 0 m a b hm)

/-- A write leaves every byte outside it alone. -/
theorem readByte_writeBytes_outside (bs : List Byte) (m : Memory) (a j : Nat) (h : j < a ∨ a + bs.length ≤ j) :
    readByte (writeBytes m a bs) j = readByte m j := by
  induction bs generalizing m a with
  | nil => rfl
  | cons b bs ih =>
    simp only [writeBytes, List.length_cons] at *
    rw [ih (cset 0 m a b) (a + 1) (by omega)]
    exact cget_cset_of_ne 0 m (by omega) b

/-- A byte written reads as written. -/
theorem readByte_writeBytes (bs : List Byte) (m : Memory) (a j : Nat) (hm : cwf 0 m = true) (h : j < bs.length) :
    readByte (writeBytes m a bs) (a + j) = bs[j] := by
  induction bs generalizing m a j with
  | nil => simp at h
  | cons b bs ih =>
    cases j with
    | zero =>
      simp only [writeBytes, Nat.add_zero, List.getElem_cons_zero]
      rw [readByte_writeBytes_outside bs _ _ a (Or.inl (by omega))]
      exact cget_cset_self 0 m a b hm
    | succ j =>
      simp only [writeBytes, List.getElem_cons_succ]
      have := ih (cset 0 m a b) (a + 1) j (cwf_cset 0 m a b hm) (by simpa using h)
      rw [← this]; congr 1; omega

theorem readBytes_length (m : Memory) (a n : Nat) : (readBytes m a n).length = n := by
  induction n generalizing a with
  | zero => rfl
  | succ n ih => simp [readBytes, ih]

theorem readBytes_getElem (m : Memory) (a n i : Nat) (h : i < (readBytes m a n).length) :
    (readBytes m a n)[i] = readByte m (a + i) := by
  induction n generalizing a i with
  | zero => simp [readBytes] at h
  | succ n ih =>
    cases i with
    | zero => simp [readBytes]
    | succ i => simp only [readBytes, List.getElem_cons_succ]; rw [ih]; congr 1; omega

/-- Bytes written read back. -/
theorem readBytes_writeBytes (bs : List Byte) (m : Memory) (a : Nat) (hm : cwf 0 m = true) :
    readBytes (writeBytes m a bs) a bs.length = bs := by
  apply List.ext_getElem
  · simp [readBytes_length]
  · intro i h1 h2
    rw [readBytes_getElem, readByte_writeBytes bs m a i hm h2]

end Sys2Proof.Machine
end

