-- ==== Sys2Proof/Laws/State.lean ====
section
/-! SUPPORT. What each named update of the state leaves as it was, one lemma per update and field. -/

namespace Sys2Proof.Machine

@[simp] theorem State.fresh_time (s : State) : (s.fresh).time = s.time := rfl
@[simp] theorem State.fresh_evt (s : State) : (s.fresh).evt = s.evt := rfl
@[simp] theorem State.fresh_cues (s : State) : (s.fresh).cues = s.cues := rfl
@[simp] theorem State.fresh_host (s : State) : (s.fresh).host = s.host := rfl
@[simp] theorem State.fresh_journal (s : State) : (s.fresh).journal = s.journal := rfl
@[simp] theorem State.fresh_boot (s : State) : (s.fresh).boot = s.boot := rfl
@[simp] theorem State.fresh_sec (s : State) : (s.fresh).sec = s.sec := rfl
@[simp] theorem State.fresh_cu (s : State) : (s.fresh).cu = s.cu := rfl
@[simp] theorem State.fresh_tap (s : State) : (s.fresh).tap = s.tap := rfl
@[simp] theorem State.fresh_mon (s : State) : (s.fresh).mon = s.mon := rfl
@[simp] theorem State.fresh_green (s : State) : (s.fresh).green = s.green := rfl
@[simp] theorem State.fresh_running (s : State) : (s.fresh).running = s.running := rfl
@[simp] theorem State.fresh_old (s : State) : (s.fresh).old = s.old := rfl
@[simp] theorem State.fresh_before (s : State) : (s.fresh).before = s.before := rfl
@[simp] theorem State.fresh_engines (s : State) : (s.fresh).engines = s.engines := rfl
@[simp] theorem State.fresh_ctxs (s : State) : (s.fresh).ctxs = s.ctxs := rfl
@[simp] theorem State.fresh_pictures (s : State) : (s.fresh).pictures = s.pictures := rfl
@[simp] theorem State.fresh_rings (s : State) : (s.fresh).rings = s.rings := rfl
@[simp] theorem State.fresh_pairs (s : State) : (s.fresh).pairs = s.pairs := rfl
@[simp] theorem State.fresh_wasRings (s : State) : (s.fresh).wasRings = s.wasRings := rfl
@[simp] theorem State.fresh_wasPairs (s : State) : (s.fresh).wasPairs = s.wasPairs := rfl
@[simp] theorem State.fresh_curtain (s : State) : (s.fresh).curtain = s.curtain := rfl
@[simp] theorem State.fresh_audio (s : State) : (s.fresh).audio = s.audio := rfl
@[simp] theorem State.fresh_flow (s : State) : (s.fresh).flow = s.flow := rfl
@[simp] theorem State.fresh_links (s : State) : (s.fresh).links = s.links := rfl
@[simp] theorem State.fresh_lineRejects (s : State) : (s.fresh).lineRejects = s.lineRejects := rfl
@[simp] theorem State.fresh_cands (s : State) : (s.fresh).cands = s.cands := rfl
@[simp] theorem State.fresh_dpll (s : State) : (s.fresh).dpll = s.dpll := rfl
@[simp] theorem State.fresh_ddr (s : State) : (s.fresh).ddr = s.ddr := rfl
@[simp] theorem State.fresh_twin (s : State) : (s.fresh).twin = s.twin := rfl
@[simp] theorem State.fresh_pending (s : State) : (s.fresh).pending = s.pending := rfl

@[simp] theorem State.setEngine_time (s : State) (e : Fin 16) (g : Engine) : (s.setEngine e g).time = s.time := rfl
@[simp] theorem State.setEngine_evt (s : State) (e : Fin 16) (g : Engine) : (s.setEngine e g).evt = s.evt := rfl
@[simp] theorem State.setEngine_cues (s : State) (e : Fin 16) (g : Engine) : (s.setEngine e g).cues = s.cues := rfl
@[simp] theorem State.setEngine_host (s : State) (e : Fin 16) (g : Engine) : (s.setEngine e g).host = s.host := rfl
@[simp] theorem State.setEngine_journal (s : State) (e : Fin 16) (g : Engine) : (s.setEngine e g).journal = s.journal := rfl
@[simp] theorem State.setEngine_boot (s : State) (e : Fin 16) (g : Engine) : (s.setEngine e g).boot = s.boot := rfl
@[simp] theorem State.setEngine_sec (s : State) (e : Fin 16) (g : Engine) : (s.setEngine e g).sec = s.sec := rfl
@[simp] theorem State.setEngine_cu (s : State) (e : Fin 16) (g : Engine) : (s.setEngine e g).cu = s.cu := rfl
@[simp] theorem State.setEngine_tap (s : State) (e : Fin 16) (g : Engine) : (s.setEngine e g).tap = s.tap := rfl
@[simp] theorem State.setEngine_mon (s : State) (e : Fin 16) (g : Engine) : (s.setEngine e g).mon = s.mon := rfl
@[simp] theorem State.setEngine_green (s : State) (e : Fin 16) (g : Engine) : (s.setEngine e g).green = s.green := rfl
@[simp] theorem State.setEngine_running (s : State) (e : Fin 16) (g : Engine) : (s.setEngine e g).running = s.running := rfl
@[simp] theorem State.setEngine_old (s : State) (e : Fin 16) (g : Engine) : (s.setEngine e g).old = s.old := rfl
@[simp] theorem State.setEngine_before (s : State) (e : Fin 16) (g : Engine) : (s.setEngine e g).before = s.before := rfl
@[simp] theorem State.setEngine_ctxs (s : State) (e : Fin 16) (g : Engine) : (s.setEngine e g).ctxs = s.ctxs := rfl
@[simp] theorem State.setEngine_pictures (s : State) (e : Fin 16) (g : Engine) : (s.setEngine e g).pictures = s.pictures := rfl
@[simp] theorem State.setEngine_rings (s : State) (e : Fin 16) (g : Engine) : (s.setEngine e g).rings = s.rings := rfl
@[simp] theorem State.setEngine_pairs (s : State) (e : Fin 16) (g : Engine) : (s.setEngine e g).pairs = s.pairs := rfl
@[simp] theorem State.setEngine_wasRings (s : State) (e : Fin 16) (g : Engine) : (s.setEngine e g).wasRings = s.wasRings := rfl
@[simp] theorem State.setEngine_wasPairs (s : State) (e : Fin 16) (g : Engine) : (s.setEngine e g).wasPairs = s.wasPairs := rfl
@[simp] theorem State.setEngine_curtain (s : State) (e : Fin 16) (g : Engine) : (s.setEngine e g).curtain = s.curtain := rfl
@[simp] theorem State.setEngine_audio (s : State) (e : Fin 16) (g : Engine) : (s.setEngine e g).audio = s.audio := rfl
@[simp] theorem State.setEngine_flow (s : State) (e : Fin 16) (g : Engine) : (s.setEngine e g).flow = s.flow := rfl
@[simp] theorem State.setEngine_links (s : State) (e : Fin 16) (g : Engine) : (s.setEngine e g).links = s.links := rfl
@[simp] theorem State.setEngine_lineRejects (s : State) (e : Fin 16) (g : Engine) : (s.setEngine e g).lineRejects = s.lineRejects := rfl
@[simp] theorem State.setEngine_cands (s : State) (e : Fin 16) (g : Engine) : (s.setEngine e g).cands = s.cands := rfl
@[simp] theorem State.setEngine_dpll (s : State) (e : Fin 16) (g : Engine) : (s.setEngine e g).dpll = s.dpll := rfl
@[simp] theorem State.setEngine_ddr (s : State) (e : Fin 16) (g : Engine) : (s.setEngine e g).ddr = s.ddr := rfl
@[simp] theorem State.setEngine_twin (s : State) (e : Fin 16) (g : Engine) : (s.setEngine e g).twin = s.twin := rfl
@[simp] theorem State.setEngine_free (s : State) (e : Fin 16) (g : Engine) : (s.setEngine e g).free = s.free := rfl
@[simp] theorem State.setEngine_pending (s : State) (e : Fin 16) (g : Engine) : (s.setEngine e g).pending = s.pending := rfl

@[simp] theorem State.setCtx_time (s : State) (c : Nat) (x : CtxState) : (s.setCtx c x).time = s.time := rfl
@[simp] theorem State.setCtx_evt (s : State) (c : Nat) (x : CtxState) : (s.setCtx c x).evt = s.evt := rfl
@[simp] theorem State.setCtx_cues (s : State) (c : Nat) (x : CtxState) : (s.setCtx c x).cues = s.cues := rfl
@[simp] theorem State.setCtx_host (s : State) (c : Nat) (x : CtxState) : (s.setCtx c x).host = s.host := rfl
@[simp] theorem State.setCtx_journal (s : State) (c : Nat) (x : CtxState) : (s.setCtx c x).journal = s.journal := rfl
@[simp] theorem State.setCtx_boot (s : State) (c : Nat) (x : CtxState) : (s.setCtx c x).boot = s.boot := rfl
@[simp] theorem State.setCtx_sec (s : State) (c : Nat) (x : CtxState) : (s.setCtx c x).sec = s.sec := rfl
@[simp] theorem State.setCtx_cu (s : State) (c : Nat) (x : CtxState) : (s.setCtx c x).cu = s.cu := rfl
@[simp] theorem State.setCtx_tap (s : State) (c : Nat) (x : CtxState) : (s.setCtx c x).tap = s.tap := rfl
@[simp] theorem State.setCtx_mon (s : State) (c : Nat) (x : CtxState) : (s.setCtx c x).mon = s.mon := rfl
@[simp] theorem State.setCtx_green (s : State) (c : Nat) (x : CtxState) : (s.setCtx c x).green = s.green := rfl
@[simp] theorem State.setCtx_running (s : State) (c : Nat) (x : CtxState) : (s.setCtx c x).running = s.running := rfl
@[simp] theorem State.setCtx_old (s : State) (c : Nat) (x : CtxState) : (s.setCtx c x).old = s.old := rfl
@[simp] theorem State.setCtx_before (s : State) (c : Nat) (x : CtxState) : (s.setCtx c x).before = s.before := rfl
@[simp] theorem State.setCtx_engines (s : State) (c : Nat) (x : CtxState) : (s.setCtx c x).engines = s.engines := rfl
@[simp] theorem State.setCtx_pictures (s : State) (c : Nat) (x : CtxState) : (s.setCtx c x).pictures = s.pictures := rfl
@[simp] theorem State.setCtx_rings (s : State) (c : Nat) (x : CtxState) : (s.setCtx c x).rings = s.rings := rfl
@[simp] theorem State.setCtx_pairs (s : State) (c : Nat) (x : CtxState) : (s.setCtx c x).pairs = s.pairs := rfl
@[simp] theorem State.setCtx_wasRings (s : State) (c : Nat) (x : CtxState) : (s.setCtx c x).wasRings = s.wasRings := rfl
@[simp] theorem State.setCtx_wasPairs (s : State) (c : Nat) (x : CtxState) : (s.setCtx c x).wasPairs = s.wasPairs := rfl
@[simp] theorem State.setCtx_curtain (s : State) (c : Nat) (x : CtxState) : (s.setCtx c x).curtain = s.curtain := rfl
@[simp] theorem State.setCtx_audio (s : State) (c : Nat) (x : CtxState) : (s.setCtx c x).audio = s.audio := rfl
@[simp] theorem State.setCtx_flow (s : State) (c : Nat) (x : CtxState) : (s.setCtx c x).flow = s.flow := rfl
@[simp] theorem State.setCtx_links (s : State) (c : Nat) (x : CtxState) : (s.setCtx c x).links = s.links := rfl
@[simp] theorem State.setCtx_lineRejects (s : State) (c : Nat) (x : CtxState) : (s.setCtx c x).lineRejects = s.lineRejects := rfl
@[simp] theorem State.setCtx_cands (s : State) (c : Nat) (x : CtxState) : (s.setCtx c x).cands = s.cands := rfl
@[simp] theorem State.setCtx_dpll (s : State) (c : Nat) (x : CtxState) : (s.setCtx c x).dpll = s.dpll := rfl
@[simp] theorem State.setCtx_ddr (s : State) (c : Nat) (x : CtxState) : (s.setCtx c x).ddr = s.ddr := rfl
@[simp] theorem State.setCtx_twin (s : State) (c : Nat) (x : CtxState) : (s.setCtx c x).twin = s.twin := rfl
@[simp] theorem State.setCtx_free (s : State) (c : Nat) (x : CtxState) : (s.setCtx c x).free = s.free := rfl
@[simp] theorem State.setCtx_pending (s : State) (c : Nat) (x : CtxState) : (s.setCtx c x).pending = s.pending := rfl

@[simp] theorem State.setQueue_time (s : State) (q : Nat) (x : Queue) : (s.setQueue q x).time = s.time := rfl
@[simp] theorem State.setQueue_evt (s : State) (q : Nat) (x : Queue) : (s.setQueue q x).evt = s.evt := rfl
@[simp] theorem State.setQueue_cues (s : State) (q : Nat) (x : Queue) : (s.setQueue q x).cues = s.cues := rfl
@[simp] theorem State.setQueue_host (s : State) (q : Nat) (x : Queue) : (s.setQueue q x).host = s.host := rfl
@[simp] theorem State.setQueue_journal (s : State) (q : Nat) (x : Queue) : (s.setQueue q x).journal = s.journal := rfl
@[simp] theorem State.setQueue_boot (s : State) (q : Nat) (x : Queue) : (s.setQueue q x).boot = s.boot := rfl
@[simp] theorem State.setQueue_sec (s : State) (q : Nat) (x : Queue) : (s.setQueue q x).sec = s.sec := rfl
@[simp] theorem State.setQueue_cu (s : State) (q : Nat) (x : Queue) : (s.setQueue q x).cu = s.cu := rfl
@[simp] theorem State.setQueue_tap (s : State) (q : Nat) (x : Queue) : (s.setQueue q x).tap = s.tap := rfl
@[simp] theorem State.setQueue_mon (s : State) (q : Nat) (x : Queue) : (s.setQueue q x).mon = s.mon := rfl
@[simp] theorem State.setQueue_green (s : State) (q : Nat) (x : Queue) : (s.setQueue q x).green = s.green := rfl
@[simp] theorem State.setQueue_running (s : State) (q : Nat) (x : Queue) : (s.setQueue q x).running = s.running := rfl
@[simp] theorem State.setQueue_old (s : State) (q : Nat) (x : Queue) : (s.setQueue q x).old = s.old := rfl
@[simp] theorem State.setQueue_before (s : State) (q : Nat) (x : Queue) : (s.setQueue q x).before = s.before := rfl
@[simp] theorem State.setQueue_engines (s : State) (q : Nat) (x : Queue) : (s.setQueue q x).engines = s.engines := rfl
@[simp] theorem State.setQueue_ctxs (s : State) (q : Nat) (x : Queue) : (s.setQueue q x).ctxs = s.ctxs := rfl
@[simp] theorem State.setQueue_pictures (s : State) (q : Nat) (x : Queue) : (s.setQueue q x).pictures = s.pictures := rfl
@[simp] theorem State.setQueue_rings (s : State) (q : Nat) (x : Queue) : (s.setQueue q x).rings = s.rings := rfl
@[simp] theorem State.setQueue_pairs (s : State) (q : Nat) (x : Queue) : (s.setQueue q x).pairs = s.pairs := rfl
@[simp] theorem State.setQueue_wasRings (s : State) (q : Nat) (x : Queue) : (s.setQueue q x).wasRings = s.wasRings := rfl
@[simp] theorem State.setQueue_wasPairs (s : State) (q : Nat) (x : Queue) : (s.setQueue q x).wasPairs = s.wasPairs := rfl
@[simp] theorem State.setQueue_curtain (s : State) (q : Nat) (x : Queue) : (s.setQueue q x).curtain = s.curtain := rfl
@[simp] theorem State.setQueue_audio (s : State) (q : Nat) (x : Queue) : (s.setQueue q x).audio = s.audio := rfl
@[simp] theorem State.setQueue_links (s : State) (q : Nat) (x : Queue) : (s.setQueue q x).links = s.links := rfl
@[simp] theorem State.setQueue_lineRejects (s : State) (q : Nat) (x : Queue) : (s.setQueue q x).lineRejects = s.lineRejects := rfl
@[simp] theorem State.setQueue_cands (s : State) (q : Nat) (x : Queue) : (s.setQueue q x).cands = s.cands := rfl
@[simp] theorem State.setQueue_dpll (s : State) (q : Nat) (x : Queue) : (s.setQueue q x).dpll = s.dpll := rfl
@[simp] theorem State.setQueue_ddr (s : State) (q : Nat) (x : Queue) : (s.setQueue q x).ddr = s.ddr := rfl
@[simp] theorem State.setQueue_twin (s : State) (q : Nat) (x : Queue) : (s.setQueue q x).twin = s.twin := rfl
@[simp] theorem State.setQueue_free (s : State) (q : Nat) (x : Queue) : (s.setQueue q x).free = s.free := rfl
@[simp] theorem State.setQueue_pending (s : State) (q : Nat) (x : Queue) : (s.setQueue q x).pending = s.pending := rfl

@[simp] theorem State.setStrm_time (s : State) (q : Nat) (x : StreamSt) : (s.setStrm q x).time = s.time := rfl
@[simp] theorem State.setStrm_evt (s : State) (q : Nat) (x : StreamSt) : (s.setStrm q x).evt = s.evt := rfl
@[simp] theorem State.setStrm_cues (s : State) (q : Nat) (x : StreamSt) : (s.setStrm q x).cues = s.cues := rfl
@[simp] theorem State.setStrm_host (s : State) (q : Nat) (x : StreamSt) : (s.setStrm q x).host = s.host := rfl
@[simp] theorem State.setStrm_journal (s : State) (q : Nat) (x : StreamSt) : (s.setStrm q x).journal = s.journal := rfl
@[simp] theorem State.setStrm_boot (s : State) (q : Nat) (x : StreamSt) : (s.setStrm q x).boot = s.boot := rfl
@[simp] theorem State.setStrm_sec (s : State) (q : Nat) (x : StreamSt) : (s.setStrm q x).sec = s.sec := rfl
@[simp] theorem State.setStrm_cu (s : State) (q : Nat) (x : StreamSt) : (s.setStrm q x).cu = s.cu := rfl
@[simp] theorem State.setStrm_tap (s : State) (q : Nat) (x : StreamSt) : (s.setStrm q x).tap = s.tap := rfl
@[simp] theorem State.setStrm_mon (s : State) (q : Nat) (x : StreamSt) : (s.setStrm q x).mon = s.mon := rfl
@[simp] theorem State.setStrm_green (s : State) (q : Nat) (x : StreamSt) : (s.setStrm q x).green = s.green := rfl
@[simp] theorem State.setStrm_running (s : State) (q : Nat) (x : StreamSt) : (s.setStrm q x).running = s.running := rfl
@[simp] theorem State.setStrm_old (s : State) (q : Nat) (x : StreamSt) : (s.setStrm q x).old = s.old := rfl
@[simp] theorem State.setStrm_before (s : State) (q : Nat) (x : StreamSt) : (s.setStrm q x).before = s.before := rfl
@[simp] theorem State.setStrm_engines (s : State) (q : Nat) (x : StreamSt) : (s.setStrm q x).engines = s.engines := rfl
@[simp] theorem State.setStrm_ctxs (s : State) (q : Nat) (x : StreamSt) : (s.setStrm q x).ctxs = s.ctxs := rfl
@[simp] theorem State.setStrm_pictures (s : State) (q : Nat) (x : StreamSt) : (s.setStrm q x).pictures = s.pictures := rfl
@[simp] theorem State.setStrm_rings (s : State) (q : Nat) (x : StreamSt) : (s.setStrm q x).rings = s.rings := rfl
@[simp] theorem State.setStrm_pairs (s : State) (q : Nat) (x : StreamSt) : (s.setStrm q x).pairs = s.pairs := rfl
@[simp] theorem State.setStrm_wasRings (s : State) (q : Nat) (x : StreamSt) : (s.setStrm q x).wasRings = s.wasRings := rfl
@[simp] theorem State.setStrm_wasPairs (s : State) (q : Nat) (x : StreamSt) : (s.setStrm q x).wasPairs = s.wasPairs := rfl
@[simp] theorem State.setStrm_curtain (s : State) (q : Nat) (x : StreamSt) : (s.setStrm q x).curtain = s.curtain := rfl
@[simp] theorem State.setStrm_audio (s : State) (q : Nat) (x : StreamSt) : (s.setStrm q x).audio = s.audio := rfl
@[simp] theorem State.setStrm_links (s : State) (q : Nat) (x : StreamSt) : (s.setStrm q x).links = s.links := rfl
@[simp] theorem State.setStrm_lineRejects (s : State) (q : Nat) (x : StreamSt) : (s.setStrm q x).lineRejects = s.lineRejects := rfl
@[simp] theorem State.setStrm_cands (s : State) (q : Nat) (x : StreamSt) : (s.setStrm q x).cands = s.cands := rfl
@[simp] theorem State.setStrm_dpll (s : State) (q : Nat) (x : StreamSt) : (s.setStrm q x).dpll = s.dpll := rfl
@[simp] theorem State.setStrm_ddr (s : State) (q : Nat) (x : StreamSt) : (s.setStrm q x).ddr = s.ddr := rfl
@[simp] theorem State.setStrm_twin (s : State) (q : Nat) (x : StreamSt) : (s.setStrm q x).twin = s.twin := rfl
@[simp] theorem State.setStrm_free (s : State) (q : Nat) (x : StreamSt) : (s.setStrm q x).free = s.free := rfl
@[simp] theorem State.setStrm_pending (s : State) (q : Nat) (x : StreamSt) : (s.setStrm q x).pending = s.pending := rfl

@[simp] theorem State.setTask_time (s : State) (t : Task) : (s.setTask t).time = s.time := rfl
@[simp] theorem State.setTask_evt (s : State) (t : Task) : (s.setTask t).evt = s.evt := rfl
@[simp] theorem State.setTask_cues (s : State) (t : Task) : (s.setTask t).cues = s.cues := rfl
@[simp] theorem State.setTask_host (s : State) (t : Task) : (s.setTask t).host = s.host := rfl
@[simp] theorem State.setTask_journal (s : State) (t : Task) : (s.setTask t).journal = s.journal := rfl
@[simp] theorem State.setTask_boot (s : State) (t : Task) : (s.setTask t).boot = s.boot := rfl
@[simp] theorem State.setTask_sec (s : State) (t : Task) : (s.setTask t).sec = s.sec := rfl
@[simp] theorem State.setTask_cu (s : State) (t : Task) : (s.setTask t).cu = s.cu := rfl
@[simp] theorem State.setTask_tap (s : State) (t : Task) : (s.setTask t).tap = s.tap := rfl
@[simp] theorem State.setTask_mon (s : State) (t : Task) : (s.setTask t).mon = s.mon := rfl
@[simp] theorem State.setTask_green (s : State) (t : Task) : (s.setTask t).green = s.green := rfl
@[simp] theorem State.setTask_running (s : State) (t : Task) : (s.setTask t).running = s.running := rfl
@[simp] theorem State.setTask_old (s : State) (t : Task) : (s.setTask t).old = s.old := rfl
@[simp] theorem State.setTask_before (s : State) (t : Task) : (s.setTask t).before = s.before := rfl
@[simp] theorem State.setTask_engines (s : State) (t : Task) : (s.setTask t).engines = s.engines := rfl
@[simp] theorem State.setTask_ctxs (s : State) (t : Task) : (s.setTask t).ctxs = s.ctxs := rfl
@[simp] theorem State.setTask_pictures (s : State) (t : Task) : (s.setTask t).pictures = s.pictures := rfl
@[simp] theorem State.setTask_rings (s : State) (t : Task) : (s.setTask t).rings = s.rings := rfl
@[simp] theorem State.setTask_pairs (s : State) (t : Task) : (s.setTask t).pairs = s.pairs := rfl
@[simp] theorem State.setTask_wasRings (s : State) (t : Task) : (s.setTask t).wasRings = s.wasRings := rfl
@[simp] theorem State.setTask_wasPairs (s : State) (t : Task) : (s.setTask t).wasPairs = s.wasPairs := rfl
@[simp] theorem State.setTask_curtain (s : State) (t : Task) : (s.setTask t).curtain = s.curtain := rfl
@[simp] theorem State.setTask_audio (s : State) (t : Task) : (s.setTask t).audio = s.audio := rfl
@[simp] theorem State.setTask_links (s : State) (t : Task) : (s.setTask t).links = s.links := rfl
@[simp] theorem State.setTask_lineRejects (s : State) (t : Task) : (s.setTask t).lineRejects = s.lineRejects := rfl
@[simp] theorem State.setTask_cands (s : State) (t : Task) : (s.setTask t).cands = s.cands := rfl
@[simp] theorem State.setTask_dpll (s : State) (t : Task) : (s.setTask t).dpll = s.dpll := rfl
@[simp] theorem State.setTask_ddr (s : State) (t : Task) : (s.setTask t).ddr = s.ddr := rfl
@[simp] theorem State.setTask_twin (s : State) (t : Task) : (s.setTask t).twin = s.twin := rfl
@[simp] theorem State.setTask_free (s : State) (t : Task) : (s.setTask t).free = s.free := rfl
@[simp] theorem State.setTask_pending (s : State) (t : Task) : (s.setTask t).pending = s.pending := rfl

@[simp] theorem State.newTask_time (s : State) (t : Task) : (s.newTask t).time = s.time := rfl
@[simp] theorem State.newTask_evt (s : State) (t : Task) : (s.newTask t).evt = s.evt := rfl
@[simp] theorem State.newTask_cues (s : State) (t : Task) : (s.newTask t).cues = s.cues := rfl
@[simp] theorem State.newTask_host (s : State) (t : Task) : (s.newTask t).host = s.host := rfl
@[simp] theorem State.newTask_journal (s : State) (t : Task) : (s.newTask t).journal = s.journal := rfl
@[simp] theorem State.newTask_boot (s : State) (t : Task) : (s.newTask t).boot = s.boot := rfl
@[simp] theorem State.newTask_sec (s : State) (t : Task) : (s.newTask t).sec = s.sec := rfl
@[simp] theorem State.newTask_cu (s : State) (t : Task) : (s.newTask t).cu = s.cu := rfl
@[simp] theorem State.newTask_tap (s : State) (t : Task) : (s.newTask t).tap = s.tap := rfl
@[simp] theorem State.newTask_mon (s : State) (t : Task) : (s.newTask t).mon = s.mon := rfl
@[simp] theorem State.newTask_green (s : State) (t : Task) : (s.newTask t).green = s.green := rfl
@[simp] theorem State.newTask_running (s : State) (t : Task) : (s.newTask t).running = s.running := rfl
@[simp] theorem State.newTask_old (s : State) (t : Task) : (s.newTask t).old = s.old := rfl
@[simp] theorem State.newTask_before (s : State) (t : Task) : (s.newTask t).before = s.before := rfl
@[simp] theorem State.newTask_engines (s : State) (t : Task) : (s.newTask t).engines = s.engines := rfl
@[simp] theorem State.newTask_ctxs (s : State) (t : Task) : (s.newTask t).ctxs = s.ctxs := rfl
@[simp] theorem State.newTask_pictures (s : State) (t : Task) : (s.newTask t).pictures = s.pictures := rfl
@[simp] theorem State.newTask_rings (s : State) (t : Task) : (s.newTask t).rings = s.rings := rfl
@[simp] theorem State.newTask_pairs (s : State) (t : Task) : (s.newTask t).pairs = s.pairs := rfl
@[simp] theorem State.newTask_wasRings (s : State) (t : Task) : (s.newTask t).wasRings = s.wasRings := rfl
@[simp] theorem State.newTask_wasPairs (s : State) (t : Task) : (s.newTask t).wasPairs = s.wasPairs := rfl
@[simp] theorem State.newTask_curtain (s : State) (t : Task) : (s.newTask t).curtain = s.curtain := rfl
@[simp] theorem State.newTask_audio (s : State) (t : Task) : (s.newTask t).audio = s.audio := rfl
@[simp] theorem State.newTask_links (s : State) (t : Task) : (s.newTask t).links = s.links := rfl
@[simp] theorem State.newTask_lineRejects (s : State) (t : Task) : (s.newTask t).lineRejects = s.lineRejects := rfl
@[simp] theorem State.newTask_cands (s : State) (t : Task) : (s.newTask t).cands = s.cands := rfl
@[simp] theorem State.newTask_dpll (s : State) (t : Task) : (s.newTask t).dpll = s.dpll := rfl
@[simp] theorem State.newTask_ddr (s : State) (t : Task) : (s.newTask t).ddr = s.ddr := rfl
@[simp] theorem State.newTask_twin (s : State) (t : Task) : (s.newTask t).twin = s.twin := rfl
@[simp] theorem State.newTask_free (s : State) (t : Task) : (s.newTask t).free = s.free := rfl
@[simp] theorem State.newTask_pending (s : State) (t : Task) : (s.newTask t).pending = s.pending := rfl

@[simp] theorem State.setLadle_time (s : State) (l : Fin 16) (x : Ladle) : (s.setLadle l x).time = s.time := rfl
@[simp] theorem State.setLadle_evt (s : State) (l : Fin 16) (x : Ladle) : (s.setLadle l x).evt = s.evt := rfl
@[simp] theorem State.setLadle_cues (s : State) (l : Fin 16) (x : Ladle) : (s.setLadle l x).cues = s.cues := rfl
@[simp] theorem State.setLadle_host (s : State) (l : Fin 16) (x : Ladle) : (s.setLadle l x).host = s.host := rfl
@[simp] theorem State.setLadle_journal (s : State) (l : Fin 16) (x : Ladle) : (s.setLadle l x).journal = s.journal := rfl
@[simp] theorem State.setLadle_boot (s : State) (l : Fin 16) (x : Ladle) : (s.setLadle l x).boot = s.boot := rfl
@[simp] theorem State.setLadle_sec (s : State) (l : Fin 16) (x : Ladle) : (s.setLadle l x).sec = s.sec := rfl
@[simp] theorem State.setLadle_cu (s : State) (l : Fin 16) (x : Ladle) : (s.setLadle l x).cu = s.cu := rfl
@[simp] theorem State.setLadle_tap (s : State) (l : Fin 16) (x : Ladle) : (s.setLadle l x).tap = s.tap := rfl
@[simp] theorem State.setLadle_mon (s : State) (l : Fin 16) (x : Ladle) : (s.setLadle l x).mon = s.mon := rfl
@[simp] theorem State.setLadle_green (s : State) (l : Fin 16) (x : Ladle) : (s.setLadle l x).green = s.green := rfl
@[simp] theorem State.setLadle_running (s : State) (l : Fin 16) (x : Ladle) : (s.setLadle l x).running = s.running := rfl
@[simp] theorem State.setLadle_old (s : State) (l : Fin 16) (x : Ladle) : (s.setLadle l x).old = s.old := rfl
@[simp] theorem State.setLadle_before (s : State) (l : Fin 16) (x : Ladle) : (s.setLadle l x).before = s.before := rfl
@[simp] theorem State.setLadle_engines (s : State) (l : Fin 16) (x : Ladle) : (s.setLadle l x).engines = s.engines := rfl
@[simp] theorem State.setLadle_ctxs (s : State) (l : Fin 16) (x : Ladle) : (s.setLadle l x).ctxs = s.ctxs := rfl
@[simp] theorem State.setLadle_pictures (s : State) (l : Fin 16) (x : Ladle) : (s.setLadle l x).pictures = s.pictures := rfl
@[simp] theorem State.setLadle_rings (s : State) (l : Fin 16) (x : Ladle) : (s.setLadle l x).rings = s.rings := rfl
@[simp] theorem State.setLadle_pairs (s : State) (l : Fin 16) (x : Ladle) : (s.setLadle l x).pairs = s.pairs := rfl
@[simp] theorem State.setLadle_wasRings (s : State) (l : Fin 16) (x : Ladle) : (s.setLadle l x).wasRings = s.wasRings := rfl
@[simp] theorem State.setLadle_wasPairs (s : State) (l : Fin 16) (x : Ladle) : (s.setLadle l x).wasPairs = s.wasPairs := rfl
@[simp] theorem State.setLadle_curtain (s : State) (l : Fin 16) (x : Ladle) : (s.setLadle l x).curtain = s.curtain := rfl
@[simp] theorem State.setLadle_audio (s : State) (l : Fin 16) (x : Ladle) : (s.setLadle l x).audio = s.audio := rfl
@[simp] theorem State.setLadle_links (s : State) (l : Fin 16) (x : Ladle) : (s.setLadle l x).links = s.links := rfl
@[simp] theorem State.setLadle_lineRejects (s : State) (l : Fin 16) (x : Ladle) : (s.setLadle l x).lineRejects = s.lineRejects := rfl
@[simp] theorem State.setLadle_cands (s : State) (l : Fin 16) (x : Ladle) : (s.setLadle l x).cands = s.cands := rfl
@[simp] theorem State.setLadle_dpll (s : State) (l : Fin 16) (x : Ladle) : (s.setLadle l x).dpll = s.dpll := rfl
@[simp] theorem State.setLadle_ddr (s : State) (l : Fin 16) (x : Ladle) : (s.setLadle l x).ddr = s.ddr := rfl
@[simp] theorem State.setLadle_twin (s : State) (l : Fin 16) (x : Ladle) : (s.setLadle l x).twin = s.twin := rfl
@[simp] theorem State.setLadle_free (s : State) (l : Fin 16) (x : Ladle) : (s.setLadle l x).free = s.free := rfl
@[simp] theorem State.setLadle_pending (s : State) (l : Fin 16) (x : Ladle) : (s.setLadle l x).pending = s.pending := rfl

@[simp] theorem State.setLink_time (s : State) (i : Fin 12) (l : Link) : (s.setLink i l).time = s.time := rfl
@[simp] theorem State.setLink_evt (s : State) (i : Fin 12) (l : Link) : (s.setLink i l).evt = s.evt := rfl
@[simp] theorem State.setLink_cues (s : State) (i : Fin 12) (l : Link) : (s.setLink i l).cues = s.cues := rfl
@[simp] theorem State.setLink_host (s : State) (i : Fin 12) (l : Link) : (s.setLink i l).host = s.host := rfl
@[simp] theorem State.setLink_journal (s : State) (i : Fin 12) (l : Link) : (s.setLink i l).journal = s.journal := rfl
@[simp] theorem State.setLink_boot (s : State) (i : Fin 12) (l : Link) : (s.setLink i l).boot = s.boot := rfl
@[simp] theorem State.setLink_sec (s : State) (i : Fin 12) (l : Link) : (s.setLink i l).sec = s.sec := rfl
@[simp] theorem State.setLink_cu (s : State) (i : Fin 12) (l : Link) : (s.setLink i l).cu = s.cu := rfl
@[simp] theorem State.setLink_tap (s : State) (i : Fin 12) (l : Link) : (s.setLink i l).tap = s.tap := rfl
@[simp] theorem State.setLink_mon (s : State) (i : Fin 12) (l : Link) : (s.setLink i l).mon = s.mon := rfl
@[simp] theorem State.setLink_green (s : State) (i : Fin 12) (l : Link) : (s.setLink i l).green = s.green := rfl
@[simp] theorem State.setLink_running (s : State) (i : Fin 12) (l : Link) : (s.setLink i l).running = s.running := rfl
@[simp] theorem State.setLink_old (s : State) (i : Fin 12) (l : Link) : (s.setLink i l).old = s.old := rfl
@[simp] theorem State.setLink_before (s : State) (i : Fin 12) (l : Link) : (s.setLink i l).before = s.before := rfl
@[simp] theorem State.setLink_engines (s : State) (i : Fin 12) (l : Link) : (s.setLink i l).engines = s.engines := rfl
@[simp] theorem State.setLink_ctxs (s : State) (i : Fin 12) (l : Link) : (s.setLink i l).ctxs = s.ctxs := rfl
@[simp] theorem State.setLink_pictures (s : State) (i : Fin 12) (l : Link) : (s.setLink i l).pictures = s.pictures := rfl
@[simp] theorem State.setLink_rings (s : State) (i : Fin 12) (l : Link) : (s.setLink i l).rings = s.rings := rfl
@[simp] theorem State.setLink_pairs (s : State) (i : Fin 12) (l : Link) : (s.setLink i l).pairs = s.pairs := rfl
@[simp] theorem State.setLink_wasRings (s : State) (i : Fin 12) (l : Link) : (s.setLink i l).wasRings = s.wasRings := rfl
@[simp] theorem State.setLink_wasPairs (s : State) (i : Fin 12) (l : Link) : (s.setLink i l).wasPairs = s.wasPairs := rfl
@[simp] theorem State.setLink_curtain (s : State) (i : Fin 12) (l : Link) : (s.setLink i l).curtain = s.curtain := rfl
@[simp] theorem State.setLink_audio (s : State) (i : Fin 12) (l : Link) : (s.setLink i l).audio = s.audio := rfl
@[simp] theorem State.setLink_flow (s : State) (i : Fin 12) (l : Link) : (s.setLink i l).flow = s.flow := rfl
@[simp] theorem State.setLink_lineRejects (s : State) (i : Fin 12) (l : Link) : (s.setLink i l).lineRejects = s.lineRejects := rfl
@[simp] theorem State.setLink_cands (s : State) (i : Fin 12) (l : Link) : (s.setLink i l).cands = s.cands := rfl
@[simp] theorem State.setLink_dpll (s : State) (i : Fin 12) (l : Link) : (s.setLink i l).dpll = s.dpll := rfl
@[simp] theorem State.setLink_ddr (s : State) (i : Fin 12) (l : Link) : (s.setLink i l).ddr = s.ddr := rfl
@[simp] theorem State.setLink_twin (s : State) (i : Fin 12) (l : Link) : (s.setLink i l).twin = s.twin := rfl
@[simp] theorem State.setLink_free (s : State) (i : Fin 12) (l : Link) : (s.setLink i l).free = s.free := rfl
@[simp] theorem State.setLink_pending (s : State) (i : Fin 12) (l : Link) : (s.setLink i l).pending = s.pending := rfl

@[simp] theorem State.popInbox_time (s : State) (i : Fin 12) (vc : Fin 8) : (s.popInbox i vc).time = s.time := rfl
@[simp] theorem State.popInbox_evt (s : State) (i : Fin 12) (vc : Fin 8) : (s.popInbox i vc).evt = s.evt := rfl
@[simp] theorem State.popInbox_cues (s : State) (i : Fin 12) (vc : Fin 8) : (s.popInbox i vc).cues = s.cues := rfl
@[simp] theorem State.popInbox_host (s : State) (i : Fin 12) (vc : Fin 8) : (s.popInbox i vc).host = s.host := rfl
@[simp] theorem State.popInbox_journal (s : State) (i : Fin 12) (vc : Fin 8) : (s.popInbox i vc).journal = s.journal := rfl
@[simp] theorem State.popInbox_boot (s : State) (i : Fin 12) (vc : Fin 8) : (s.popInbox i vc).boot = s.boot := rfl
@[simp] theorem State.popInbox_sec (s : State) (i : Fin 12) (vc : Fin 8) : (s.popInbox i vc).sec = s.sec := rfl
@[simp] theorem State.popInbox_cu (s : State) (i : Fin 12) (vc : Fin 8) : (s.popInbox i vc).cu = s.cu := rfl
@[simp] theorem State.popInbox_tap (s : State) (i : Fin 12) (vc : Fin 8) : (s.popInbox i vc).tap = s.tap := rfl
@[simp] theorem State.popInbox_mon (s : State) (i : Fin 12) (vc : Fin 8) : (s.popInbox i vc).mon = s.mon := rfl
@[simp] theorem State.popInbox_green (s : State) (i : Fin 12) (vc : Fin 8) : (s.popInbox i vc).green = s.green := rfl
@[simp] theorem State.popInbox_running (s : State) (i : Fin 12) (vc : Fin 8) : (s.popInbox i vc).running = s.running := rfl
@[simp] theorem State.popInbox_old (s : State) (i : Fin 12) (vc : Fin 8) : (s.popInbox i vc).old = s.old := rfl
@[simp] theorem State.popInbox_before (s : State) (i : Fin 12) (vc : Fin 8) : (s.popInbox i vc).before = s.before := rfl
@[simp] theorem State.popInbox_engines (s : State) (i : Fin 12) (vc : Fin 8) : (s.popInbox i vc).engines = s.engines := rfl
@[simp] theorem State.popInbox_ctxs (s : State) (i : Fin 12) (vc : Fin 8) : (s.popInbox i vc).ctxs = s.ctxs := rfl
@[simp] theorem State.popInbox_pictures (s : State) (i : Fin 12) (vc : Fin 8) : (s.popInbox i vc).pictures = s.pictures := rfl
@[simp] theorem State.popInbox_rings (s : State) (i : Fin 12) (vc : Fin 8) : (s.popInbox i vc).rings = s.rings := rfl
@[simp] theorem State.popInbox_pairs (s : State) (i : Fin 12) (vc : Fin 8) : (s.popInbox i vc).pairs = s.pairs := rfl
@[simp] theorem State.popInbox_wasRings (s : State) (i : Fin 12) (vc : Fin 8) : (s.popInbox i vc).wasRings = s.wasRings := rfl
@[simp] theorem State.popInbox_wasPairs (s : State) (i : Fin 12) (vc : Fin 8) : (s.popInbox i vc).wasPairs = s.wasPairs := rfl
@[simp] theorem State.popInbox_curtain (s : State) (i : Fin 12) (vc : Fin 8) : (s.popInbox i vc).curtain = s.curtain := rfl
@[simp] theorem State.popInbox_audio (s : State) (i : Fin 12) (vc : Fin 8) : (s.popInbox i vc).audio = s.audio := rfl
@[simp] theorem State.popInbox_flow (s : State) (i : Fin 12) (vc : Fin 8) : (s.popInbox i vc).flow = s.flow := rfl
@[simp] theorem State.popInbox_lineRejects (s : State) (i : Fin 12) (vc : Fin 8) : (s.popInbox i vc).lineRejects = s.lineRejects := rfl
@[simp] theorem State.popInbox_cands (s : State) (i : Fin 12) (vc : Fin 8) : (s.popInbox i vc).cands = s.cands := rfl
@[simp] theorem State.popInbox_dpll (s : State) (i : Fin 12) (vc : Fin 8) : (s.popInbox i vc).dpll = s.dpll := rfl
@[simp] theorem State.popInbox_ddr (s : State) (i : Fin 12) (vc : Fin 8) : (s.popInbox i vc).ddr = s.ddr := rfl
@[simp] theorem State.popInbox_twin (s : State) (i : Fin 12) (vc : Fin 8) : (s.popInbox i vc).twin = s.twin := rfl
@[simp] theorem State.popInbox_free (s : State) (i : Fin 12) (vc : Fin 8) : (s.popInbox i vc).free = s.free := rfl
@[simp] theorem State.popInbox_pending (s : State) (i : Fin 12) (vc : Fin 8) : (s.popInbox i vc).pending = s.pending := rfl

@[simp] theorem State.setSub_time (s : State) (i : Fin 12) (c : SubCh) : (s.setSub i c).time = s.time := rfl
@[simp] theorem State.setSub_evt (s : State) (i : Fin 12) (c : SubCh) : (s.setSub i c).evt = s.evt := rfl
@[simp] theorem State.setSub_cues (s : State) (i : Fin 12) (c : SubCh) : (s.setSub i c).cues = s.cues := rfl
@[simp] theorem State.setSub_host (s : State) (i : Fin 12) (c : SubCh) : (s.setSub i c).host = s.host := rfl
@[simp] theorem State.setSub_journal (s : State) (i : Fin 12) (c : SubCh) : (s.setSub i c).journal = s.journal := rfl
@[simp] theorem State.setSub_boot (s : State) (i : Fin 12) (c : SubCh) : (s.setSub i c).boot = s.boot := rfl
@[simp] theorem State.setSub_sec (s : State) (i : Fin 12) (c : SubCh) : (s.setSub i c).sec = s.sec := rfl
@[simp] theorem State.setSub_cu (s : State) (i : Fin 12) (c : SubCh) : (s.setSub i c).cu = s.cu := rfl
@[simp] theorem State.setSub_tap (s : State) (i : Fin 12) (c : SubCh) : (s.setSub i c).tap = s.tap := rfl
@[simp] theorem State.setSub_mon (s : State) (i : Fin 12) (c : SubCh) : (s.setSub i c).mon = s.mon := rfl
@[simp] theorem State.setSub_green (s : State) (i : Fin 12) (c : SubCh) : (s.setSub i c).green = s.green := rfl
@[simp] theorem State.setSub_running (s : State) (i : Fin 12) (c : SubCh) : (s.setSub i c).running = s.running := rfl
@[simp] theorem State.setSub_old (s : State) (i : Fin 12) (c : SubCh) : (s.setSub i c).old = s.old := rfl
@[simp] theorem State.setSub_before (s : State) (i : Fin 12) (c : SubCh) : (s.setSub i c).before = s.before := rfl
@[simp] theorem State.setSub_engines (s : State) (i : Fin 12) (c : SubCh) : (s.setSub i c).engines = s.engines := rfl
@[simp] theorem State.setSub_ctxs (s : State) (i : Fin 12) (c : SubCh) : (s.setSub i c).ctxs = s.ctxs := rfl
@[simp] theorem State.setSub_pictures (s : State) (i : Fin 12) (c : SubCh) : (s.setSub i c).pictures = s.pictures := rfl
@[simp] theorem State.setSub_rings (s : State) (i : Fin 12) (c : SubCh) : (s.setSub i c).rings = s.rings := rfl
@[simp] theorem State.setSub_pairs (s : State) (i : Fin 12) (c : SubCh) : (s.setSub i c).pairs = s.pairs := rfl
@[simp] theorem State.setSub_wasRings (s : State) (i : Fin 12) (c : SubCh) : (s.setSub i c).wasRings = s.wasRings := rfl
@[simp] theorem State.setSub_wasPairs (s : State) (i : Fin 12) (c : SubCh) : (s.setSub i c).wasPairs = s.wasPairs := rfl
@[simp] theorem State.setSub_curtain (s : State) (i : Fin 12) (c : SubCh) : (s.setSub i c).curtain = s.curtain := rfl
@[simp] theorem State.setSub_audio (s : State) (i : Fin 12) (c : SubCh) : (s.setSub i c).audio = s.audio := rfl
@[simp] theorem State.setSub_flow (s : State) (i : Fin 12) (c : SubCh) : (s.setSub i c).flow = s.flow := rfl
@[simp] theorem State.setSub_links (s : State) (i : Fin 12) (c : SubCh) : (s.setSub i c).links = s.links := rfl
@[simp] theorem State.setSub_lineRejects (s : State) (i : Fin 12) (c : SubCh) : (s.setSub i c).lineRejects = s.lineRejects := rfl
@[simp] theorem State.setSub_cands (s : State) (i : Fin 12) (c : SubCh) : (s.setSub i c).cands = s.cands := rfl
@[simp] theorem State.setSub_dpll (s : State) (i : Fin 12) (c : SubCh) : (s.setSub i c).dpll = s.dpll := rfl
@[simp] theorem State.setSub_twin (s : State) (i : Fin 12) (c : SubCh) : (s.setSub i c).twin = s.twin := rfl
@[simp] theorem State.setSub_free (s : State) (i : Fin 12) (c : SubCh) : (s.setSub i c).free = s.free := rfl
@[simp] theorem State.setSub_pending (s : State) (i : Fin 12) (c : SubCh) : (s.setSub i c).pending = s.pending := rfl

@[simp] theorem State.setPort_time (s : State) (i : Fin 32) (x : APortState) : (s.setPort i x).time = s.time := rfl
@[simp] theorem State.setPort_evt (s : State) (i : Fin 32) (x : APortState) : (s.setPort i x).evt = s.evt := rfl
@[simp] theorem State.setPort_cues (s : State) (i : Fin 32) (x : APortState) : (s.setPort i x).cues = s.cues := rfl
@[simp] theorem State.setPort_host (s : State) (i : Fin 32) (x : APortState) : (s.setPort i x).host = s.host := rfl
@[simp] theorem State.setPort_journal (s : State) (i : Fin 32) (x : APortState) : (s.setPort i x).journal = s.journal := rfl
@[simp] theorem State.setPort_boot (s : State) (i : Fin 32) (x : APortState) : (s.setPort i x).boot = s.boot := rfl
@[simp] theorem State.setPort_sec (s : State) (i : Fin 32) (x : APortState) : (s.setPort i x).sec = s.sec := rfl
@[simp] theorem State.setPort_cu (s : State) (i : Fin 32) (x : APortState) : (s.setPort i x).cu = s.cu := rfl
@[simp] theorem State.setPort_tap (s : State) (i : Fin 32) (x : APortState) : (s.setPort i x).tap = s.tap := rfl
@[simp] theorem State.setPort_mon (s : State) (i : Fin 32) (x : APortState) : (s.setPort i x).mon = s.mon := rfl
@[simp] theorem State.setPort_green (s : State) (i : Fin 32) (x : APortState) : (s.setPort i x).green = s.green := rfl
@[simp] theorem State.setPort_running (s : State) (i : Fin 32) (x : APortState) : (s.setPort i x).running = s.running := rfl
@[simp] theorem State.setPort_old (s : State) (i : Fin 32) (x : APortState) : (s.setPort i x).old = s.old := rfl
@[simp] theorem State.setPort_before (s : State) (i : Fin 32) (x : APortState) : (s.setPort i x).before = s.before := rfl
@[simp] theorem State.setPort_engines (s : State) (i : Fin 32) (x : APortState) : (s.setPort i x).engines = s.engines := rfl
@[simp] theorem State.setPort_ctxs (s : State) (i : Fin 32) (x : APortState) : (s.setPort i x).ctxs = s.ctxs := rfl
@[simp] theorem State.setPort_pictures (s : State) (i : Fin 32) (x : APortState) : (s.setPort i x).pictures = s.pictures := rfl
@[simp] theorem State.setPort_rings (s : State) (i : Fin 32) (x : APortState) : (s.setPort i x).rings = s.rings := rfl
@[simp] theorem State.setPort_pairs (s : State) (i : Fin 32) (x : APortState) : (s.setPort i x).pairs = s.pairs := rfl
@[simp] theorem State.setPort_wasRings (s : State) (i : Fin 32) (x : APortState) : (s.setPort i x).wasRings = s.wasRings := rfl
@[simp] theorem State.setPort_wasPairs (s : State) (i : Fin 32) (x : APortState) : (s.setPort i x).wasPairs = s.wasPairs := rfl
@[simp] theorem State.setPort_curtain (s : State) (i : Fin 32) (x : APortState) : (s.setPort i x).curtain = s.curtain := rfl
@[simp] theorem State.setPort_flow (s : State) (i : Fin 32) (x : APortState) : (s.setPort i x).flow = s.flow := rfl
@[simp] theorem State.setPort_links (s : State) (i : Fin 32) (x : APortState) : (s.setPort i x).links = s.links := rfl
@[simp] theorem State.setPort_lineRejects (s : State) (i : Fin 32) (x : APortState) : (s.setPort i x).lineRejects = s.lineRejects := rfl
@[simp] theorem State.setPort_cands (s : State) (i : Fin 32) (x : APortState) : (s.setPort i x).cands = s.cands := rfl
@[simp] theorem State.setPort_dpll (s : State) (i : Fin 32) (x : APortState) : (s.setPort i x).dpll = s.dpll := rfl
@[simp] theorem State.setPort_ddr (s : State) (i : Fin 32) (x : APortState) : (s.setPort i x).ddr = s.ddr := rfl
@[simp] theorem State.setPort_twin (s : State) (i : Fin 32) (x : APortState) : (s.setPort i x).twin = s.twin := rfl
@[simp] theorem State.setPort_free (s : State) (i : Fin 32) (x : APortState) : (s.setPort i x).free = s.free := rfl
@[simp] theorem State.setPort_pending (s : State) (i : Fin 32) (x : APortState) : (s.setPort i x).pending = s.pending := rfl

@[simp] theorem State.setPin_time (s : State) (i : Fin 16) (x : CuePin) : (s.setPin i x).time = s.time := rfl
@[simp] theorem State.setPin_evt (s : State) (i : Fin 16) (x : CuePin) : (s.setPin i x).evt = s.evt := rfl
@[simp] theorem State.setPin_host (s : State) (i : Fin 16) (x : CuePin) : (s.setPin i x).host = s.host := rfl
@[simp] theorem State.setPin_journal (s : State) (i : Fin 16) (x : CuePin) : (s.setPin i x).journal = s.journal := rfl
@[simp] theorem State.setPin_boot (s : State) (i : Fin 16) (x : CuePin) : (s.setPin i x).boot = s.boot := rfl
@[simp] theorem State.setPin_sec (s : State) (i : Fin 16) (x : CuePin) : (s.setPin i x).sec = s.sec := rfl
@[simp] theorem State.setPin_cu (s : State) (i : Fin 16) (x : CuePin) : (s.setPin i x).cu = s.cu := rfl
@[simp] theorem State.setPin_tap (s : State) (i : Fin 16) (x : CuePin) : (s.setPin i x).tap = s.tap := rfl
@[simp] theorem State.setPin_mon (s : State) (i : Fin 16) (x : CuePin) : (s.setPin i x).mon = s.mon := rfl
@[simp] theorem State.setPin_green (s : State) (i : Fin 16) (x : CuePin) : (s.setPin i x).green = s.green := rfl
@[simp] theorem State.setPin_running (s : State) (i : Fin 16) (x : CuePin) : (s.setPin i x).running = s.running := rfl
@[simp] theorem State.setPin_old (s : State) (i : Fin 16) (x : CuePin) : (s.setPin i x).old = s.old := rfl
@[simp] theorem State.setPin_before (s : State) (i : Fin 16) (x : CuePin) : (s.setPin i x).before = s.before := rfl
@[simp] theorem State.setPin_engines (s : State) (i : Fin 16) (x : CuePin) : (s.setPin i x).engines = s.engines := rfl
@[simp] theorem State.setPin_ctxs (s : State) (i : Fin 16) (x : CuePin) : (s.setPin i x).ctxs = s.ctxs := rfl
@[simp] theorem State.setPin_pictures (s : State) (i : Fin 16) (x : CuePin) : (s.setPin i x).pictures = s.pictures := rfl
@[simp] theorem State.setPin_rings (s : State) (i : Fin 16) (x : CuePin) : (s.setPin i x).rings = s.rings := rfl
@[simp] theorem State.setPin_pairs (s : State) (i : Fin 16) (x : CuePin) : (s.setPin i x).pairs = s.pairs := rfl
@[simp] theorem State.setPin_wasRings (s : State) (i : Fin 16) (x : CuePin) : (s.setPin i x).wasRings = s.wasRings := rfl
@[simp] theorem State.setPin_wasPairs (s : State) (i : Fin 16) (x : CuePin) : (s.setPin i x).wasPairs = s.wasPairs := rfl
@[simp] theorem State.setPin_curtain (s : State) (i : Fin 16) (x : CuePin) : (s.setPin i x).curtain = s.curtain := rfl
@[simp] theorem State.setPin_audio (s : State) (i : Fin 16) (x : CuePin) : (s.setPin i x).audio = s.audio := rfl
@[simp] theorem State.setPin_flow (s : State) (i : Fin 16) (x : CuePin) : (s.setPin i x).flow = s.flow := rfl
@[simp] theorem State.setPin_links (s : State) (i : Fin 16) (x : CuePin) : (s.setPin i x).links = s.links := rfl
@[simp] theorem State.setPin_lineRejects (s : State) (i : Fin 16) (x : CuePin) : (s.setPin i x).lineRejects = s.lineRejects := rfl
@[simp] theorem State.setPin_cands (s : State) (i : Fin 16) (x : CuePin) : (s.setPin i x).cands = s.cands := rfl
@[simp] theorem State.setPin_dpll (s : State) (i : Fin 16) (x : CuePin) : (s.setPin i x).dpll = s.dpll := rfl
@[simp] theorem State.setPin_ddr (s : State) (i : Fin 16) (x : CuePin) : (s.setPin i x).ddr = s.ddr := rfl
@[simp] theorem State.setPin_twin (s : State) (i : Fin 16) (x : CuePin) : (s.setPin i x).twin = s.twin := rfl
@[simp] theorem State.setPin_free (s : State) (i : Fin 16) (x : CuePin) : (s.setPin i x).free = s.free := rfl
@[simp] theorem State.setPin_pending (s : State) (i : Fin 16) (x : CuePin) : (s.setPin i x).pending = s.pending := rfl

@[simp] theorem State.setCu_time (s : State) (u : Fin 16) (c : CheckUnit) : (s.setCu u c).time = s.time := rfl
@[simp] theorem State.setCu_evt (s : State) (u : Fin 16) (c : CheckUnit) : (s.setCu u c).evt = s.evt := rfl
@[simp] theorem State.setCu_cues (s : State) (u : Fin 16) (c : CheckUnit) : (s.setCu u c).cues = s.cues := rfl
@[simp] theorem State.setCu_host (s : State) (u : Fin 16) (c : CheckUnit) : (s.setCu u c).host = s.host := rfl
@[simp] theorem State.setCu_journal (s : State) (u : Fin 16) (c : CheckUnit) : (s.setCu u c).journal = s.journal := rfl
@[simp] theorem State.setCu_boot (s : State) (u : Fin 16) (c : CheckUnit) : (s.setCu u c).boot = s.boot := rfl
@[simp] theorem State.setCu_sec (s : State) (u : Fin 16) (c : CheckUnit) : (s.setCu u c).sec = s.sec := rfl
@[simp] theorem State.setCu_tap (s : State) (u : Fin 16) (c : CheckUnit) : (s.setCu u c).tap = s.tap := rfl
@[simp] theorem State.setCu_mon (s : State) (u : Fin 16) (c : CheckUnit) : (s.setCu u c).mon = s.mon := rfl
@[simp] theorem State.setCu_green (s : State) (u : Fin 16) (c : CheckUnit) : (s.setCu u c).green = s.green := rfl
@[simp] theorem State.setCu_running (s : State) (u : Fin 16) (c : CheckUnit) : (s.setCu u c).running = s.running := rfl
@[simp] theorem State.setCu_old (s : State) (u : Fin 16) (c : CheckUnit) : (s.setCu u c).old = s.old := rfl
@[simp] theorem State.setCu_before (s : State) (u : Fin 16) (c : CheckUnit) : (s.setCu u c).before = s.before := rfl
@[simp] theorem State.setCu_engines (s : State) (u : Fin 16) (c : CheckUnit) : (s.setCu u c).engines = s.engines := rfl
@[simp] theorem State.setCu_ctxs (s : State) (u : Fin 16) (c : CheckUnit) : (s.setCu u c).ctxs = s.ctxs := rfl
@[simp] theorem State.setCu_pictures (s : State) (u : Fin 16) (c : CheckUnit) : (s.setCu u c).pictures = s.pictures := rfl
@[simp] theorem State.setCu_rings (s : State) (u : Fin 16) (c : CheckUnit) : (s.setCu u c).rings = s.rings := rfl
@[simp] theorem State.setCu_pairs (s : State) (u : Fin 16) (c : CheckUnit) : (s.setCu u c).pairs = s.pairs := rfl
@[simp] theorem State.setCu_wasRings (s : State) (u : Fin 16) (c : CheckUnit) : (s.setCu u c).wasRings = s.wasRings := rfl
@[simp] theorem State.setCu_wasPairs (s : State) (u : Fin 16) (c : CheckUnit) : (s.setCu u c).wasPairs = s.wasPairs := rfl
@[simp] theorem State.setCu_curtain (s : State) (u : Fin 16) (c : CheckUnit) : (s.setCu u c).curtain = s.curtain := rfl
@[simp] theorem State.setCu_audio (s : State) (u : Fin 16) (c : CheckUnit) : (s.setCu u c).audio = s.audio := rfl
@[simp] theorem State.setCu_flow (s : State) (u : Fin 16) (c : CheckUnit) : (s.setCu u c).flow = s.flow := rfl
@[simp] theorem State.setCu_links (s : State) (u : Fin 16) (c : CheckUnit) : (s.setCu u c).links = s.links := rfl
@[simp] theorem State.setCu_lineRejects (s : State) (u : Fin 16) (c : CheckUnit) : (s.setCu u c).lineRejects = s.lineRejects := rfl
@[simp] theorem State.setCu_cands (s : State) (u : Fin 16) (c : CheckUnit) : (s.setCu u c).cands = s.cands := rfl
@[simp] theorem State.setCu_dpll (s : State) (u : Fin 16) (c : CheckUnit) : (s.setCu u c).dpll = s.dpll := rfl
@[simp] theorem State.setCu_ddr (s : State) (u : Fin 16) (c : CheckUnit) : (s.setCu u c).ddr = s.ddr := rfl
@[simp] theorem State.setCu_twin (s : State) (u : Fin 16) (c : CheckUnit) : (s.setCu u c).twin = s.twin := rfl
@[simp] theorem State.setCu_free (s : State) (u : Fin 16) (c : CheckUnit) : (s.setCu u c).free = s.free := rfl
@[simp] theorem State.setCu_pending (s : State) (u : Fin 16) (c : CheckUnit) : (s.setCu u c).pending = s.pending := rfl

@[simp] theorem State.setBulk_time (s : State) (o : Nat) (bs : List Byte) : (s.setBulk o bs).time = s.time := rfl
@[simp] theorem State.setBulk_evt (s : State) (o : Nat) (bs : List Byte) : (s.setBulk o bs).evt = s.evt := rfl
@[simp] theorem State.setBulk_cues (s : State) (o : Nat) (bs : List Byte) : (s.setBulk o bs).cues = s.cues := rfl
@[simp] theorem State.setBulk_journal (s : State) (o : Nat) (bs : List Byte) : (s.setBulk o bs).journal = s.journal := rfl
@[simp] theorem State.setBulk_boot (s : State) (o : Nat) (bs : List Byte) : (s.setBulk o bs).boot = s.boot := rfl
@[simp] theorem State.setBulk_sec (s : State) (o : Nat) (bs : List Byte) : (s.setBulk o bs).sec = s.sec := rfl
@[simp] theorem State.setBulk_cu (s : State) (o : Nat) (bs : List Byte) : (s.setBulk o bs).cu = s.cu := rfl
@[simp] theorem State.setBulk_tap (s : State) (o : Nat) (bs : List Byte) : (s.setBulk o bs).tap = s.tap := rfl
@[simp] theorem State.setBulk_mon (s : State) (o : Nat) (bs : List Byte) : (s.setBulk o bs).mon = s.mon := rfl
@[simp] theorem State.setBulk_green (s : State) (o : Nat) (bs : List Byte) : (s.setBulk o bs).green = s.green := rfl
@[simp] theorem State.setBulk_running (s : State) (o : Nat) (bs : List Byte) : (s.setBulk o bs).running = s.running := rfl
@[simp] theorem State.setBulk_old (s : State) (o : Nat) (bs : List Byte) : (s.setBulk o bs).old = s.old := rfl
@[simp] theorem State.setBulk_before (s : State) (o : Nat) (bs : List Byte) : (s.setBulk o bs).before = s.before := rfl
@[simp] theorem State.setBulk_engines (s : State) (o : Nat) (bs : List Byte) : (s.setBulk o bs).engines = s.engines := rfl
@[simp] theorem State.setBulk_ctxs (s : State) (o : Nat) (bs : List Byte) : (s.setBulk o bs).ctxs = s.ctxs := rfl
@[simp] theorem State.setBulk_pictures (s : State) (o : Nat) (bs : List Byte) : (s.setBulk o bs).pictures = s.pictures := rfl
@[simp] theorem State.setBulk_rings (s : State) (o : Nat) (bs : List Byte) : (s.setBulk o bs).rings = s.rings := rfl
@[simp] theorem State.setBulk_pairs (s : State) (o : Nat) (bs : List Byte) : (s.setBulk o bs).pairs = s.pairs := rfl
@[simp] theorem State.setBulk_wasRings (s : State) (o : Nat) (bs : List Byte) : (s.setBulk o bs).wasRings = s.wasRings := rfl
@[simp] theorem State.setBulk_wasPairs (s : State) (o : Nat) (bs : List Byte) : (s.setBulk o bs).wasPairs = s.wasPairs := rfl
@[simp] theorem State.setBulk_curtain (s : State) (o : Nat) (bs : List Byte) : (s.setBulk o bs).curtain = s.curtain := rfl
@[simp] theorem State.setBulk_audio (s : State) (o : Nat) (bs : List Byte) : (s.setBulk o bs).audio = s.audio := rfl
@[simp] theorem State.setBulk_flow (s : State) (o : Nat) (bs : List Byte) : (s.setBulk o bs).flow = s.flow := rfl
@[simp] theorem State.setBulk_links (s : State) (o : Nat) (bs : List Byte) : (s.setBulk o bs).links = s.links := rfl
@[simp] theorem State.setBulk_lineRejects (s : State) (o : Nat) (bs : List Byte) : (s.setBulk o bs).lineRejects = s.lineRejects := rfl
@[simp] theorem State.setBulk_cands (s : State) (o : Nat) (bs : List Byte) : (s.setBulk o bs).cands = s.cands := rfl
@[simp] theorem State.setBulk_dpll (s : State) (o : Nat) (bs : List Byte) : (s.setBulk o bs).dpll = s.dpll := rfl
@[simp] theorem State.setBulk_ddr (s : State) (o : Nat) (bs : List Byte) : (s.setBulk o bs).ddr = s.ddr := rfl
@[simp] theorem State.setBulk_twin (s : State) (o : Nat) (bs : List Byte) : (s.setBulk o bs).twin = s.twin := rfl
@[simp] theorem State.setBulk_free (s : State) (o : Nat) (bs : List Byte) : (s.setBulk o bs).free = s.free := rfl
@[simp] theorem State.setBulk_pending (s : State) (o : Nat) (bs : List Byte) : (s.setBulk o bs).pending = s.pending := rfl

@[simp] theorem State.takeCmd_time (s : State) (h : Hdr) : (s.takeCmd h).time = s.time := rfl
@[simp] theorem State.takeCmd_evt (s : State) (h : Hdr) : (s.takeCmd h).evt = s.evt := rfl
@[simp] theorem State.takeCmd_cues (s : State) (h : Hdr) : (s.takeCmd h).cues = s.cues := rfl
@[simp] theorem State.takeCmd_journal (s : State) (h : Hdr) : (s.takeCmd h).journal = s.journal := rfl
@[simp] theorem State.takeCmd_boot (s : State) (h : Hdr) : (s.takeCmd h).boot = s.boot := rfl
@[simp] theorem State.takeCmd_sec (s : State) (h : Hdr) : (s.takeCmd h).sec = s.sec := rfl
@[simp] theorem State.takeCmd_cu (s : State) (h : Hdr) : (s.takeCmd h).cu = s.cu := rfl
@[simp] theorem State.takeCmd_tap (s : State) (h : Hdr) : (s.takeCmd h).tap = s.tap := rfl
@[simp] theorem State.takeCmd_mon (s : State) (h : Hdr) : (s.takeCmd h).mon = s.mon := rfl
@[simp] theorem State.takeCmd_green (s : State) (h : Hdr) : (s.takeCmd h).green = s.green := rfl
@[simp] theorem State.takeCmd_running (s : State) (h : Hdr) : (s.takeCmd h).running = s.running := rfl
@[simp] theorem State.takeCmd_old (s : State) (h : Hdr) : (s.takeCmd h).old = s.old := rfl
@[simp] theorem State.takeCmd_before (s : State) (h : Hdr) : (s.takeCmd h).before = s.before := rfl
@[simp] theorem State.takeCmd_engines (s : State) (h : Hdr) : (s.takeCmd h).engines = s.engines := rfl
@[simp] theorem State.takeCmd_ctxs (s : State) (h : Hdr) : (s.takeCmd h).ctxs = s.ctxs := rfl
@[simp] theorem State.takeCmd_pictures (s : State) (h : Hdr) : (s.takeCmd h).pictures = s.pictures := rfl
@[simp] theorem State.takeCmd_rings (s : State) (h : Hdr) : (s.takeCmd h).rings = s.rings := rfl
@[simp] theorem State.takeCmd_pairs (s : State) (h : Hdr) : (s.takeCmd h).pairs = s.pairs := rfl
@[simp] theorem State.takeCmd_wasRings (s : State) (h : Hdr) : (s.takeCmd h).wasRings = s.wasRings := rfl
@[simp] theorem State.takeCmd_wasPairs (s : State) (h : Hdr) : (s.takeCmd h).wasPairs = s.wasPairs := rfl
@[simp] theorem State.takeCmd_curtain (s : State) (h : Hdr) : (s.takeCmd h).curtain = s.curtain := rfl
@[simp] theorem State.takeCmd_audio (s : State) (h : Hdr) : (s.takeCmd h).audio = s.audio := rfl
@[simp] theorem State.takeCmd_flow (s : State) (h : Hdr) : (s.takeCmd h).flow = s.flow := rfl
@[simp] theorem State.takeCmd_links (s : State) (h : Hdr) : (s.takeCmd h).links = s.links := rfl
@[simp] theorem State.takeCmd_lineRejects (s : State) (h : Hdr) : (s.takeCmd h).lineRejects = s.lineRejects := rfl
@[simp] theorem State.takeCmd_cands (s : State) (h : Hdr) : (s.takeCmd h).cands = s.cands := rfl
@[simp] theorem State.takeCmd_dpll (s : State) (h : Hdr) : (s.takeCmd h).dpll = s.dpll := rfl
@[simp] theorem State.takeCmd_ddr (s : State) (h : Hdr) : (s.takeCmd h).ddr = s.ddr := rfl
@[simp] theorem State.takeCmd_twin (s : State) (h : Hdr) : (s.takeCmd h).twin = s.twin := rfl
@[simp] theorem State.takeCmd_free (s : State) (h : Hdr) : (s.takeCmd h).free = s.free := rfl
@[simp] theorem State.takeCmd_pending (s : State) (h : Hdr) : (s.takeCmd h).pending = s.pending := rfl

/-! An occurrence changes the event unit, the call board and the free values only. -/

@[simp] theorem State.raise_time (s : State) (e : Ev) : (s.raise e).time = s.time := by unfold State.raise; dsimp only; split <;> rfl
@[simp] theorem State.raiseAll_time (s : State) (es : List Ev) : (s.raiseAll es).time = s.time := by
  unfold State.raiseAll; induction es generalizing s with
  | nil => rfl
  | cons e t ih => rw [List.foldl_cons, ih, State.raise_time]
@[simp] theorem State.raise_cues (s : State) (e : Ev) : (s.raise e).cues = s.cues := by unfold State.raise; dsimp only; split <;> rfl
@[simp] theorem State.raiseAll_cues (s : State) (es : List Ev) : (s.raiseAll es).cues = s.cues := by
  unfold State.raiseAll; induction es generalizing s with
  | nil => rfl
  | cons e t ih => rw [List.foldl_cons, ih, State.raise_cues]
@[simp] theorem State.raise_journal (s : State) (e : Ev) : (s.raise e).journal = s.journal := by unfold State.raise; dsimp only; split <;> rfl
@[simp] theorem State.raiseAll_journal (s : State) (es : List Ev) : (s.raiseAll es).journal = s.journal := by
  unfold State.raiseAll; induction es generalizing s with
  | nil => rfl
  | cons e t ih => rw [List.foldl_cons, ih, State.raise_journal]
@[simp] theorem State.raise_boot (s : State) (e : Ev) : (s.raise e).boot = s.boot := by unfold State.raise; dsimp only; split <;> rfl
@[simp] theorem State.raiseAll_boot (s : State) (es : List Ev) : (s.raiseAll es).boot = s.boot := by
  unfold State.raiseAll; induction es generalizing s with
  | nil => rfl
  | cons e t ih => rw [List.foldl_cons, ih, State.raise_boot]
@[simp] theorem State.raise_sec (s : State) (e : Ev) : (s.raise e).sec = s.sec := by unfold State.raise; dsimp only; split <;> rfl
@[simp] theorem State.raiseAll_sec (s : State) (es : List Ev) : (s.raiseAll es).sec = s.sec := by
  unfold State.raiseAll; induction es generalizing s with
  | nil => rfl
  | cons e t ih => rw [List.foldl_cons, ih, State.raise_sec]
@[simp] theorem State.raise_cu (s : State) (e : Ev) : (s.raise e).cu = s.cu := by unfold State.raise; dsimp only; split <;> rfl
@[simp] theorem State.raiseAll_cu (s : State) (es : List Ev) : (s.raiseAll es).cu = s.cu := by
  unfold State.raiseAll; induction es generalizing s with
  | nil => rfl
  | cons e t ih => rw [List.foldl_cons, ih, State.raise_cu]
@[simp] theorem State.raise_tap (s : State) (e : Ev) : (s.raise e).tap = s.tap := by unfold State.raise; dsimp only; split <;> rfl
@[simp] theorem State.raiseAll_tap (s : State) (es : List Ev) : (s.raiseAll es).tap = s.tap := by
  unfold State.raiseAll; induction es generalizing s with
  | nil => rfl
  | cons e t ih => rw [List.foldl_cons, ih, State.raise_tap]
@[simp] theorem State.raise_mon (s : State) (e : Ev) : (s.raise e).mon = s.mon := by unfold State.raise; dsimp only; split <;> rfl
@[simp] theorem State.raiseAll_mon (s : State) (es : List Ev) : (s.raiseAll es).mon = s.mon := by
  unfold State.raiseAll; induction es generalizing s with
  | nil => rfl
  | cons e t ih => rw [List.foldl_cons, ih, State.raise_mon]
@[simp] theorem State.raise_green (s : State) (e : Ev) : (s.raise e).green = s.green := by unfold State.raise; dsimp only; split <;> rfl
@[simp] theorem State.raiseAll_green (s : State) (es : List Ev) : (s.raiseAll es).green = s.green := by
  unfold State.raiseAll; induction es generalizing s with
  | nil => rfl
  | cons e t ih => rw [List.foldl_cons, ih, State.raise_green]
@[simp] theorem State.raise_running (s : State) (e : Ev) : (s.raise e).running = s.running := by unfold State.raise; dsimp only; split <;> rfl
@[simp] theorem State.raiseAll_running (s : State) (es : List Ev) : (s.raiseAll es).running = s.running := by
  unfold State.raiseAll; induction es generalizing s with
  | nil => rfl
  | cons e t ih => rw [List.foldl_cons, ih, State.raise_running]
@[simp] theorem State.raise_old (s : State) (e : Ev) : (s.raise e).old = s.old := by unfold State.raise; dsimp only; split <;> rfl
@[simp] theorem State.raiseAll_old (s : State) (es : List Ev) : (s.raiseAll es).old = s.old := by
  unfold State.raiseAll; induction es generalizing s with
  | nil => rfl
  | cons e t ih => rw [List.foldl_cons, ih, State.raise_old]
@[simp] theorem State.raise_before (s : State) (e : Ev) : (s.raise e).before = s.before := by unfold State.raise; dsimp only; split <;> rfl
@[simp] theorem State.raiseAll_before (s : State) (es : List Ev) : (s.raiseAll es).before = s.before := by
  unfold State.raiseAll; induction es generalizing s with
  | nil => rfl
  | cons e t ih => rw [List.foldl_cons, ih, State.raise_before]
@[simp] theorem State.raise_engines (s : State) (e : Ev) : (s.raise e).engines = s.engines := by unfold State.raise; dsimp only; split <;> rfl
@[simp] theorem State.raiseAll_engines (s : State) (es : List Ev) : (s.raiseAll es).engines = s.engines := by
  unfold State.raiseAll; induction es generalizing s with
  | nil => rfl
  | cons e t ih => rw [List.foldl_cons, ih, State.raise_engines]
@[simp] theorem State.raise_ctxs (s : State) (e : Ev) : (s.raise e).ctxs = s.ctxs := by unfold State.raise; dsimp only; split <;> rfl
@[simp] theorem State.raiseAll_ctxs (s : State) (es : List Ev) : (s.raiseAll es).ctxs = s.ctxs := by
  unfold State.raiseAll; induction es generalizing s with
  | nil => rfl
  | cons e t ih => rw [List.foldl_cons, ih, State.raise_ctxs]
@[simp] theorem State.raise_pictures (s : State) (e : Ev) : (s.raise e).pictures = s.pictures := by unfold State.raise; dsimp only; split <;> rfl
@[simp] theorem State.raiseAll_pictures (s : State) (es : List Ev) : (s.raiseAll es).pictures = s.pictures := by
  unfold State.raiseAll; induction es generalizing s with
  | nil => rfl
  | cons e t ih => rw [List.foldl_cons, ih, State.raise_pictures]
@[simp] theorem State.raise_rings (s : State) (e : Ev) : (s.raise e).rings = s.rings := by unfold State.raise; dsimp only; split <;> rfl
@[simp] theorem State.raiseAll_rings (s : State) (es : List Ev) : (s.raiseAll es).rings = s.rings := by
  unfold State.raiseAll; induction es generalizing s with
  | nil => rfl
  | cons e t ih => rw [List.foldl_cons, ih, State.raise_rings]
@[simp] theorem State.raise_pairs (s : State) (e : Ev) : (s.raise e).pairs = s.pairs := by unfold State.raise; dsimp only; split <;> rfl
@[simp] theorem State.raiseAll_pairs (s : State) (es : List Ev) : (s.raiseAll es).pairs = s.pairs := by
  unfold State.raiseAll; induction es generalizing s with
  | nil => rfl
  | cons e t ih => rw [List.foldl_cons, ih, State.raise_pairs]
@[simp] theorem State.raise_wasRings (s : State) (e : Ev) : (s.raise e).wasRings = s.wasRings := by unfold State.raise; dsimp only; split <;> rfl
@[simp] theorem State.raiseAll_wasRings (s : State) (es : List Ev) : (s.raiseAll es).wasRings = s.wasRings := by
  unfold State.raiseAll; induction es generalizing s with
  | nil => rfl
  | cons e t ih => rw [List.foldl_cons, ih, State.raise_wasRings]
@[simp] theorem State.raise_wasPairs (s : State) (e : Ev) : (s.raise e).wasPairs = s.wasPairs := by unfold State.raise; dsimp only; split <;> rfl
@[simp] theorem State.raiseAll_wasPairs (s : State) (es : List Ev) : (s.raiseAll es).wasPairs = s.wasPairs := by
  unfold State.raiseAll; induction es generalizing s with
  | nil => rfl
  | cons e t ih => rw [List.foldl_cons, ih, State.raise_wasPairs]
@[simp] theorem State.raise_curtain (s : State) (e : Ev) : (s.raise e).curtain = s.curtain := by unfold State.raise; dsimp only; split <;> rfl
@[simp] theorem State.raiseAll_curtain (s : State) (es : List Ev) : (s.raiseAll es).curtain = s.curtain := by
  unfold State.raiseAll; induction es generalizing s with
  | nil => rfl
  | cons e t ih => rw [List.foldl_cons, ih, State.raise_curtain]
@[simp] theorem State.raise_audio (s : State) (e : Ev) : (s.raise e).audio = s.audio := by unfold State.raise; dsimp only; split <;> rfl
@[simp] theorem State.raiseAll_audio (s : State) (es : List Ev) : (s.raiseAll es).audio = s.audio := by
  unfold State.raiseAll; induction es generalizing s with
  | nil => rfl
  | cons e t ih => rw [List.foldl_cons, ih, State.raise_audio]
@[simp] theorem State.raise_flow (s : State) (e : Ev) : (s.raise e).flow = s.flow := by unfold State.raise; dsimp only; split <;> rfl
@[simp] theorem State.raiseAll_flow (s : State) (es : List Ev) : (s.raiseAll es).flow = s.flow := by
  unfold State.raiseAll; induction es generalizing s with
  | nil => rfl
  | cons e t ih => rw [List.foldl_cons, ih, State.raise_flow]
@[simp] theorem State.raise_links (s : State) (e : Ev) : (s.raise e).links = s.links := by unfold State.raise; dsimp only; split <;> rfl
@[simp] theorem State.raiseAll_links (s : State) (es : List Ev) : (s.raiseAll es).links = s.links := by
  unfold State.raiseAll; induction es generalizing s with
  | nil => rfl
  | cons e t ih => rw [List.foldl_cons, ih, State.raise_links]
@[simp] theorem State.raise_lineRejects (s : State) (e : Ev) : (s.raise e).lineRejects = s.lineRejects := by unfold State.raise; dsimp only; split <;> rfl
@[simp] theorem State.raiseAll_lineRejects (s : State) (es : List Ev) : (s.raiseAll es).lineRejects = s.lineRejects := by
  unfold State.raiseAll; induction es generalizing s with
  | nil => rfl
  | cons e t ih => rw [List.foldl_cons, ih, State.raise_lineRejects]
@[simp] theorem State.raise_cands (s : State) (e : Ev) : (s.raise e).cands = s.cands := by unfold State.raise; dsimp only; split <;> rfl
@[simp] theorem State.raiseAll_cands (s : State) (es : List Ev) : (s.raiseAll es).cands = s.cands := by
  unfold State.raiseAll; induction es generalizing s with
  | nil => rfl
  | cons e t ih => rw [List.foldl_cons, ih, State.raise_cands]
@[simp] theorem State.raise_dpll (s : State) (e : Ev) : (s.raise e).dpll = s.dpll := by unfold State.raise; dsimp only; split <;> rfl
@[simp] theorem State.raiseAll_dpll (s : State) (es : List Ev) : (s.raiseAll es).dpll = s.dpll := by
  unfold State.raiseAll; induction es generalizing s with
  | nil => rfl
  | cons e t ih => rw [List.foldl_cons, ih, State.raise_dpll]
@[simp] theorem State.raise_ddr (s : State) (e : Ev) : (s.raise e).ddr = s.ddr := by unfold State.raise; dsimp only; split <;> rfl
@[simp] theorem State.raiseAll_ddr (s : State) (es : List Ev) : (s.raiseAll es).ddr = s.ddr := by
  unfold State.raiseAll; induction es generalizing s with
  | nil => rfl
  | cons e t ih => rw [List.foldl_cons, ih, State.raise_ddr]
@[simp] theorem State.raise_twin (s : State) (e : Ev) : (s.raise e).twin = s.twin := by unfold State.raise; dsimp only; split <;> rfl
@[simp] theorem State.raiseAll_twin (s : State) (es : List Ev) : (s.raiseAll es).twin = s.twin := by
  unfold State.raiseAll; induction es generalizing s with
  | nil => rfl
  | cons e t ih => rw [List.foldl_cons, ih, State.raise_twin]
@[simp] theorem State.raise_pending (s : State) (e : Ev) : (s.raise e).pending = s.pending := by unfold State.raise; dsimp only; split <;> rfl
@[simp] theorem State.raiseAll_pending (s : State) (es : List Ev) : (s.raiseAll es).pending = s.pending := by
  unfold State.raiseAll; induction es generalizing s with
  | nil => rfl
  | cons e t ih => rw [List.foldl_cons, ih, State.raise_pending]

/-! A completion changes the host window, the journal and the DDR5 queues only; a message waiting to be sent, the links only. -/

@[simp] theorem State.complete_time (s : State) (mb : Fin 8) (i : U32) (a b c d : Nat) (j : Bool) (r : Reply) :
    (s.complete mb i a b c d j r).time = s.time := rfl
@[simp] theorem State.complete_evt (s : State) (mb : Fin 8) (i : U32) (a b c d : Nat) (j : Bool) (r : Reply) :
    (s.complete mb i a b c d j r).evt = s.evt := rfl
@[simp] theorem State.complete_cues (s : State) (mb : Fin 8) (i : U32) (a b c d : Nat) (j : Bool) (r : Reply) :
    (s.complete mb i a b c d j r).cues = s.cues := rfl
@[simp] theorem State.complete_boot (s : State) (mb : Fin 8) (i : U32) (a b c d : Nat) (j : Bool) (r : Reply) :
    (s.complete mb i a b c d j r).boot = s.boot := rfl
@[simp] theorem State.complete_sec (s : State) (mb : Fin 8) (i : U32) (a b c d : Nat) (j : Bool) (r : Reply) :
    (s.complete mb i a b c d j r).sec = s.sec := rfl
@[simp] theorem State.complete_cu (s : State) (mb : Fin 8) (i : U32) (a b c d : Nat) (j : Bool) (r : Reply) :
    (s.complete mb i a b c d j r).cu = s.cu := rfl
@[simp] theorem State.complete_tap (s : State) (mb : Fin 8) (i : U32) (a b c d : Nat) (j : Bool) (r : Reply) :
    (s.complete mb i a b c d j r).tap = s.tap := rfl
@[simp] theorem State.complete_mon (s : State) (mb : Fin 8) (i : U32) (a b c d : Nat) (j : Bool) (r : Reply) :
    (s.complete mb i a b c d j r).mon = s.mon := rfl
@[simp] theorem State.complete_green (s : State) (mb : Fin 8) (i : U32) (a b c d : Nat) (j : Bool) (r : Reply) :
    (s.complete mb i a b c d j r).green = s.green := rfl
@[simp] theorem State.complete_running (s : State) (mb : Fin 8) (i : U32) (a b c d : Nat) (j : Bool) (r : Reply) :
    (s.complete mb i a b c d j r).running = s.running := rfl
@[simp] theorem State.complete_old (s : State) (mb : Fin 8) (i : U32) (a b c d : Nat) (j : Bool) (r : Reply) :
    (s.complete mb i a b c d j r).old = s.old := rfl
@[simp] theorem State.complete_before (s : State) (mb : Fin 8) (i : U32) (a b c d : Nat) (j : Bool) (r : Reply) :
    (s.complete mb i a b c d j r).before = s.before := rfl
@[simp] theorem State.complete_engines (s : State) (mb : Fin 8) (i : U32) (a b c d : Nat) (j : Bool) (r : Reply) :
    (s.complete mb i a b c d j r).engines = s.engines := rfl
@[simp] theorem State.complete_ctxs (s : State) (mb : Fin 8) (i : U32) (a b c d : Nat) (j : Bool) (r : Reply) :
    (s.complete mb i a b c d j r).ctxs = s.ctxs := rfl
@[simp] theorem State.complete_pictures (s : State) (mb : Fin 8) (i : U32) (a b c d : Nat) (j : Bool) (r : Reply) :
    (s.complete mb i a b c d j r).pictures = s.pictures := rfl
@[simp] theorem State.complete_rings (s : State) (mb : Fin 8) (i : U32) (a b c d : Nat) (j : Bool) (r : Reply) :
    (s.complete mb i a b c d j r).rings = s.rings := rfl
@[simp] theorem State.complete_pairs (s : State) (mb : Fin 8) (i : U32) (a b c d : Nat) (j : Bool) (r : Reply) :
    (s.complete mb i a b c d j r).pairs = s.pairs := rfl
@[simp] theorem State.complete_wasRings (s : State) (mb : Fin 8) (i : U32) (a b c d : Nat) (j : Bool) (r : Reply) :
    (s.complete mb i a b c d j r).wasRings = s.wasRings := rfl
@[simp] theorem State.complete_wasPairs (s : State) (mb : Fin 8) (i : U32) (a b c d : Nat) (j : Bool) (r : Reply) :
    (s.complete mb i a b c d j r).wasPairs = s.wasPairs := rfl
@[simp] theorem State.complete_curtain (s : State) (mb : Fin 8) (i : U32) (a b c d : Nat) (j : Bool) (r : Reply) :
    (s.complete mb i a b c d j r).curtain = s.curtain := rfl
@[simp] theorem State.complete_audio (s : State) (mb : Fin 8) (i : U32) (a b c d : Nat) (j : Bool) (r : Reply) :
    (s.complete mb i a b c d j r).audio = s.audio := rfl
@[simp] theorem State.complete_flow (s : State) (mb : Fin 8) (i : U32) (a b c d : Nat) (j : Bool) (r : Reply) :
    (s.complete mb i a b c d j r).flow = s.flow := rfl
@[simp] theorem State.complete_links (s : State) (mb : Fin 8) (i : U32) (a b c d : Nat) (j : Bool) (r : Reply) :
    (s.complete mb i a b c d j r).links = s.links := rfl
@[simp] theorem State.complete_lineRejects (s : State) (mb : Fin 8) (i : U32) (a b c d : Nat) (j : Bool) (r : Reply) :
    (s.complete mb i a b c d j r).lineRejects = s.lineRejects := rfl
@[simp] theorem State.complete_cands (s : State) (mb : Fin 8) (i : U32) (a b c d : Nat) (j : Bool) (r : Reply) :
    (s.complete mb i a b c d j r).cands = s.cands := rfl
@[simp] theorem State.complete_dpll (s : State) (mb : Fin 8) (i : U32) (a b c d : Nat) (j : Bool) (r : Reply) :
    (s.complete mb i a b c d j r).dpll = s.dpll := rfl
@[simp] theorem State.complete_twin (s : State) (mb : Fin 8) (i : U32) (a b c d : Nat) (j : Bool) (r : Reply) :
    (s.complete mb i a b c d j r).twin = s.twin := rfl
@[simp] theorem State.complete_free (s : State) (mb : Fin 8) (i : U32) (a b c d : Nat) (j : Bool) (r : Reply) :
    (s.complete mb i a b c d j r).free = s.free := rfl
@[simp] theorem State.complete_pending (s : State) (mb : Fin 8) (i : U32) (a b c d : Nat) (j : Bool) (r : Reply) :
    (s.complete mb i a b c d j r).pending = s.pending := rfl
@[simp] theorem State.send_time (s : State) (i : Fin 12) (vc : Fin 8) (t : Nat) (b : List Byte) : (s.send i vc t b).time = s.time := by
  unfold State.send; dsimp only; split <;> rfl
@[simp] theorem State.send_evt (s : State) (i : Fin 12) (vc : Fin 8) (t : Nat) (b : List Byte) : (s.send i vc t b).evt = s.evt := by
  unfold State.send; dsimp only; split <;> rfl
@[simp] theorem State.send_cues (s : State) (i : Fin 12) (vc : Fin 8) (t : Nat) (b : List Byte) : (s.send i vc t b).cues = s.cues := by
  unfold State.send; dsimp only; split <;> rfl
@[simp] theorem State.send_host (s : State) (i : Fin 12) (vc : Fin 8) (t : Nat) (b : List Byte) : (s.send i vc t b).host = s.host := by
  unfold State.send; dsimp only; split <;> rfl
@[simp] theorem State.send_journal (s : State) (i : Fin 12) (vc : Fin 8) (t : Nat) (b : List Byte) : (s.send i vc t b).journal = s.journal := by
  unfold State.send; dsimp only; split <;> rfl
@[simp] theorem State.send_boot (s : State) (i : Fin 12) (vc : Fin 8) (t : Nat) (b : List Byte) : (s.send i vc t b).boot = s.boot := by
  unfold State.send; dsimp only; split <;> rfl
@[simp] theorem State.send_sec (s : State) (i : Fin 12) (vc : Fin 8) (t : Nat) (b : List Byte) : (s.send i vc t b).sec = s.sec := by
  unfold State.send; dsimp only; split <;> rfl
@[simp] theorem State.send_cu (s : State) (i : Fin 12) (vc : Fin 8) (t : Nat) (b : List Byte) : (s.send i vc t b).cu = s.cu := by
  unfold State.send; dsimp only; split <;> rfl
@[simp] theorem State.send_tap (s : State) (i : Fin 12) (vc : Fin 8) (t : Nat) (b : List Byte) : (s.send i vc t b).tap = s.tap := by
  unfold State.send; dsimp only; split <;> rfl
@[simp] theorem State.send_mon (s : State) (i : Fin 12) (vc : Fin 8) (t : Nat) (b : List Byte) : (s.send i vc t b).mon = s.mon := by
  unfold State.send; dsimp only; split <;> rfl
@[simp] theorem State.send_green (s : State) (i : Fin 12) (vc : Fin 8) (t : Nat) (b : List Byte) : (s.send i vc t b).green = s.green := by
  unfold State.send; dsimp only; split <;> rfl
@[simp] theorem State.send_running (s : State) (i : Fin 12) (vc : Fin 8) (t : Nat) (b : List Byte) : (s.send i vc t b).running = s.running := by
  unfold State.send; dsimp only; split <;> rfl
@[simp] theorem State.send_old (s : State) (i : Fin 12) (vc : Fin 8) (t : Nat) (b : List Byte) : (s.send i vc t b).old = s.old := by
  unfold State.send; dsimp only; split <;> rfl
@[simp] theorem State.send_before (s : State) (i : Fin 12) (vc : Fin 8) (t : Nat) (b : List Byte) : (s.send i vc t b).before = s.before := by
  unfold State.send; dsimp only; split <;> rfl
@[simp] theorem State.send_engines (s : State) (i : Fin 12) (vc : Fin 8) (t : Nat) (b : List Byte) : (s.send i vc t b).engines = s.engines := by
  unfold State.send; dsimp only; split <;> rfl
@[simp] theorem State.send_ctxs (s : State) (i : Fin 12) (vc : Fin 8) (t : Nat) (b : List Byte) : (s.send i vc t b).ctxs = s.ctxs := by
  unfold State.send; dsimp only; split <;> rfl
@[simp] theorem State.send_pictures (s : State) (i : Fin 12) (vc : Fin 8) (t : Nat) (b : List Byte) : (s.send i vc t b).pictures = s.pictures := by
  unfold State.send; dsimp only; split <;> rfl
@[simp] theorem State.send_rings (s : State) (i : Fin 12) (vc : Fin 8) (t : Nat) (b : List Byte) : (s.send i vc t b).rings = s.rings := by
  unfold State.send; dsimp only; split <;> rfl
@[simp] theorem State.send_pairs (s : State) (i : Fin 12) (vc : Fin 8) (t : Nat) (b : List Byte) : (s.send i vc t b).pairs = s.pairs := by
  unfold State.send; dsimp only; split <;> rfl
@[simp] theorem State.send_wasRings (s : State) (i : Fin 12) (vc : Fin 8) (t : Nat) (b : List Byte) : (s.send i vc t b).wasRings = s.wasRings := by
  unfold State.send; dsimp only; split <;> rfl
@[simp] theorem State.send_wasPairs (s : State) (i : Fin 12) (vc : Fin 8) (t : Nat) (b : List Byte) : (s.send i vc t b).wasPairs = s.wasPairs := by
  unfold State.send; dsimp only; split <;> rfl
@[simp] theorem State.send_curtain (s : State) (i : Fin 12) (vc : Fin 8) (t : Nat) (b : List Byte) : (s.send i vc t b).curtain = s.curtain := by
  unfold State.send; dsimp only; split <;> rfl
@[simp] theorem State.send_audio (s : State) (i : Fin 12) (vc : Fin 8) (t : Nat) (b : List Byte) : (s.send i vc t b).audio = s.audio := by
  unfold State.send; dsimp only; split <;> rfl
@[simp] theorem State.send_flow (s : State) (i : Fin 12) (vc : Fin 8) (t : Nat) (b : List Byte) : (s.send i vc t b).flow = s.flow := by
  unfold State.send; dsimp only; split <;> rfl
@[simp] theorem State.send_lineRejects (s : State) (i : Fin 12) (vc : Fin 8) (t : Nat) (b : List Byte) : (s.send i vc t b).lineRejects = s.lineRejects := by
  unfold State.send; dsimp only; split <;> rfl
@[simp] theorem State.send_cands (s : State) (i : Fin 12) (vc : Fin 8) (t : Nat) (b : List Byte) : (s.send i vc t b).cands = s.cands := by
  unfold State.send; dsimp only; split <;> rfl
@[simp] theorem State.send_dpll (s : State) (i : Fin 12) (vc : Fin 8) (t : Nat) (b : List Byte) : (s.send i vc t b).dpll = s.dpll := by
  unfold State.send; dsimp only; split <;> rfl
@[simp] theorem State.send_ddr (s : State) (i : Fin 12) (vc : Fin 8) (t : Nat) (b : List Byte) : (s.send i vc t b).ddr = s.ddr := by
  unfold State.send; dsimp only; split <;> rfl
@[simp] theorem State.send_twin (s : State) (i : Fin 12) (vc : Fin 8) (t : Nat) (b : List Byte) : (s.send i vc t b).twin = s.twin := by
  unfold State.send; dsimp only; split <;> rfl
@[simp] theorem State.send_free (s : State) (i : Fin 12) (vc : Fin 8) (t : Nat) (b : List Byte) : (s.send i vc t b).free = s.free := by
  unfold State.send; dsimp only; split <;> rfl
@[simp] theorem State.send_pending (s : State) (i : Fin 12) (vc : Fin 8) (t : Nat) (b : List Byte) : (s.send i vc t b).pending = s.pending := by
  unfold State.send; dsimp only; split <;> rfl

end Sys2Proof.Machine
end

