-- ==== Sys2Proof/Laws/Ops.lean ====
section
/-! SUPPORT. What each shared operation can do, once: occurrences, completions and mailbox commands. -/

namespace Sys2Proof.Machine

open Sys2Proof.Safety

/-- Everything a short command can do: it waits, faults its mailbox, is refused by its header, or executes. -/
theorem runCmd_cases (c : Spec) (h : Hdr) (body : State → State × Reply) (s : State) (pass : Bool) :
    (s.mayBegin c h pass = false ∧ runCmd c h body s pass = s)
    ∨ (s.mayBegin c h pass = true ∧ 16 < entriesOf h.length ∧ runCmd c h body s pass = s.faultMb h.mb)
    ∨ (∃ st, s.mayBegin c h pass = true ∧ entriesOf h.length ≤ 16 ∧ s.precheck c h = some st
        ∧ runCmd c h body s pass =
          State.complete (if st = 0x0406 then (s.takeCmd h).raise (s.ev 820 0x0413 [(2, c.opcode), (2, st)]) else s.takeCmd h)
            h.mb (vget s.host.mbs h.mb).cmdRd (s.host.sess.getD (min h.minor 2)) c.opcode h.tag h.length false (.refuse st []))
    ∨ (s.mayBegin c h pass = true ∧ entriesOf h.length ≤ 16 ∧ s.precheck c h = none
        ∧ runCmd c h body s pass =
          (body (s.takeCmd h)).1.complete h.mb (vget s.host.mbs h.mb).cmdRd (s.host.sess.getD (min h.minor 2)) c.opcode h.tag
            h.length true (body (s.takeCmd h)).2) := by
  unfold runCmd
  by_cases h1 : s.mayBegin c h pass = false
  · simp [h1]
  · have h1' : s.mayBegin c h pass = true := by simpa using h1
    by_cases h2 : 16 < entriesOf h.length
    · simp [h1', h2]
    · have h2' : entriesOf h.length ≤ 16 := by omega
      cases hp : s.precheck c h <;> simp [h1', h2, h2']

/-- A command that executes gives its body's effect and reply. -/
theorem runCmd_executes {c : Spec} {h : Hdr} {s : State} {pass : Bool} (body : State → State × Reply)
    (hx : Executes c h s pass) :
    runCmd c h body s pass = answered c h s (body (s.takeCmd h)).1 (body (s.takeCmd h)).2 := by
  obtain ⟨h1, h2, h3⟩ := hx
  unfold runCmd
  have h2' : ¬ 16 < entriesOf h.length := by omega
  simp [h1, h2', h3, answered]

/-- The same with the effect and the reply named. -/
theorem runCmd_answered {c : Spec} {h : Hdr} {s t : State} {pass : Bool} {r : Reply} {body : State → State × Reply}
    (hx : Executes c h s pass) (hb : body (s.takeCmd h) = (t, r)) : runCmd c h body s pass = answered c h s t r := by
  rw [runCmd_executes body hx, hb]

/-- Raising nothing changes nothing. -/
@[simp] theorem State.raiseAll_nil (s : State) : s.raiseAll [] = s := rfl

@[simp] theorem evIf_true (e : Ev) : evIf true e = [e] := rfl
@[simp] theorem evIf_false (e : Ev) : evIf false e = [] := rfl

@[simp] theorem State.raiseAll_one (s : State) (e : Ev) : s.raiseAll [e] = s.raise e := rfl

/-- An occurrence leaves the mailboxes alone. -/
@[simp] theorem State.raise_mbs (s : State) (e : Ev) : (s.raise e).host.mbs = s.host.mbs := by
  unfold State.raise; dsimp only; split <;> rfl

@[simp] theorem State.raiseAll_mbs (s : State) (es : List Ev) : (s.raiseAll es).host.mbs = s.host.mbs := by
  unfold State.raiseAll
  induction es generalizing s with
  | nil => rfl
  | cons e t ih => rw [List.foldl_cons, ih, State.raise_mbs]

theorem leBytes_length (n x : Nat) : (leBytes n x).length = n := by
  induction n generalizing x with
  | zero => rfl
  | succ n ih => simp [leBytes, ih]

theorem EvRec.bytes_length (r : EvRec) : r.bytes.length = 32 := by simp [EvRec.bytes, leBytes_length, slice]

/-- A record's slot lies in the event ring. -/
theorem readByte_ring (i : U32) (r : EvRec) (board : Memory) (a : Nat) (h : a < 0x40000 ∨ 0x60000 ≤ a) :
    readByte (writeBytes board (ringAt i) r.bytes) a = readByte board a := by
  apply readByte_writeBytes_outside
  have : i.toNat % 4096 < 4096 := Nat.mod_lt _ (by decide)
  rw [EvRec.bytes_length]
  unfold ringAt
  omega

/-- The call board after an occurrence is as before, or has one record more in its ring. -/
theorem postEvent_cases (fclk minor trip : Nat) (copied : Bool) (e : Ev) (u : Events) (board : Memory) :
    (postEvent fclk minor trip copied e u board).2 = board
    ∨ ∃ i r, (postEvent fclk minor trip copied e u board).2 = writeBytes board (ringAt i) (EvRec.bytes r) := by
  unfold postEvent
  dsimp only
  split
  · exact Or.inl rfl
  · split
    · exact Or.inl rfl
    · split
      · refine Or.inr ⟨?i, ?r, ?h⟩
        case h => dsimp only; with_reducible rfl
      · refine Or.inr ⟨?i2, ?r2, ?h⟩
        case h => dsimp only; with_reducible rfl

/-- The event unit writes its record into the event ring and nowhere else of the call board (R400, R466). -/
theorem postEvent_board (fclk minor trip : Nat) (copied : Bool) (e : Ev) (u : Events) (board : Memory) (a : Nat)
    (h : a < 0x40000 ∨ 0x60000 ≤ a) : readByte (postEvent fclk minor trip copied e u board).2 a = readByte board a := by
  obtain h1 | ⟨i, r, h1⟩ := postEvent_cases fclk minor trip copied e u board
  · rw [h1]
  · rw [h1]; exact readByte_ring i r board a h

theorem postEvent_wf (fclk minor trip : Nat) (copied : Bool) (e : Ev) (u : Events) (board : Memory) (h : cwf 0 board = true) :
    cwf 0 (postEvent fclk minor trip copied e u board).2 = true := by
  obtain h1 | ⟨i, r, h1⟩ := postEvent_cases fclk minor trip copied e u board
  · rw [h1]; exact h
  · rw [h1]; exact writeBytes_wf _ _ _ h

theorem State.raise_board (s : State) (e : Ev) (a : Nat) (h : a < 0x40000 ∨ 0x60000 ≤ a) :
    readByte (s.raise e).host.board a = readByte s.host.board a := by
  unfold State.raise
  dsimp only
  split
  · exact postEvent_board _ _ _ _ _ _ _ a h
  · rfl

/-- The rounds keep both halves at four words. -/
theorem Digest.rounds_length (ks : List U32) (w : List U32) (d : Digest) (h : d.upper.length = 4 ∧ d.lower.length = 4) :
    (Digest.rounds ks w d).upper.length = 4 ∧ (Digest.rounds ks w d).lower.length = 4 := by
  induction ks generalizing w d with
  | nil => exact h
  | cons k ks ih => exact ih _ _ ⟨by simp [h.1], by simp [h.2]⟩

/-- So does a block. -/
theorem Digest.block_length (blk : List Byte) (d : Digest) (h : d.upper.length = 4 ∧ d.lower.length = 4) :
    (d.block blk).upper.length = 4 ∧ (d.block blk).lower.length = 4 := by
  have r := fun w => Digest.rounds_length shaConstants w d h
  constructor <;> simp [Digest.block, h, r]

/-- So do blocks one after another. -/
theorem Digest.blocks_length (g : Nat → List Byte) (l : List Nat) (d : Digest) (h : d.upper.length = 4 ∧ d.lower.length = 4) :
    (l.foldl (fun d i => d.block (g i)) d).upper.length = 4 ∧ (l.foldl (fun d i => d.block (g i)) d).lower.length = 4 := by
  induction l generalizing d with
  | nil => exact h
  | cons i l ih => exact ih _ (Digest.block_length (g i) d h)

/-- A digest takes 32 bytes. -/
theorem sha256_length (bs : List Byte) : (sha256 bs).length = 32 := by
  have bytes : ∀ d : Digest, d.upper.length = 4 ∧ d.lower.length = 4 →
      ((d.upper ++ d.lower).flatMap (fun w => beBytes 4 w.toNat)).length = 32 := fun d h => by
    simp [beBytes, leBytes_length, h]
  exact bytes _ (Digest.blocks_length _ _ _ (by constructor <;> decide +kernel))

/-- A body says the same as itself. -/
theorem sayAlike_self (r : Cells Byte) (b : List Byte) : sayAlike r b b = true := by
  simp only [sayAlike, beq_self_eq_true, Bool.true_and, List.all_eq_true, beq_iff_eq]
  rintro ⟨⟨x, y⟩, i⟩ h
  obtain ⟨-, -, h⟩ := List.mem_zipIdx h
  have e : x = y := by
    simp only [List.getElem_zip, Prod.mk.injEq] at h
    exact h.1.trans h.2.symm
  simp [e]

end Sys2Proof.Machine
end

