-- ==== Sys2Proof/Laws/Held.lean ====
section
/-! SUPPORT. What every shared operation keeps: the queue of commands, OTP, the ring depths, and the canonical form of the
call board. One pair of lemmas for each operation, `_held` and `_board`. -/

namespace Sys2Proof.Machine

/-- What few commands touch: the queue, OTP and the ring depths. -/
def State.held (s : State) : List Instr × Otp × Vector Nat 8 := (s.pending, s.sec.otp, s.host.mbs.map (·.depth))

/-- The call board is in its canonical form. -/
def State.boardOk (s : State) : Bool := cwf 0#8 s.host.board

@[simp] theorem held_mk (time evt cues host journal boot sec cu tap mon green running old before engines ctxs pictures rings
    pairs wasRings wasPairs curtain audio flow links lineRejects cands dpll ddr twin free pending) :
    State.held ⟨time, evt, cues, host, journal, boot, sec, cu, tap, mon, green, running, old, before, engines, ctxs, pictures,
      rings, pairs, wasRings, wasPairs, curtain, audio, flow, links, lineRejects, cands, dpll, ddr, twin, free, pending⟩
      = (pending, sec.otp, host.mbs.map (·.depth)) := rfl

@[simp] theorem held_eta (s : State) : (s.pending, s.sec.otp, s.host.mbs.map (·.depth)) = s.held := rfl

@[simp] theorem boardOk_mk (time evt cues host journal boot sec cu tap mon green running old before engines ctxs pictures rings
    pairs wasRings wasPairs curtain audio flow links lineRejects cands dpll ddr twin free pending) :
    State.boardOk ⟨time, evt, cues, host, journal, boot, sec, cu, tap, mon, green, running, old, before, engines, ctxs, pictures,
      rings, pairs, wasRings, wasPairs, curtain, audio, flow, links, lineRejects, cands, dpll, ddr, twin, free, pending⟩
      = cwf 0#8 host.board := rfl

@[simp] theorem boardOk_eta (s : State) : cwf 0#8 s.host.board = s.boardOk := rfl

@[simp] theorem depths_vset (v : Vector Mailbox 8) (i : Fin 8) (m : Mailbox) (h : m.depth = (vget v i).depth) :
    (vset v i m).map (·.depth) = v.map (·.depth) := by
  ext j hj
  simp only [vset, vget, Vector.getElem_map, Vector.getElem_set] at *
  split
  · next hk => subst hk; exact h
  · rfl

@[simp] theorem depths_vmod (v : Vector Mailbox 8) (i : Fin 8) (f : Mailbox → Mailbox) (h : (f (vget v i)).depth = (vget v i).depth) :
    (vmod v i f).map (·.depth) = v.map (·.depth) := depths_vset v i _ h

@[simp] theorem foldl_held {α : Type} (f : State → α → State) (h : ∀ t x, (f t x).held = t.held) (l : List α) (s : State) :
    (l.foldl f s).held = s.held := by
  induction l generalizing s with
  | nil => rfl
  | cons x l ih => rw [List.foldl_cons, ih, h]

@[simp] theorem foldl_board {α : Type} (f : State → α → State) (h : ∀ t x, t.boardOk = true → (f t x).boardOk = true) (l : List α)
    (s : State) (hs : s.boardOk = true) : (l.foldl f s).boardOk = true := by
  induction l generalizing s with
  | nil => exact hs
  | cons x l ih => rw [List.foldl_cons]; exact ih _ (h _ _ hs)

@[simp] theorem cwf_writeBytes (m : Memory) (a : Nat) (bs : List Byte) (h : cwf 0#8 m = true) : cwf 0#8 (writeBytes m a bs) = true :=
  writeBytes_wf bs m a h

@[simp] theorem cwf_writeSlots (base depth n : Nat) (i : U32) (bs : List Byte) (m : Memory) (h : cwf 0#8 m = true) :
    cwf 0#8 (writeSlots base depth n i bs m) = true := by
  induction n generalizing i bs m with
  | zero => exact h
  | succ n ih => exact ih _ _ _ (writeBytes_wf _ _ _ h)

/-! ### Occurrences, completions and mailboxes -/

@[simp] theorem State.fresh_held (s : State) : s.fresh.held = s.held := rfl
@[simp] theorem State.fresh_board (s : State) : s.fresh.boardOk = s.boardOk := rfl
@[simp] theorem State.takeCmd_held (s : State) (h : Hdr) : (s.takeCmd h).held = s.held := by simp [State.takeCmd]
@[simp] theorem State.takeCmd_board (s : State) (h : Hdr) : (s.takeCmd h).boardOk = s.boardOk := rfl

@[simp] theorem State.raise_held (s : State) (e : Ev) : (s.raise e).held = s.held := by
  unfold State.raise; dsimp only; split <;> rfl
@[simp] theorem State.raise_boardOk (s : State) (e : Ev) (h : s.boardOk = true) : (s.raise e).boardOk = true := by
  unfold State.raise; dsimp only; split
  · exact postEvent_wf _ _ _ _ _ _ _ h
  · exact h
@[simp] theorem State.raiseAll_held (s : State) (es : List Ev) : (s.raiseAll es).held = s.held := by
  unfold State.raiseAll; simp
@[simp] theorem State.raiseAll_board (s : State) (es : List Ev) (h : s.boardOk = true) : (s.raiseAll es).boardOk = true := by
  unfold State.raiseAll; exact foldl_board _ (fun t x ht => State.raise_boardOk t x ht) _ _ h

@[simp] theorem State.complete_held (s : State) (mb : Fin 8) (i : U32) (a b c d : Nat) (j : Bool) (r : Reply) :
    (s.complete mb i a b c d j r).held = s.held := by
  unfold State.complete; dsimp only; simp
@[simp] theorem State.complete_board (s : State) (mb : Fin 8) (i : U32) (a b c d : Nat) (j : Bool) (r : Reply) (h : s.boardOk = true) :
    (s.complete mb i a b c d j r).boardOk = true := by
  unfold State.complete; dsimp only; simp [h]

@[simp] theorem HostWin.note_mbs (h : HostWin) (i c : Nat) : (h.note i c).mbs = h.mbs := rfl
@[simp] theorem HostWin.note_board (h : HostWin) (i c : Nat) : (h.note i c).board = h.board := rfl
@[simp] theorem State.faultMb_held (s : State) (mb : Fin 8) : (s.faultMb mb).held = s.held := by
  unfold State.faultMb; simp
@[simp] theorem State.faultMb_board (s : State) (mb : Fin 8) (h : s.boardOk = true) : (s.faultMb mb).boardOk = true := by
  unfold State.faultMb; simp [h]
@[simp] theorem State.resetMb_held (s : State) (mb : Fin 8) : (s.resetMb mb).held = s.held := by
  unfold State.resetMb; simp
@[simp] theorem State.resetMb_board (s : State) (mb : Fin 8) (h : s.boardOk = true) : (s.resetMb mb).boardOk = true := by
  unfold State.resetMb; simp [h]
@[simp] theorem State.finishLong_held (s : State) (mb : Fin 8) (r : Reply) : (s.finishLong mb r).held = s.held := by
  unfold State.finishLong; dsimp only; split
  · rfl
  · split <;> simp
@[simp] theorem State.finishLong_board (s : State) (mb : Fin 8) (r : Reply) (h : s.boardOk = true) :
    (s.finishLong mb r).boardOk = true := by
  unfold State.finishLong; dsimp only; split
  · exact h
  · split <;> simp [h]
@[simp] theorem State.setBulk_held (s : State) (a : Nat) (bs : List Byte) : (s.setBulk a bs).held = s.held := rfl
@[simp] theorem State.setBulk_board (s : State) (a : Nat) (bs : List Byte) (h : s.boardOk = true) :
    (s.setBulk a bs).boardOk = true := by
  unfold State.setBulk; simp [h]

/-- A short command keeps what its body keeps. -/
theorem runCmd_held (c : Spec) (h : Hdr) (body : State → State × Reply) (s : State) (pass : Bool)
    (hb : (body (s.takeCmd h)).1.held = s.held) : (runCmd c h body s pass).held = s.held := by
  obtain ⟨-, e⟩ | ⟨-, -, e⟩ | ⟨st, -, -, -, e⟩ | ⟨-, -, -, e⟩ := runCmd_cases c h body s pass <;> rw [e]
  · simp
  · split <;> simp
  · simp [hb]

theorem runCmd_board (c : Spec) (h : Hdr) (body : State → State × Reply) (s : State) (pass : Bool)
    (hs : s.boardOk = true) (hb : (s.takeCmd h).boardOk = true → (body (s.takeCmd h)).1.boardOk = true) :
    (runCmd c h body s pass).boardOk = true := by
  obtain ⟨-, e⟩ | ⟨-, -, e⟩ | ⟨st, -, -, -, e⟩ | ⟨-, -, -, e⟩ := runCmd_cases c h body s pass <;> rw [e]
  · exact hs
  · simp [hs]
  · split <;> simp [hs]
  · exact State.complete_board _ _ _ _ _ _ _ _ _ (hb hs)

theorem runLong_held (c : Spec) (h : Hdr) (body : State → State × Option Reply) (s : State)
    (hb : (body (s.takeCmd h)).1.held = s.held) : (runLong c h body s).held = s.held := by
  unfold runLong; dsimp only
  split
  · rfl
  · split
    · simp
    · split
      · split <;> simp
      · split
        · simp [hb]
        · simp [hb]

theorem runLong_board (c : Spec) (h : Hdr) (body : State → State × Option Reply) (s : State) (hs : s.boardOk = true)
    (hb : (s.takeCmd h).boardOk = true → (body (s.takeCmd h)).1.boardOk = true) : (runLong c h body s).boardOk = true := by
  unfold runLong; dsimp only
  split
  · exact hs
  · split
    · simp [hs]
    · split
      · split <;> simp [hs]
      · split
        · exact State.complete_board _ _ _ _ _ _ _ _ _ (hb hs)
        · exact hb hs

@[simp] theorem HostWin.clearInt_mbs (h : HostWin) (v c : Nat) : (h.clearInt v c).mbs = h.mbs := rfl
@[simp] theorem HostWin.clearInt_board (h : HostWin) (v c : Nat) : (h.clearInt v c).board = h.board := rfl

theorem foldl_held_fst {α β : Type} (f : State × β → α → State × β) (h : ∀ t x, (f t x).1.held = t.1.held) (l : List α)
    (s : State × β) : (l.foldl f s).1.held = s.1.held := by
  induction l generalizing s with
  | nil => rfl
  | cons x l ih => rw [List.foldl_cons, ih, h]

theorem foldl_board_fst {α β : Type} (f : State × β → α → State × β) (h : ∀ t x, t.1.boardOk = true → (f t x).1.boardOk = true)
    (l : List α) (s : State × β) (hs : s.1.boardOk = true) : (l.foldl f s).1.boardOk = true := by
  induction l generalizing s with
  | nil => exact hs
  | cons x l ih => rw [List.foldl_cons]; exact ih _ (h _ _ hs)

@[simp] theorem State.setLink_held (s : State) (i : Fin 12) (l : Link) : (State.setLink s i l).held = s.held := by
  rfl
@[simp] theorem State.setLink_board (s : State) (i : Fin 12) (l : Link) (hb : s.boardOk = true) : (State.setLink s i l).boardOk = true := by
  exact hb
@[simp] theorem State.abortEye_held (s : State) (i : Fin 12) : (State.abortEye s i).held = s.held := by
  unfold State.abortEye; try dsimp only
  repeat' split
  all_goals first | with_reducible rfl | simp
@[simp] theorem State.abortEye_board (s : State) (i : Fin 12) (hb : s.boardOk = true) : (State.abortEye s i).boardOk = true := by
  unfold State.abortEye; try dsimp only
  repeat' split
  all_goals first | with_reducible exact hb | simp (maxDischargeDepth := 9) [hb] | simp +contextual (maxDischargeDepth := 9) [hb]
@[simp] theorem State.retrain_held (s : State) (i : Fin 12) (cause : Nat) : (State.retrain s i cause).held = s.held := by
  unfold State.retrain; try dsimp only
  repeat' split
  all_goals first | with_reducible rfl | simp
@[simp] theorem State.retrain_board (s : State) (i : Fin 12) (cause : Nat) (hb : s.boardOk = true) : (State.retrain s i cause).boardOk = true := by
  unfold State.retrain; try dsimp only
  repeat' split
  all_goals first | with_reducible exact hb | simp (maxDischargeDepth := 9) [hb] | simp +contextual (maxDischargeDepth := 9) [hb]
@[simp] theorem State.failAttempt_held (s : State) (i : Fin 12) (lanes : List (Fin 4)) : (State.failAttempt s i lanes).held = s.held := by
  unfold State.failAttempt; try dsimp only
  repeat' split
  all_goals first | with_reducible rfl | simp
@[simp] theorem State.failAttempt_board (s : State) (i : Fin 12) (lanes : List (Fin 4)) (hb : s.boardOk = true) : (State.failAttempt s i lanes).boardOk = true := by
  unfold State.failAttempt; try dsimp only
  repeat' split
  all_goals first | with_reducible exact hb | simp (maxDischargeDepth := 9) [hb] | simp +contextual (maxDischargeDepth := 9) [hb]
@[simp] theorem State.adaptStep_held (s : State) (i : Fin 12) (a : State) (n : Fin 4) (c : Nat) (v : Int) (was : Bool) :
    (s.adaptStep i a n c v was).held = a.held := by
  unfold State.adaptStep; simp
@[simp] theorem State.adaptStep_board (s : State) (i : Fin 12) (a : State) (n : Fin 4) (c : Nat) (v : Int) (was : Bool) (h : a.boardOk = true) :
    (s.adaptStep i a n c v was).boardOk = true := by
  unfold State.adaptStep; simp (maxDischargeDepth := 9) [h]
@[simp] theorem State.popInbox_held (s : State) (i : Fin 12) (vc : Fin 8) : (State.popInbox s i vc).held = s.held := by
  unfold State.popInbox; try dsimp only
  repeat' split
  all_goals first | with_reducible rfl | simp
@[simp] theorem State.popInbox_board (s : State) (i : Fin 12) (vc : Fin 8) (hb : s.boardOk = true) : (State.popInbox s i vc).boardOk = true := by
  unfold State.popInbox; try dsimp only
  repeat' split
  all_goals first | with_reducible exact hb | simp (maxDischargeDepth := 9) [hb] | simp +contextual (maxDischargeDepth := 9) [hb]
@[simp] theorem State.send_held (s : State) (i : Fin 12) (vc : Fin 8) (type : Nat) (body : List Byte) : (State.send s i vc type body).held = s.held := by
  unfold State.send; try dsimp only
  repeat' split
  all_goals first | with_reducible rfl | simp
@[simp] theorem State.send_board (s : State) (i : Fin 12) (vc : Fin 8) (type : Nat) (body : List Byte) (hb : s.boardOk = true) : (State.send s i vc type body).boardOk = true := by
  unfold State.send; try dsimp only
  repeat' split
  all_goals first | with_reducible exact hb | simp (maxDischargeDepth := 9) [hb] | simp +contextual (maxDischargeDepth := 9) [hb]
@[simp] theorem State.logError_held (s : State) (e : LogEntry) : (State.logError s e).held = s.held := by
  unfold State.logError; try dsimp only
  repeat' split
  all_goals first | with_reducible rfl | simp
@[simp] theorem State.logError_board (s : State) (e : LogEntry) (hb : s.boardOk = true) : (State.logError s e).boardOk = true := by
  unfold State.logError; try dsimp only
  repeat' split
  all_goals first | with_reducible exact hb | simp (maxDischargeDepth := 9) [hb] | simp +contextual (maxDischargeDepth := 9) [hb]
@[simp] theorem State.setSub_held (s : State) (i : Fin 12) (c : SubCh) : (State.setSub s i c).held = s.held := by
  rfl
@[simp] theorem State.setSub_board (s : State) (i : Fin 12) (c : SubCh) (hb : s.boardOk = true) : (State.setSub s i c).boardOk = true := by
  exact hb
@[simp] theorem State.checksOff_held (s : State) (i : Fin 12) (rank : Nat) : (State.checksOff s i rank).held = s.held := by
  unfold State.checksOff; try dsimp only
  repeat' split
  all_goals first | with_reducible rfl | simp
@[simp] theorem State.checksOff_board (s : State) (i : Fin 12) (rank : Nat) (hb : s.boardOk = true) : (State.checksOff s i rank).boardOk = true := by
  unfold State.checksOff; try dsimp only
  repeat' split
  all_goals first | with_reducible exact hb | simp (maxDischargeDepth := 9) [hb] | simp +contextual (maxDischargeDepth := 9) [hb]
@[simp] theorem State.markComp_held (s : State) (i : Fin 12) (rank comp cause : Nat) : (State.markComp s i rank comp cause).held = s.held := by
  unfold State.markComp; try dsimp only
  repeat' split
  all_goals first | with_reducible rfl | simp
@[simp] theorem State.markComp_board (s : State) (i : Fin 12) (rank comp cause : Nat) (hb : s.boardOk = true) : (State.markComp s i rank comp cause).boardOk = true := by
  unfold State.markComp; try dsimp only
  repeat' split
  all_goals first | with_reducible exact hb | simp (maxDischargeDepth := 9) [hb] | simp +contextual (maxDischargeDepth := 9) [hb]
@[simp] theorem State.correction_held (port address rank : Nat) (i : Fin 12) (synd : List Byte) (s : State) (comp : Nat) : (State.correction port address rank i synd s comp).held = s.held := by
  unfold State.correction; try dsimp only
  repeat' split
  all_goals first | with_reducible rfl | simp
@[simp] theorem State.correction_board (port address rank : Nat) (i : Fin 12) (synd : List Byte) (s : State) (comp : Nat) (hb : s.boardOk = true) : (State.correction port address rank i synd s comp).boardOk = true := by
  unfold State.correction; try dsimp only
  repeat' split
  all_goals first | with_reducible exact hb | simp (maxDischargeDepth := 9) [hb] | simp +contextual (maxDischargeDepth := 9) [hb]
@[simp] theorem State.decode_held (s : State) (i : Fin 12) (port address : Nat) (err : CodeErr) (kind : Nat) : (State.decode s i port address err kind).1.held = s.held := by
  unfold State.decode; try dsimp only
  repeat' split
  all_goals simp
@[simp] theorem State.decode_board (s : State) (i : Fin 12) (port address : Nat) (err : CodeErr) (kind : Nat) (hb : s.boardOk = true) : (State.decode s i port address err kind).1.boardOk = true := by
  unfold State.decode; try dsimp only
  repeat' split
  · exact hb
  · refine foldl_board _ (fun t x ht => ?_) _ _ ?_
    · simp (maxDischargeDepth := 9) [ht]
    · exact hb
  all_goals (dsimp only; apply State.raise_boardOk; apply State.logError_board; exact hb)
@[simp] theorem State.putCk_held (s : State) (k : Ck) : (State.putCk s k).held = s.held := by
  unfold State.putCk; try dsimp only
  repeat' split
  all_goals first | with_reducible rfl | simp
@[simp] theorem State.putCk_board (s : State) (k : Ck) (hb : s.boardOk = true) : (State.putCk s k).boardOk = true := by
  unfold State.putCk; try dsimp only
  repeat' split
  all_goals first | with_reducible exact hb | simp (maxDischargeDepth := 9) [hb] | simp +contextual (maxDischargeDepth := 9) [hb]
@[simp] theorem State.review_held (s : State) : (State.review s).held = s.held := by
  unfold State.review; try dsimp only
  repeat' split
  all_goals first | with_reducible rfl | simp
@[simp] theorem State.review_board (s : State) (hb : s.boardOk = true) : (State.review s).boardOk = true := by
  unfold State.review; try dsimp only
  repeat' split
  all_goals first | with_reducible exact hb | simp (maxDischargeDepth := 9) [hb] | simp +contextual (maxDischargeDepth := 9) [hb]
@[simp] theorem State.setTime_held (s : State) (ns cause : Nat) : (State.setTime s ns cause).held = s.held := by
  unfold State.setTime; try dsimp only
  repeat' split
  all_goals first | with_reducible rfl | simp
@[simp] theorem State.setTime_board (s : State) (ns cause : Nat) (hb : s.boardOk = true) : (State.setTime s ns cause).boardOk = true := by
  unfold State.setTime; try dsimp only
  repeat' split
  all_goals first | with_reducible exact hb | simp (maxDischargeDepth := 9) [hb] | simp +contextual (maxDischargeDepth := 9) [hb]
@[simp] theorem State.setCtx_held (s : State) (c : Nat) (x : CtxState) : (State.setCtx s c x).held = s.held := by
  rfl
@[simp] theorem State.setCtx_board (s : State) (c : Nat) (x : CtxState) (hb : s.boardOk = true) : (State.setCtx s c x).boardOk = true := by
  exact hb
@[simp] theorem State.noteQueues_held (s : State) (old : Ddr) : (State.noteQueues s old).held = s.held := by
  unfold State.noteQueues; try dsimp only
  repeat' split
  all_goals first | with_reducible rfl | simp
@[simp] theorem State.noteQueues_board (s : State) (old : Ddr) (hb : s.boardOk = true) : (State.noteQueues s old).boardOk = true := by
  unfold State.noteQueues; try dsimp only
  repeat' split
  all_goals first | with_reducible exact hb | simp (maxDischargeDepth := 9) [hb] | simp +contextual (maxDischargeDepth := 9) [hb]
@[simp] theorem State.portFull_held (s : State) (port : Fin 22) (bytes : Nat) : (State.portFull s port bytes).held = s.held := by
  unfold State.portFull; try dsimp only
  repeat' split
  all_goals first | with_reducible rfl | simp
@[simp] theorem State.portFull_board (s : State) (port : Fin 22) (bytes : Nat) (hb : s.boardOk = true) : (State.portFull s port bytes).boardOk = true := by
  unfold State.portFull; try dsimp only
  repeat' split
  all_goals first | with_reducible exact hb | simp (maxDischargeDepth := 9) [hb] | simp +contextual (maxDischargeDepth := 9) [hb]
@[simp] theorem State.keepLevels_held (s : State) (p : Production) (c : Ctx) (n t k : Nat) : (State.keepLevels s p c n t k).held = s.held := by
  unfold State.keepLevels; try dsimp only
  repeat' split
  all_goals first | with_reducible rfl | simp
@[simp] theorem State.keepLevels_board (s : State) (p : Production) (c : Ctx) (n t k : Nat) (hb : s.boardOk = true) : (State.keepLevels s p c n t k).boardOk = true := by
  unfold State.keepLevels; try dsimp only
  repeat' split
  all_goals first | with_reducible exact hb | simp (maxDischargeDepth := 9) [hb] | simp +contextual (maxDischargeDepth := 9) [hb]
@[simp] theorem State.ctxLine_held (s : State) (p : Production) (c : Ctx) (n : Nat) (m : LineMsg) (room : Bool) : (State.ctxLine s p c n m room).held = s.held := by
  unfold State.ctxLine; try dsimp only
  repeat' split
  all_goals first | with_reducible rfl | simp
@[simp] theorem State.ctxLine_board (s : State) (p : Production) (c : Ctx) (n : Nat) (m : LineMsg) (room : Bool) (hb : s.boardOk = true) : (State.ctxLine s p c n m room).boardOk = true := by
  unfold State.ctxLine; try dsimp only
  repeat' split
  all_goals first | with_reducible exact hb | simp (maxDischargeDepth := 9) [hb] | simp +contextual (maxDischargeDepth := 9) [hb]
@[simp] theorem State.setRing_held (s : State) (p : Production) (source : Nat) (r : Ring) : (State.setRing s p source r).held = s.held := by
  unfold State.setRing; try dsimp only
  repeat' split
  all_goals first | with_reducible rfl | simp
@[simp] theorem State.setRing_board (s : State) (p : Production) (source : Nat) (r : Ring) (hb : s.boardOk = true) : (State.setRing s p source r).boardOk = true := by
  unfold State.setRing; try dsimp only
  repeat' split
  all_goals first | with_reducible exact hb | simp (maxDischargeDepth := 9) [hb] | simp +contextual (maxDischargeDepth := 9) [hb]
@[simp] theorem State.ringLine_held (s : State) (p : Production) (q : Source) (n : Nat) (m : LineMsg) : (State.ringLine s p q n m).held = s.held := by
  unfold State.ringLine; try dsimp only
  repeat' split
  all_goals first | with_reducible rfl | simp
@[simp] theorem State.ringLine_board (s : State) (p : Production) (q : Source) (n : Nat) (m : LineMsg) (hb : s.boardOk = true) : (State.ringLine s p q n m).boardOk = true := by
  unfold State.ringLine; try dsimp only
  repeat' split
  all_goals first | with_reducible exact hb | simp (maxDischargeDepth := 9) [hb] | simp +contextual (maxDischargeDepth := 9) [hb]
@[simp] theorem State.closeRow_held (s : State) (p : Production) (c : Ctx) (n t k : Nat) : (State.closeRow s p c n t k).held = s.held := by
  unfold State.closeRow; try dsimp only
  repeat' split
  all_goals first | with_reducible rfl | simp
@[simp] theorem State.closeRow_board (s : State) (p : Production) (c : Ctx) (n t k : Nat) (hb : s.boardOk = true) : (State.closeRow s p c n t k).boardOk = true := by
  unfold State.closeRow; try dsimp only
  repeat' split
  all_goals first | with_reducible exact hb | simp (maxDischargeDepth := 9) [hb] | simp +contextual (maxDischargeDepth := 9) [hb]
@[simp] theorem State.geometryLatch_held (s : State) (p : Production) (c : Ctx) (n : Nat) : (State.geometryLatch s p c n).held = s.held := by
  unfold State.geometryLatch; try dsimp only
  repeat' split
  all_goals first | with_reducible rfl | simp
@[simp] theorem State.geometryLatch_board (s : State) (p : Production) (c : Ctx) (n : Nat) (hb : s.boardOk = true) : (State.geometryLatch s p c n).boardOk = true := by
  unfold State.geometryLatch; try dsimp only
  repeat' split
  all_goals first | with_reducible exact hb | simp (maxDischargeDepth := 9) [hb] | simp +contextual (maxDischargeDepth := 9) [hb]
@[simp] theorem State.contentLatchAt_held (s : State) (p : Production) (c : Ctx) (n tick : Nat) : (State.contentLatchAt s p c n tick).held = s.held := by
  unfold State.contentLatchAt; try dsimp only
  repeat' split
  all_goals first | with_reducible rfl | simp
@[simp] theorem State.contentLatchAt_board (s : State) (p : Production) (c : Ctx) (n tick : Nat) (hb : s.boardOk = true) : (State.contentLatchAt s p c n tick).boardOk = true := by
  unfold State.contentLatchAt; try dsimp only
  repeat' split
  all_goals first | with_reducible exact hb | simp (maxDischargeDepth := 9) [hb] | simp +contextual (maxDischargeDepth := 9) [hb]
@[simp] theorem State.setEngine_held (s : State) (e : Fin 16) (g : Engine) : (State.setEngine s e g).held = s.held := by
  rfl
@[simp] theorem State.setEngine_board (s : State) (e : Fin 16) (g : Engine) (hb : s.boardOk = true) : (State.setEngine s e g).boardOk = true := by
  exact hb
@[simp] theorem State.publish_held (s : State) (context tile : Nat) (r : CtxRec) : (State.publish s context tile r).held = s.held := by
  unfold State.publish; try dsimp only
  repeat' split
  all_goals first | with_reducible rfl | simp
@[simp] theorem State.publish_board (s : State) (context tile : Nat) (r : CtxRec) (hb : s.boardOk = true) : (State.publish s context tile r).boardOk = true := by
  unfold State.publish; try dsimp only
  repeat' split
  all_goals first | with_reducible exact hb | simp (maxDischargeDepth := 9) [hb] | simp +contextual (maxDischargeDepth := 9) [hb]
@[simp] theorem State.lateRead_held (s : State) (e : Fin 16) (ts : List Nat) : (State.lateRead s e ts).held = s.held := by
  unfold State.lateRead; try dsimp only
  repeat' split
  all_goals first | with_reducible rfl | simp
@[simp] theorem State.lateRead_board (s : State) (e : Fin 16) (ts : List Nat) (hb : s.boardOk = true) : (State.lateRead s e ts).boardOk = true := by
  unfold State.lateRead; try dsimp only
  repeat' split
  all_goals first | with_reducible exact hb | simp (maxDischargeDepth := 9) [hb] | simp +contextual (maxDischargeDepth := 9) [hb]
@[simp] theorem State.reachWord_held (s : State) (e : Fin 16) (t : EngineTab) (slot : Nat) (want : Nat → CueWord → Bool) : (State.reachWord s e t slot want).1.held = s.held := by
  unfold State.reachWord; try dsimp only
  repeat' split
  all_goals first | with_reducible rfl | simp
@[simp] theorem State.reachWord_board (s : State) (e : Fin 16) (t : EngineTab) (slot : Nat) (want : Nat → CueWord → Bool) (hb : s.boardOk = true) : (State.reachWord s e t slot want).1.boardOk = true := by
  unfold State.reachWord; try dsimp only
  repeat' split
  all_goals first | with_reducible exact hb | simp (maxDischargeDepth := 9) [hb] | simp +contextual (maxDischargeDepth := 9) [hb]
@[simp] theorem State.keepPreview_held (s : State) (c : Ctx) (frame qy : Nat) (p : Picture) : (State.keepPreview s c frame qy p).held = s.held := by
  unfold State.keepPreview; try dsimp only
  repeat' split
  all_goals first | with_reducible rfl | simp
@[simp] theorem State.keepPreview_board (s : State) (c : Ctx) (frame qy : Nat) (p : Picture) (hb : s.boardOk = true) : (State.keepPreview s c frame qy p).boardOk = true := by
  unfold State.keepPreview; try dsimp only
  repeat' split
  all_goals first | with_reducible exact hb | simp (maxDischargeDepth := 9) [hb] | simp +contextual (maxDischargeDepth := 9) [hb]
@[simp] theorem State.previewQuad_held (s : State) (j : Job) (frame qx qy : Nat) (samples : List Nat) : (State.previewQuad s j frame qx qy samples).held = s.held := by
  unfold State.previewQuad; try dsimp only
  repeat' split
  all_goals first | with_reducible rfl | simp
@[simp] theorem State.previewQuad_board (s : State) (j : Job) (frame qx qy : Nat) (samples : List Nat) (hb : s.boardOk = true) : (State.previewQuad s j frame qx qy samples).boardOk = true := by
  unfold State.previewQuad; try dsimp only
  repeat' split
  all_goals first | with_reducible exact hb | simp (maxDischargeDepth := 9) [hb] | simp +contextual (maxDischargeDepth := 9) [hb]
@[simp] theorem State.previewCtu_held (s : State) (e : Fin 16) (j : Job) (qs : List Nat) : (State.previewCtu s e j qs).held = s.held := by
  unfold State.previewCtu; try dsimp only
  repeat' split
  all_goals first | with_reducible rfl | simp
@[simp] theorem State.previewCtu_board (s : State) (e : Fin 16) (j : Job) (qs : List Nat) (hb : s.boardOk = true) : (State.previewCtu s e j qs).boardOk = true := by
  unfold State.previewCtu; try dsimp only
  repeat' split
  all_goals first | with_reducible exact hb | simp (maxDischargeDepth := 9) [hb] | simp +contextual (maxDischargeDepth := 9) [hb]
@[simp] theorem State.recompose_held (s : State) (e : Fin 16) (j : Job) : (State.recompose s e j).held = s.held := by
  unfold State.recompose; try dsimp only
  repeat' split
  all_goals first | with_reducible rfl | simp
@[simp] theorem State.recompose_board (s : State) (e : Fin 16) (j : Job) (hb : s.boardOk = true) : (State.recompose s e j).boardOk = true := by
  unfold State.recompose; try dsimp only
  repeat' split
  all_goals first | with_reducible exact hb | simp (maxDischargeDepth := 9) [hb] | simp +contextual (maxDischargeDepth := 9) [hb]
@[simp] theorem State.frameStart_held (s : State) (e : Fin 16) (j : Job) : (State.frameStart s e j).held = s.held := by
  unfold State.frameStart; try dsimp only
  repeat' split
  all_goals first | with_reducible rfl | simp
@[simp] theorem State.frameStart_board (s : State) (e : Fin 16) (j : Job) (hb : s.boardOk = true) : (State.frameStart s e j).boardOk = true := by
  unfold State.frameStart; try dsimp only
  repeat' split
  all_goals first | with_reducible exact hb | simp (maxDischargeDepth := 9) [hb] | simp +contextual (maxDischargeDepth := 9) [hb]
@[simp] theorem State.endRun_held (s : State) (e : Fin 16) : (State.endRun s e).held = s.held := by
  unfold State.endRun; try dsimp only
  repeat' split
  all_goals first | with_reducible rfl | simp
@[simp] theorem State.endRun_board (s : State) (e : Fin 16) (hb : s.boardOk = true) : (State.endRun s e).boardOk = true := by
  unfold State.endRun; try dsimp only
  repeat' split
  all_goals first | with_reducible exact hb | simp (maxDischargeDepth := 9) [hb] | simp +contextual (maxDischargeDepth := 9) [hb]
@[simp] theorem State.endSlot_held (s : State) (e : Fin 16) : (State.endSlot s e).held = s.held := by
  unfold State.endSlot; try dsimp only
  repeat' split
  all_goals first | with_reducible rfl | simp
@[simp] theorem State.endSlot_board (s : State) (e : Fin 16) (hb : s.boardOk = true) : (State.endSlot s e).boardOk = true := by
  unfold State.endSlot; try dsimp only
  repeat' split
  all_goals first | with_reducible exact hb | simp (maxDischargeDepth := 9) [hb] | simp +contextual (maxDischargeDepth := 9) [hb]
@[simp] theorem State.sourceBack_held (s : State) (e : Fin 16) (j : Job) : (State.sourceBack s e j).held = s.held := by
  unfold State.sourceBack; try dsimp only
  repeat' split
  all_goals first | with_reducible rfl | simp
@[simp] theorem State.sourceBack_board (s : State) (e : Fin 16) (j : Job) (hb : s.boardOk = true) : (State.sourceBack s e j).boardOk = true := by
  unfold State.sourceBack; try dsimp only
  repeat' split
  all_goals first | with_reducible exact hb | simp (maxDischargeDepth := 9) [hb] | simp +contextual (maxDischargeDepth := 9) [hb]
@[simp] theorem State.takeChange_held (s : State) (e : Fin 16) (c : Ctx) (t : Nat) : (State.takeChange s e c t).held = s.held := by
  unfold State.takeChange; try dsimp only
  repeat' split
  all_goals first | with_reducible rfl | simp
@[simp] theorem State.takeChange_board (s : State) (e : Fin 16) (c : Ctx) (t : Nat) (hb : s.boardOk = true) : (State.takeChange s e c t).boardOk = true := by
  unfold State.takeChange; try dsimp only
  repeat' split
  all_goals first | with_reducible exact hb | simp (maxDischargeDepth := 9) [hb] | simp +contextual (maxDischargeDepth := 9) [hb]
@[simp] theorem State.control_held (s : State) (e : Fin 16) (op addr : Nat) (desc : Option Nat) : (State.control s e op addr desc).1.held = s.held := by
  unfold State.control; try dsimp only
  repeat' split
  all_goals first
    | with_reducible rfl
    | (have h := congrArg (fun x => State.held x.1) ‹State.reachWord s e _ _ _ = _›
       dsimp only at h; rw [State.reachWord_held] at h; simp [h.symm])
    | simp
@[simp] theorem State.control_board (s : State) (e : Fin 16) (op addr : Nat) (desc : Option Nat) (hb : s.boardOk = true) : (State.control s e op addr desc).1.boardOk = true := by
  unfold State.control; try dsimp only
  repeat' split
  all_goals first
    | with_reducible exact hb
    | (have h := congrArg (fun x => State.boardOk x.1) ‹State.reachWord s e _ _ _ = _›
       dsimp only at h; rw [State.reachWord_board _ _ _ _ _ hb] at h; simp (maxDischargeDepth := 9) [h.symm])
    | simp (maxDischargeDepth := 9) [hb] | simp +contextual (maxDischargeDepth := 9) [hb]
@[simp] theorem State.issueRead_held (s : State) (e : Fin 16) (tag : Nat) (parts : List (Nat × Nat)) (d : DrDesc) : (State.issueRead s e tag parts d).held = s.held := by
  unfold State.issueRead; try dsimp only
  repeat' split
  all_goals first | with_reducible rfl | simp
@[simp] theorem State.issueRead_board (s : State) (e : Fin 16) (tag : Nat) (parts : List (Nat × Nat)) (d : DrDesc) (hb : s.boardOk = true) : (State.issueRead s e tag parts d).boardOk = true := by
  unfold State.issueRead; try dsimp only
  repeat' split
  all_goals first | with_reducible exact hb | simp (maxDischargeDepth := 9) [hb] | simp +contextual (maxDischargeDepth := 9) [hb]
@[simp] theorem State.issueWrite_held (s : State) (e : Fin 16) (context cls address bytes : Nat) : (State.issueWrite s e context cls address bytes).1.held = s.held := by
  unfold State.issueWrite; try dsimp only
  repeat' split
  all_goals first | with_reducible rfl | simp
@[simp] theorem State.issueWrite_board (s : State) (e : Fin 16) (context cls address bytes : Nat) (hb : s.boardOk = true) : (State.issueWrite s e context cls address bytes).1.boardOk = true := by
  unfold State.issueWrite; try dsimp only
  repeat' split
  all_goals first | with_reducible exact hb | simp (maxDischargeDepth := 9) [hb] | simp +contextual (maxDischargeDepth := 9) [hb]
@[simp] theorem State.newTask_held (s : State) (t : Task) : (State.newTask s t).held = s.held := by
  unfold State.newTask; try dsimp only
  repeat' split
  all_goals first | with_reducible rfl | simp
@[simp] theorem State.newTask_board (s : State) (t : Task) (hb : s.boardOk = true) : (State.newTask s t).boardOk = true := by
  unfold State.newTask; try dsimp only
  repeat' split
  all_goals first | with_reducible exact hb | simp (maxDischargeDepth := 9) [hb] | simp +contextual (maxDischargeDepth := 9) [hb]
@[simp] theorem State.work_held (s : State) (e : Fin 16) (f : CtuWork → CtuWork) : (State.work s e f).held = s.held := by
  unfold State.work; try dsimp only
  repeat' split
  all_goals first | with_reducible rfl | simp
@[simp] theorem State.work_board (s : State) (e : Fin 16) (f : CtuWork → CtuWork) (hb : s.boardOk = true) : (State.work s e f).boardOk = true := by
  unfold State.work; try dsimp only
  repeat' split
  all_goals first | with_reducible exact hb | simp (maxDischargeDepth := 9) [hb] | simp +contextual (maxDischargeDepth := 9) [hb]
@[simp] theorem State.putRec_held (s : State) (e : Fin 16) (j : Job) (r : CtxRec) : (State.putRec s e j r).held = s.held := by
  unfold State.putRec; try dsimp only
  repeat' split
  all_goals first | with_reducible rfl | simp
@[simp] theorem State.putRec_board (s : State) (e : Fin 16) (j : Job) (r : CtxRec) (hb : s.boardOk = true) : (State.putRec s e j r).boardOk = true := by
  unfold State.putRec; try dsimp only
  repeat' split
  all_goals first | with_reducible exact hb | simp (maxDischargeDepth := 9) [hb] | simp +contextual (maxDischargeDepth := 9) [hb]
@[simp] theorem State.modStat_held (s : State) (j : Job) (frame : Nat) (f : FrameStat → FrameStat) : (State.modStat s j frame f).held = s.held := by
  unfold State.modStat; try dsimp only
  repeat' split
  all_goals first | with_reducible rfl | simp
@[simp] theorem State.modStat_board (s : State) (j : Job) (frame : Nat) (f : FrameStat → FrameStat) (hb : s.boardOk = true) : (State.modStat s j frame f).boardOk = true := by
  unfold State.modStat; try dsimp only
  repeat' split
  all_goals first | with_reducible exact hb | simp (maxDischargeDepth := 9) [hb] | simp +contextual (maxDischargeDepth := 9) [hb]
@[simp] theorem State.adopt_held (s : State) (e : Fin 16) (j : Job) : (State.adopt s e j).held = s.held := by
  unfold State.adopt; try dsimp only
  repeat' split
  all_goals first | rfl | simp
@[simp] theorem State.adopt_board (s : State) (e : Fin 16) (j : Job) (hb : s.boardOk = true) : (State.adopt s e j).boardOk = true := by
  unfold State.adopt; try dsimp only
  repeat' split
  · exact hb
  · refine State.review_board _ (foldl_board _ (fun t x ht => ?_) _ _ ?_)
    · simp [ht]
    · simp only [boardOk_mk, boardOk_eta]; exact State.putRec_board _ _ _ _ hb
  · exact hb
@[simp] theorem State.auPrefix_held (s : State) (e : Fin 16) (j : Job) : (State.auPrefix s e j).held = s.held := by
  unfold State.auPrefix; try dsimp only
  repeat' split
  all_goals first | with_reducible rfl | simp
@[simp] theorem State.auPrefix_board (s : State) (e : Fin 16) (j : Job) (hb : s.boardOk = true) : (State.auPrefix s e j).boardOk = true := by
  unfold State.auPrefix; try dsimp only
  repeat' split
  all_goals first | with_reducible exact hb | simp (maxDischargeDepth := 9) [hb] | simp +contextual (maxDischargeDepth := 9) [hb]
@[simp] theorem State.enterRow_held (s : State) (e : Fin 16) (j : Job) : (State.enterRow s e j).held = s.held := by
  unfold State.enterRow; try dsimp only
  repeat' split
  all_goals first | with_reducible rfl | simp
@[simp] theorem State.enterRow_board (s : State) (e : Fin 16) (j : Job) (hb : s.boardOk = true) : (State.enterRow s e j).boardOk = true := by
  unfold State.enterRow; try dsimp only
  repeat' split
  all_goals first | with_reducible exact hb | simp (maxDischargeDepth := 9) [hb] | simp +contextual (maxDischargeDepth := 9) [hb]
@[simp] theorem State.frameTarget_held (s : State) (e : Fin 16) (j : Job) : (State.frameTarget s e j).held = s.held := by
  unfold State.frameTarget; try dsimp only
  repeat' split
  all_goals first | with_reducible rfl | simp
@[simp] theorem State.frameTarget_board (s : State) (e : Fin 16) (j : Job) (hb : s.boardOk = true) : (State.frameTarget s e j).boardOk = true := by
  unfold State.frameTarget; try dsimp only
  repeat' split
  all_goals first | with_reducible exact hb | simp (maxDischargeDepth := 9) [hb] | simp +contextual (maxDischargeDepth := 9) [hb]
@[simp] theorem State.setDecision_held (s : State) (e : Fin 16) (j : Job) (r : CtxRec) (cause : Nat) (d : Decision) : (State.setDecision s e j r cause d).held = s.held := by
  unfold State.setDecision; try dsimp only
  repeat' split
  all_goals first | with_reducible rfl | simp
@[simp] theorem State.setDecision_board (s : State) (e : Fin 16) (j : Job) (r : CtxRec) (cause : Nat) (d : Decision) (hb : s.boardOk = true) : (State.setDecision s e j r cause d).boardOk = true := by
  unfold State.setDecision; try dsimp only
  repeat' split
  all_goals first | with_reducible exact hb | simp (maxDischargeDepth := 9) [hb] | simp +contextual (maxDischargeDepth := 9) [hb]
@[simp] theorem State.decisionPoint_held (s : State) (e : Fin 16) (j : Job) (late : Bool) : (State.decisionPoint s e j late).held = s.held := by
  unfold State.decisionPoint; try dsimp only
  repeat' split
  all_goals first | with_reducible rfl | simp
@[simp] theorem State.decisionPoint_board (s : State) (e : Fin 16) (j : Job) (late : Bool) (hb : s.boardOk = true) : (State.decisionPoint s e j late).boardOk = true := by
  unfold State.decisionPoint; try dsimp only
  repeat' split
  all_goals first | with_reducible exact hb | simp (maxDischargeDepth := 9) [hb] | simp +contextual (maxDischargeDepth := 9) [hb]
@[simp] theorem State.addBits_held (s : State) (e : Fin 16) (bits bins bypass latency : Nat) (normal : Bool) (ops : List Int) : (State.addBits s e bits bins bypass latency normal ops).held = s.held := by
  unfold State.addBits; try dsimp only
  repeat' split
  all_goals first | with_reducible rfl | simp
@[simp] theorem State.addBits_board (s : State) (e : Fin 16) (bits bins bypass latency : Nat) (normal : Bool) (ops : List Int) (hb : s.boardOk = true) : (State.addBits s e bits bins bypass latency normal ops).boardOk = true := by
  unfold State.addBits; try dsimp only
  repeat' split
  all_goals first | with_reducible exact hb | simp (maxDischargeDepth := 9) [hb] | simp +contextual (maxDischargeDepth := 9) [hb]
@[simp] theorem State.floorBin_held (s : State) (e : Fin 16) (j : Job) : (State.floorBin s e j).held = s.held := by
  unfold State.floorBin; try dsimp only
  repeat' split
  all_goals first | with_reducible rfl | simp
@[simp] theorem State.floorBin_board (s : State) (e : Fin 16) (j : Job) (hb : s.boardOk = true) : (State.floorBin s e j).boardOk = true := by
  unfold State.floorBin; try dsimp only
  repeat' split
  all_goals first | with_reducible exact hb | simp (maxDischargeDepth := 9) [hb] | simp +contextual (maxDischargeDepth := 9) [hb]
@[simp] theorem State.openSlice_held (s : State) (e : Fin 16) (j : Job) : (State.openSlice s e j).held = s.held := by
  unfold State.openSlice; try dsimp only
  repeat' split
  all_goals first | with_reducible rfl | simp
@[simp] theorem State.openSlice_board (s : State) (e : Fin 16) (j : Job) (hb : s.boardOk = true) : (State.openSlice s e j).boardOk = true := by
  unfold State.openSlice; try dsimp only
  repeat' split
  all_goals first | with_reducible exact hb | simp (maxDischargeDepth := 9) [hb] | simp +contextual (maxDischargeDepth := 9) [hb]
@[simp] theorem State.endFrame_held (s : State) (e : Fin 16) (j : Job) : (State.endFrame s e j).held = s.held := by
  unfold State.endFrame; try dsimp only
  repeat' split
  all_goals first | with_reducible rfl | simp
@[simp] theorem State.endFrame_board (s : State) (e : Fin 16) (j : Job) (hb : s.boardOk = true) : (State.endFrame s e j).boardOk = true := by
  unfold State.endFrame; try dsimp only
  repeat' split
  all_goals first | with_reducible exact hb | simp (maxDischargeDepth := 9) [hb] | simp +contextual (maxDischargeDepth := 9) [hb]
@[simp] theorem State.endRow_held (s : State) (e : Fin 16) (j : Job) : (State.endRow s e j).held = s.held := by
  unfold State.endRow; try dsimp only
  repeat' split
  all_goals first | with_reducible rfl | simp
@[simp] theorem State.endRow_board (s : State) (e : Fin 16) (j : Job) (hb : s.boardOk = true) : (State.endRow s e j).boardOk = true := by
  unfold State.endRow; try dsimp only
  repeat' split
  all_goals first | with_reducible exact hb | simp (maxDischargeDepth := 9) [hb] | simp +contextual (maxDischargeDepth := 9) [hb]
@[simp] theorem State.stageQuad_held (s : State) (e : Fin 16) (j : Job) (q : Nat) : (State.stageQuad s e j q).held = s.held := by
  unfold State.stageQuad; try dsimp only
  repeat' split
  all_goals first | with_reducible rfl | simp
@[simp] theorem State.stageQuad_board (s : State) (e : Fin 16) (j : Job) (q : Nat) (hb : s.boardOk = true) : (State.stageQuad s e j q).boardOk = true := by
  unfold State.stageQuad; try dsimp only
  repeat' split
  all_goals first | with_reducible exact hb | simp (maxDischargeDepth := 9) [hb] | simp +contextual (maxDischargeDepth := 9) [hb]
@[simp] theorem State.stageCrf_held (s : State) (e : Fin 16) (j : Job) : (State.stageCrf s e j).held = s.held := by
  unfold State.stageCrf; try dsimp only
  repeat' split
  all_goals first | with_reducible rfl | simp
@[simp] theorem State.stageCrf_board (s : State) (e : Fin 16) (j : Job) (hb : s.boardOk = true) : (State.stageCrf s e j).boardOk = true := by
  unfold State.stageCrf; try dsimp only
  repeat' split
  all_goals first | with_reducible exact hb | simp (maxDischargeDepth := 9) [hb] | simp +contextual (maxDischargeDepth := 9) [hb]
@[simp] theorem State.dropRef_held (s : State) (e : Fin 16) (j : Job) (t : Nat) : (State.dropRef s e j t).held = s.held := by
  unfold State.dropRef; try dsimp only
  repeat' split
  all_goals first | with_reducible rfl | simp
@[simp] theorem State.dropRef_board (s : State) (e : Fin 16) (j : Job) (t : Nat) (hb : s.boardOk = true) : (State.dropRef s e j t).boardOk = true := by
  unfold State.dropRef; try dsimp only
  repeat' split
  all_goals first | with_reducible exact hb | simp (maxDischargeDepth := 9) [hb] | simp +contextual (maxDischargeDepth := 9) [hb]
@[simp] theorem State.writeCrf_held (s : State) (e : Fin 16) (j : Job) (address : Nat) : (State.writeCrf s e j address).held = s.held := by
  unfold State.writeCrf; try dsimp only
  repeat' split
  all_goals first | with_reducible rfl | simp
@[simp] theorem State.writeCrf_board (s : State) (e : Fin 16) (j : Job) (address : Nat) (hb : s.boardOk = true) : (State.writeCrf s e j address).boardOk = true := by
  unfold State.writeCrf; try dsimp only
  repeat' split
  all_goals first | with_reducible exact hb | simp (maxDischargeDepth := 9) [hb] | simp +contextual (maxDischargeDepth := 9) [hb]
@[simp] theorem State.writeLevels_held (s : State) (e : Fin 16) (j : Job) (address units : Nat) : (State.writeLevels s e j address units).held = s.held := by
  unfold State.writeLevels; try dsimp only
  repeat' split
  all_goals first | with_reducible rfl | simp
@[simp] theorem State.writeLevels_board (s : State) (e : Fin 16) (j : Job) (address units : Nat) (hb : s.boardOk = true) : (State.writeLevels s e j address units).boardOk = true := by
  unfold State.writeLevels; try dsimp only
  repeat' split
  all_goals first | with_reducible exact hb | simp (maxDischargeDepth := 9) [hb] | simp +contextual (maxDischargeDepth := 9) [hb]
@[simp] theorem State.audioPackets_held (p : Production) (t : AStream) (i n : Nat) (s : State) :
    (State.audioPackets p t i n s).held = s.held := by
  induction n generalizing s with
  | zero => rfl
  | succ n ih =>
    unfold State.audioPackets; dsimp only
    repeat' split
    all_goals first | rfl | simp [ih]
@[simp] theorem State.audioPackets_board (p : Production) (t : AStream) (i n : Nat) (s : State) (h : s.boardOk = true) :
    (State.audioPackets p t i n s).boardOk = true := by
  induction n generalizing s with
  | zero => exact h
  | succ n ih =>
    unfold State.audioPackets; dsimp only
    repeat' split
    all_goals first | exact h | (apply ih; simp [h])
@[simp] theorem State.audioTasks_held (s : State) (p : Production) : (State.audioTasks s p).held = s.held := by
  unfold State.audioTasks; try dsimp only
  refine (foldl_held _ (fun t x => ?_) _ _).trans ?_
  · split
    · simp
    · rfl
  · rfl
@[simp] theorem State.audioTasks_board (s : State) (p : Production) (hb : s.boardOk = true) : (State.audioTasks s p).boardOk = true := by
  unfold State.audioTasks; try dsimp only
  refine foldl_board _ (fun t x ht => ?_) _ _ ?_
  · split
    · simp [ht]
    · exact ht
  · exact hb
@[simp] theorem State.setPort_held (s : State) (i : Fin 32) (x : APortState) : (State.setPort s i x).held = s.held := by
  rfl
@[simp] theorem State.setPort_board (s : State) (i : Fin 32) (x : APortState) (hb : s.boardOk = true) : (State.setPort s i x).boardOk = true := by
  exact hb
@[simp] theorem State.flushPort_held (s : State) (i : Fin 32) : (State.flushPort s i).held = s.held := by
  unfold State.flushPort; try dsimp only
  repeat' split
  all_goals first | with_reducible rfl | simp
@[simp] theorem State.flushPort_board (s : State) (i : Fin 32) (hb : s.boardOk = true) : (State.flushPort s i).boardOk = true := by
  unfold State.flushPort; try dsimp only
  repeat' split
  all_goals first | with_reducible exact hb | simp (maxDischargeDepth := 9) [hb] | simp +contextual (maxDischargeDepth := 9) [hb]
@[simp] theorem State.restartPort_held (s : State) (e : APort) (i : Fin 32) (cause : Nat) : (State.restartPort s e i cause).held = s.held := by
  unfold State.restartPort; try dsimp only
  repeat' split
  all_goals first | with_reducible rfl | simp
@[simp] theorem State.restartPort_board (s : State) (e : APort) (i : Fin 32) (cause : Nat) (hb : s.boardOk = true) : (State.restartPort s e i cause).boardOk = true := by
  unfold State.restartPort; try dsimp only
  repeat' split
  all_goals first | with_reducible exact hb | simp (maxDischargeDepth := 9) [hb] | simp +contextual (maxDischargeDepth := 9) [hb]
@[simp] theorem State.askWords_held (s : State) (p : Production) (i : Fin 32) (n : Nat) : (State.askWords s p i n).held = s.held := by
  unfold State.askWords; try dsimp only
  repeat' split
  all_goals first | with_reducible rfl | simp
@[simp] theorem State.askWords_board (s : State) (p : Production) (i : Fin 32) (n : Nat) (hb : s.boardOk = true) : (State.askWords s p i n).boardOk = true := by
  unfold State.askWords; try dsimp only
  repeat' split
  all_goals first | with_reducible exact hb | simp (maxDischargeDepth := 9) [hb] | simp +contextual (maxDischargeDepth := 9) [hb]
@[simp] theorem State.drainPort_held (s : State) (p : Production) (i : Fin 32) : (State.drainPort s p i).held = s.held := by
  unfold State.drainPort; try dsimp only
  repeat' split
  all_goals first | with_reducible rfl | simp
@[simp] theorem State.drainPort_board (s : State) (p : Production) (i : Fin 32) (hb : s.boardOk = true) : (State.drainPort s p i).boardOk = true := by
  unfold State.drainPort; try dsimp only
  repeat' split
  all_goals first | with_reducible exact hb | simp (maxDischargeDepth := 9) [hb] | simp +contextual (maxDischargeDepth := 9) [hb]
@[simp] theorem State.detectPort_held (s : State) (p : Production) (e : APort) (i : Fin 32) (n : Nat) (v w : Int) : (State.detectPort s p e i n v w).held = s.held := by
  unfold State.detectPort; try dsimp only
  repeat' split
  all_goals first | with_reducible rfl | simp
@[simp] theorem State.detectPort_board (s : State) (p : Production) (e : APort) (i : Fin 32) (n : Nat) (v w : Int) (hb : s.boardOk = true) : (State.detectPort s p e i n v w).boardOk = true := by
  unfold State.detectPort; try dsimp only
  repeat' split
  all_goals first | with_reducible exact hb | simp (maxDischargeDepth := 9) [hb] | simp +contextual (maxDischargeDepth := 9) [hb]
@[simp] theorem State.inputFrame_held (s : State) (p : Production) (e : APort) (framing : Nat) (i : Fin 32) (n : Nat) (w : U32 × U32) : (State.inputFrame s p e framing i n w).held = s.held := by
  unfold State.inputFrame; try dsimp only
  repeat' split
  all_goals first | with_reducible rfl | simp
@[simp] theorem State.inputFrame_board (s : State) (p : Production) (e : APort) (framing : Nat) (i : Fin 32) (n : Nat) (w : U32 × U32) (hb : s.boardOk = true) : (State.inputFrame s p e framing i n w).boardOk = true := by
  unfold State.inputFrame; try dsimp only
  repeat' split
  all_goals first | with_reducible exact hb | simp (maxDischargeDepth := 9) [hb] | simp +contextual (maxDischargeDepth := 9) [hb]
@[simp] theorem State.outputFrame_held (s : State) (p : Production) (e : APort) (framing : Nat) (i : Fin 32) (n : Nat) : (State.outputFrame s p e framing i n).held = s.held := by
  unfold State.outputFrame; try dsimp only
  repeat' split
  all_goals first | with_reducible rfl | simp
@[simp] theorem State.outputFrame_board (s : State) (p : Production) (e : APort) (framing : Nat) (i : Fin 32) (n : Nat) (hb : s.boardOk = true) : (State.outputFrame s p e framing i n).boardOk = true := by
  unfold State.outputFrame; try dsimp only
  repeat' split
  all_goals first | with_reducible exact hb | simp (maxDischargeDepth := 9) [hb] | simp +contextual (maxDischargeDepth := 9) [hb]
@[simp] theorem State.portFrame_held (s : State) (p : Production) (framing n : Nat) (inputs : List PortIn) (i : Fin 32) : (State.portFrame s p framing n inputs i).held = s.held := by
  unfold State.portFrame; try dsimp only
  repeat' split
  all_goals first | with_reducible rfl | simp
@[simp] theorem State.portFrame_board (s : State) (p : Production) (framing n : Nat) (inputs : List PortIn) (i : Fin 32) (hb : s.boardOk = true) : (State.portFrame s p framing n inputs i).boardOk = true := by
  unfold State.portFrame; try dsimp only
  repeat' split
  all_goals first | with_reducible exact hb | simp (maxDischargeDepth := 9) [hb] | simp +contextual (maxDischargeDepth := 9) [hb]
@[simp] theorem State.detectPair_held (s : State) (p : Production) (pair n : Nat) : (State.detectPair s p pair n).held = s.held := by
  unfold State.detectPair; try dsimp only
  repeat' split
  all_goals first | with_reducible rfl | simp
@[simp] theorem State.detectPair_board (s : State) (p : Production) (pair n : Nat) (hb : s.boardOk = true) : (State.detectPair s p pair n).boardOk = true := by
  unfold State.detectPair; try dsimp only
  repeat' split
  all_goals first | with_reducible exact hb | simp (maxDischargeDepth := 9) [hb] | simp +contextual (maxDischargeDepth := 9) [hb]
@[simp] theorem State.linkLate_held (s : State) (c zeroed discarded : Nat) : (State.linkLate s c zeroed discarded).held = s.held := by
  unfold State.linkLate; try dsimp only
  repeat' split
  all_goals first | with_reducible rfl | simp
@[simp] theorem State.linkLate_board (s : State) (c zeroed discarded : Nat) (hb : s.boardOk = true) : (State.linkLate s c zeroed discarded).boardOk = true := by
  unfold State.linkLate; try dsimp only
  repeat' split
  all_goals first | with_reducible exact hb | simp (maxDischargeDepth := 9) [hb] | simp +contextual (maxDischargeDepth := 9) [hb]
@[simp] theorem State.closeLink_held (s : State) (p : Production) (rate c n : Nat) : (State.closeLink s p rate c n).held = s.held := by
  unfold State.closeLink; try dsimp only
  repeat' split
  all_goals first | with_reducible rfl | simp
@[simp] theorem State.closeLink_board (s : State) (p : Production) (rate c n : Nat) (hb : s.boardOk = true) : (State.closeLink s p rate c n).boardOk = true := by
  unfold State.closeLink; try dsimp only
  repeat' split
  all_goals first | with_reducible exact hb | simp (maxDischargeDepth := 9) [hb] | simp +contextual (maxDischargeDepth := 9) [hb]
@[simp] theorem State.linkSample_held (s : State) (p : Production) (rate c n : Nat) (x : Int) : (State.linkSample s p rate c n x).held = s.held := by
  unfold State.linkSample; try dsimp only
  repeat' split
  all_goals first | with_reducible rfl | simp
@[simp] theorem State.linkSample_board (s : State) (p : Production) (rate c n : Nat) (x : Int) (hb : s.boardOk = true) : (State.linkSample s p rate c n x).boardOk = true := by
  unfold State.linkSample; try dsimp only
  repeat' split
  all_goals first | with_reducible exact hb | simp (maxDischargeDepth := 9) [hb] | simp +contextual (maxDischargeDepth := 9) [hb]
@[simp] theorem State.changeRoute_held (s : State) (route : Nat) (g : Option Nat) (m : Option Bool) : (State.changeRoute s route g m).1.held = s.held := by
  unfold State.changeRoute; try dsimp only
  repeat' split
  all_goals first | with_reducible rfl | simp
@[simp] theorem State.changeRoute_board (s : State) (route : Nat) (g : Option Nat) (m : Option Bool) (hb : s.boardOk = true) : (State.changeRoute s route g m).1.boardOk = true := by
  unfold State.changeRoute; try dsimp only
  repeat' split
  all_goals first | with_reducible exact hb | simp (maxDischargeDepth := 9) [hb] | simp +contextual (maxDischargeDepth := 9) [hb]
@[simp] theorem State.setCu_held (s : State) (u : Fin 16) (c : CheckUnit) : (State.setCu s u c).held = s.held := by
  rfl
@[simp] theorem State.setCu_board (s : State) (u : Fin 16) (c : CheckUnit) (hb : s.boardOk = true) : (State.setCu s u c).boardOk = true := by
  exact hb
@[simp] theorem State.cuFault_held (s : State) (u : Fin 16) : (State.cuFault s u).held = s.held := by
  unfold State.cuFault; try dsimp only
  repeat' split
  all_goals first | with_reducible rfl | simp
@[simp] theorem State.cuFault_board (s : State) (u : Fin 16) (hb : s.boardOk = true) : (State.cuFault s u).boardOk = true := by
  unfold State.cuFault; try dsimp only
  repeat' split
  all_goals first | with_reducible exact hb | simp (maxDischargeDepth := 9) [hb] | simp +contextual (maxDischargeDepth := 9) [hb]
@[simp] theorem State.linkUnderTest_held (s : State) (i : Fin 12) : (State.linkUnderTest s i).held = s.held := by
  unfold State.linkUnderTest; try dsimp only
  repeat' split
  all_goals first | with_reducible rfl | simp
@[simp] theorem State.linkUnderTest_board (s : State) (i : Fin 12) (hb : s.boardOk = true) : (State.linkUnderTest s i).boardOk = true := by
  unfold State.linkUnderTest; try dsimp only
  repeat' split
  all_goals first | with_reducible exact hb | simp (maxDischargeDepth := 9) [hb] | simp +contextual (maxDischargeDepth := 9) [hb]
@[simp] theorem State.linkAfterTest_held (s : State) (i : Fin 12) : (State.linkAfterTest s i).held = s.held := by
  unfold State.linkAfterTest; try dsimp only
  repeat' split
  all_goals first | with_reducible rfl | simp
@[simp] theorem State.linkAfterTest_board (s : State) (i : Fin 12) (hb : s.boardOk = true) : (State.linkAfterTest s i).boardOk = true := by
  unfold State.linkAfterTest; try dsimp only
  repeat' split
  all_goals first | with_reducible exact hb | simp (maxDischargeDepth := 9) [hb] | simp +contextual (maxDischargeDepth := 9) [hb]
@[simp] theorem State.tapSelect_held (s : State) (want : TapInstr) : (State.tapSelect s want).held = s.held := by
  unfold State.tapSelect; try dsimp only
  repeat' split
  all_goals first | with_reducible rfl | simp
@[simp] theorem State.tapSelect_board (s : State) (want : TapInstr) (hb : s.boardOk = true) : (State.tapSelect s want).boardOk = true := by
  unfold State.tapSelect; try dsimp only
  repeat' split
  all_goals first | with_reducible exact hb | simp (maxDischargeDepth := 9) [hb] | simp +contextual (maxDischargeDepth := 9) [hb]
@[simp] theorem State.ringDoorbell_held (s : State) (mb : Fin 8) (value : U32) (route : Nat) : (State.ringDoorbell s mb value route).held = s.held := by
  unfold State.ringDoorbell; try dsimp only
  repeat' split
  all_goals first | with_reducible rfl | simp
@[simp] theorem State.ringDoorbell_board (s : State) (mb : Fin 8) (value : U32) (route : Nat) (hb : s.boardOk = true) : (State.ringDoorbell s mb value route).boardOk = true := by
  unfold State.ringDoorbell; try dsimp only
  repeat' split
  all_goals first | with_reducible exact hb | simp (maxDischargeDepth := 9) [hb] | simp +contextual (maxDischargeDepth := 9) [hb]
@[simp] theorem State.consume_held (s : State) (mb : Fin 8) (value : U32) : (State.consume s mb value).held = s.held := by
  unfold State.consume; try dsimp only
  repeat' split
  all_goals first | with_reducible rfl | simp
@[simp] theorem State.consume_board (s : State) (mb : Fin 8) (value : U32) (hb : s.boardOk = true) : (State.consume s mb value).boardOk = true := by
  unfold State.consume; try dsimp only
  repeat' split
  all_goals first | with_reducible exact hb | simp (maxDischargeDepth := 9) [hb] | simp +contextual (maxDischargeDepth := 9) [hb]
@[simp] theorem State.askReset_held (s : State) (mb : Fin 8) : (State.askReset s mb).held = s.held := by
  unfold State.askReset; try dsimp only
  repeat' split
  all_goals first | with_reducible rfl | simp
@[simp] theorem State.askReset_board (s : State) (mb : Fin 8) (hb : s.boardOk = true) : (State.askReset s mb).boardOk = true := by
  unfold State.askReset; try dsimp only
  repeat' split
  all_goals first | with_reducible exact hb | simp (maxDischargeDepth := 9) [hb] | simp +contextual (maxDischargeDepth := 9) [hb]
@[simp] theorem State.writeMbReg_held (s : State) (mb : Fin 8) (r : Nat) (v : U32) (route : Nat) : (State.writeMbReg s mb r v route).held = s.held := by
  unfold State.writeMbReg; try dsimp only
  repeat' split
  all_goals first | with_reducible rfl | simp
@[simp] theorem State.writeMbReg_board (s : State) (mb : Fin 8) (r : Nat) (v : U32) (route : Nat) (hb : s.boardOk = true) : (State.writeMbReg s mb r v route).boardOk = true := by
  unfold State.writeMbReg; try dsimp only
  repeat' split
  all_goals first | with_reducible exact hb | simp (maxDischargeDepth := 9) [hb] | simp +contextual (maxDischargeDepth := 9) [hb]
@[simp] theorem State.writeRd_held (s : State) (v : U32) : (s.writeRd v).held = s.held := rfl
theorem Events.pass_wf (fclk : Nat) (copied : Nat → Bool) (u : Events × Memory) (k : Nat) (h : cwf 0#8 u.2 = true) :
    cwf 0#8 (Events.pass fclk copied u k).2 = true := by
  unfold Events.pass; dsimp only
  split
  · simp [h]
  · exact h
@[simp] theorem State.writeRd_board (s : State) (v : U32) (h : s.boardOk = true) : (s.writeRd v).boardOk = true := by
  have key : ∀ (l : List Nat) (u : Events × Memory), cwf 0#8 u.2 = true →
      cwf 0#8 (l.foldl (Events.pass s.time.fclk (copiesSource s.running)) u).2 = true := by
    intro l
    induction l with
    | nil => intro u hu; exact hu
    | cons k l ih => intro u hu; exact ih _ (Events.pass_wf _ _ _ _ hu)
  unfold State.writeRd; simp only [boardOk_mk]
  split
  · exact h
  · exact key _ _ h
@[simp] theorem State.writeHost_held (s : State) (a : Nat) (v : U32) (route : Nat) : (State.writeHost s a v route).held = s.held := by
  unfold State.writeHost; try dsimp only
  repeat' split
  all_goals first | with_reducible rfl | simp
@[simp] theorem State.writeHost_board (s : State) (a : Nat) (v : U32) (route : Nat) (hb : s.boardOk = true) : (State.writeHost s a v route).boardOk = true := by
  unfold State.writeHost; try dsimp only
  repeat' split
  all_goals first | with_reducible exact hb | simp (maxDischargeDepth := 9) [hb] | simp +contextual (maxDischargeDepth := 9) [hb]
@[simp] theorem State.writeWords_held (route a : Nat) (vs : List U32) (s : State) :
    (State.writeWords route a vs s).held = s.held := by
  induction vs generalizing a s with
  | nil => rfl
  | cons v vs ih => rw [State.writeWords, ih, State.writeHost_held]
@[simp] theorem State.writeWords_board (route a : Nat) (vs : List U32) (s : State) (h : s.boardOk = true) :
    (State.writeWords route a vs s).boardOk = true := by
  induction vs generalizing a s with
  | nil => exact h
  | cons v vs ih => rw [State.writeWords]; exact ih _ _ (State.writeHost_board _ _ _ _ h)
@[simp] theorem State.readQuad_held (e : Fin 16) (s : State) (j : Job) (d : UnitDesc) : (State.readQuad e s j d).held = s.held := by
  unfold State.readQuad; try dsimp only
  repeat' split
  all_goals first | with_reducible rfl | simp
@[simp] theorem State.readQuad_board (e : Fin 16) (s : State) (j : Job) (d : UnitDesc) (hb : s.boardOk = true) : (State.readQuad e s j d).boardOk = true := by
  unfold State.readQuad; try dsimp only
  repeat' split
  all_goals first | with_reducible exact hb | simp (maxDischargeDepth := 9) [hb] | simp +contextual (maxDischargeDepth := 9) [hb]
@[simp] theorem State.floorMode_held (s : State) (e : Fin 16) (j : Job) : (State.floorMode s e j).held = s.held := by
  unfold State.floorMode; try dsimp only
  repeat' split
  all_goals first | with_reducible rfl | simp
@[simp] theorem State.floorMode_board (s : State) (e : Fin 16) (j : Job) (hb : s.boardOk = true) : (State.floorMode s e j).boardOk = true := by
  unfold State.floorMode; try dsimp only
  repeat' split
  all_goals first | with_reducible exact hb | simp (maxDischargeDepth := 9) [hb] | simp +contextual (maxDischargeDepth := 9) [hb]
@[simp] theorem State.floorIn_held (s : State) (e : Fin 16) (j : Job) : (State.floorIn s e j).held = s.held := by
  unfold State.floorIn; try dsimp only
  repeat' split
  all_goals first | with_reducible rfl | simp
@[simp] theorem State.floorIn_board (s : State) (e : Fin 16) (j : Job) (hb : s.boardOk = true) : (State.floorIn s e j).boardOk = true := by
  unfold State.floorIn; try dsimp only
  repeat' split
  all_goals first | with_reducible exact hb | simp (maxDischargeDepth := 9) [hb] | simp +contextual (maxDischargeDepth := 9) [hb]
@[simp] theorem State.floorTq_held (s : State) (e : Fin 16) (j : Job) : (State.floorTq s e j).held = s.held := by
  unfold State.floorTq; try dsimp only
  repeat' split
  all_goals first | with_reducible rfl | simp
@[simp] theorem State.floorTq_board (s : State) (e : Fin 16) (j : Job) (hb : s.boardOk = true) : (State.floorTq s e j).boardOk = true := by
  unfold State.floorTq; try dsimp only
  repeat' split
  all_goals first | with_reducible exact hb | simp (maxDischargeDepth := 9) [hb] | simp +contextual (maxDischargeDepth := 9) [hb]
@[simp] theorem State.floorRecon_held (s : State) (e : Fin 16) (j : Job) : (State.floorRecon s e j).held = s.held := by
  unfold State.floorRecon; try dsimp only
  repeat' split
  all_goals first | with_reducible rfl | simp
@[simp] theorem State.floorRecon_board (s : State) (e : Fin 16) (j : Job) (hb : s.boardOk = true) : (State.floorRecon s e j).boardOk = true := by
  unfold State.floorRecon; try dsimp only
  repeat' split
  all_goals first | with_reducible exact hb | simp (maxDischargeDepth := 9) [hb] | simp +contextual (maxDischargeDepth := 9) [hb]
@[simp] theorem State.filterQuad_held (s : State) (e : Fin 16) (j : Job) (d : UnitDesc) (stage : Nat) (sets : List Int) : (State.filterQuad s e j d stage sets).held = s.held := by
  unfold State.filterQuad; try dsimp only
  repeat' split
  all_goals first | with_reducible rfl | simp
@[simp] theorem State.filterQuad_board (s : State) (e : Fin 16) (j : Job) (d : UnitDesc) (stage : Nat) (sets : List Int) (hb : s.boardOk = true) : (State.filterQuad s e j d stage sets).boardOk = true := by
  unfold State.filterQuad; try dsimp only
  repeat' split
  all_goals first | with_reducible exact hb | simp (maxDischargeDepth := 9) [hb] | simp +contextual (maxDischargeDepth := 9) [hb]
@[simp] theorem State.latchFilter_held (s : State) (e : Fin 16) (j : Job) : (State.latchFilter s e j).held = s.held := by
  unfold State.latchFilter; try dsimp only
  repeat' split
  all_goals first | with_reducible rfl | simp
@[simp] theorem State.latchFilter_board (s : State) (e : Fin 16) (j : Job) (hb : s.boardOk = true) : (State.latchFilter s e j).boardOk = true := by
  unfold State.latchFilter; try dsimp only
  repeat' split
  all_goals first | with_reducible exact hb | simp (maxDischargeDepth := 9) [hb] | simp +contextual (maxDischargeDepth := 9) [hb]
@[simp] theorem State.alfNote_held (s : State) (e : Fin 16) (d : UnitDesc) : (State.alfNote s e d).held = s.held := by
  unfold State.alfNote; try dsimp only
  repeat' split
  all_goals first | with_reducible rfl | simp
@[simp] theorem State.alfNote_board (s : State) (e : Fin 16) (d : UnitDesc) (hb : s.boardOk = true) : (State.alfNote s e d).boardOk = true := by
  unfold State.alfNote; try dsimp only
  repeat' split
  all_goals first | with_reducible exact hb | simp (maxDischargeDepth := 9) [hb] | simp +contextual (maxDischargeDepth := 9) [hb]
theorem ite_board (c : Prop) [Decidable c] (a b : State) (ha : a.boardOk = true) (hb : b.boardOk = true) :
    (if c then a else b).boardOk = true := by split <;> assumption
@[simp] theorem State.remake_held (s : State) (e : Fin 16) (j : Job) (c : CtuWork) (coded : Bool) : (State.remake s e j c coded).held = s.held := by
  unfold State.remake; try dsimp only
  refine (foldl_held _ (fun t x => State.stageQuad_held t e j x) _ _).trans ?_
  repeat' split
  all_goals simp
@[simp] theorem State.remake_board (s : State) (e : Fin 16) (j : Job) (c : CtuWork) (coded : Bool) (hb : s.boardOk = true) : (State.remake s e j c coded).boardOk = true := by
  have h1 := State.floorMode_board s e j hb
  have h2 := ite_board (c.tq = []) _ _ h1 (State.floorTq_board _ e j h1)
  have h3 := ite_board (c.recon = []) _ _ h2 (State.floorRecon_board _ e j h2)
  have h4 := foldl_board (fun (t : State) (y : Nat × UnitDesc) => t.filterQuad e j y.2 1 [])
    (fun t x ht => State.filterQuad_board t e j x.2 1 [] ht) c.dbk _ h3
  have h5 := ite_board (coded = true) _ _ (State.floorBin_board _ e j h4) h4
  exact foldl_board _ (fun t x ht => State.stageQuad_board t e j x ht) _ _ h5
@[simp] theorem State.refloor_held (s : State) (e : Fin 16) (j : Job) : (State.refloor s e j).held = s.held := by
  unfold State.refloor; try dsimp only
  repeat' split
  all_goals first | with_reducible rfl | simp
@[simp] theorem State.refloor_board (s : State) (e : Fin 16) (j : Job) (hb : s.boardOk = true) : (State.refloor s e j).boardOk = true := by
  unfold State.refloor; try dsimp only
  repeat' split
  all_goals first | with_reducible exact hb | simp (maxDischargeDepth := 9) [hb] | simp +contextual (maxDischargeDepth := 9) [hb]
@[simp] theorem State.issue_held (s : State) (e : Fin 16) (u op desc : Nat) : (State.issue s e u op desc).1.held = s.held := by
  unfold State.issue; try dsimp only
  repeat' split
  all_goals first
    | with_reducible rfl
    | (have h := congrArg (fun x => State.held x.1) ‹State.reachWord s e _ _ _ = _›
       dsimp only at h; rw [State.reachWord_held] at h; simp [h.symm])
    | simp
@[simp] theorem State.issue_board (s : State) (e : Fin 16) (u op desc : Nat) (hb : s.boardOk = true) : (State.issue s e u op desc).1.boardOk = true := by
  unfold State.issue; try dsimp only
  repeat' split
  all_goals first
    | with_reducible exact hb
    | (have h := congrArg (fun x => State.boardOk x.1) ‹State.reachWord s e _ _ _ = _›
       dsimp only at h; rw [State.reachWord_board _ _ _ _ _ hb] at h; simp (maxDischargeDepth := 9) [h.symm])
    | simp (maxDischargeDepth := 9) [hb] | simp +contextual (maxDischargeDepth := 9) [hb]
@[simp] theorem State.unit_held (s : State) (e : Fin 16) (u op desc : Nat) (f : State → Job → UnitDesc → State)
    (hf : ∀ t j d, (f t j d).held = t.held) : (s.unit e u op desc f).held = s.held := by
  have hi := s.issue_held e u op desc
  unfold State.unit
  split <;> next h => rw [h] at hi; simpa [hf] using hi
@[simp] theorem State.unit_board (s : State) (e : Fin 16) (u op desc : Nat) (f : State → Job → UnitDesc → State)
    (hf : ∀ t j d, t.boardOk = true → (f t j d).boardOk = true) (hb : s.boardOk = true) :
    (s.unit e u op desc f).boardOk = true := by
  have hi := s.issue_board e u op desc hb
  unfold State.unit
  split <;> next h => rw [h] at hi; first | exact hf _ _ _ hi | exact hi
@[simp] theorem State.issueDma_held (s : State) (e : Fin 16) (u desc : Nat) : (State.issueDma s e u desc).1.held = s.held := by
  unfold State.issueDma; try dsimp only
  repeat' split
  all_goals first
    | with_reducible rfl
    | (have h := congrArg (fun x => State.held x.1) ‹State.reachWord s e _ _ _ = _›
       dsimp only at h; rw [State.reachWord_held] at h; simp [h.symm])
    | simp
@[simp] theorem State.issueDma_board (s : State) (e : Fin 16) (u desc : Nat) (hb : s.boardOk = true) : (State.issueDma s e u desc).1.boardOk = true := by
  unfold State.issueDma; try dsimp only
  repeat' split
  all_goals first
    | with_reducible exact hb
    | (have h := congrArg (fun x => State.boardOk x.1) ‹State.reachWord s e _ _ _ = _›
       dsimp only at h; rw [State.reachWord_board _ _ _ _ _ hb] at h; simp (maxDischargeDepth := 9) [h.symm])
    | simp (maxDischargeDepth := 9) [hb] | simp +contextual (maxDischargeDepth := 9) [hb]
@[simp] theorem State.hardCtu_held (s : State) (e : Fin 16) (j : Job) : (State.hardCtu s e j).held = s.held := by
  unfold State.hardCtu; try dsimp only
  simp
@[simp] theorem State.hardCtu_board (s : State) (e : Fin 16) (j : Job) (hb : s.boardOk = true) : (State.hardCtu s e j).boardOk = true := by
  unfold State.hardCtu; try dsimp only
  simp (maxDischargeDepth := 15) [hb]
@[simp] theorem State.hardRow_held (s : State) (e : Fin 16) (j : Job) : (State.hardRow s e j).held = s.held := by
  unfold State.hardRow; try dsimp only
  repeat' split
  all_goals first | with_reducible rfl | simp
@[simp] theorem State.hardRow_board (s : State) (e : Fin 16) (j : Job) (hb : s.boardOk = true) : (State.hardRow s e j).boardOk = true := by
  unfold State.hardRow; try dsimp only
  repeat' split
  all_goals first | with_reducible exact hb | simp (maxDischargeDepth := 9) [hb] | simp +contextual (maxDischargeDepth := 9) [hb]
@[simp] theorem State.hardSlot_held (s : State) (e : Fin 16) (j : Job) : (State.hardSlot s e j).held = s.held := by
  unfold State.hardSlot; try dsimp only
  repeat' split
  all_goals first | with_reducible rfl | simp
@[simp] theorem State.hardSlot_board (s : State) (e : Fin 16) (j : Job) (hb : s.boardOk = true) : (State.hardSlot s e j).boardOk = true := by
  unfold State.hardSlot; try dsimp only
  repeat' split
  all_goals first | with_reducible exact hb | simp (maxDischargeDepth := 9) [hb] | simp +contextual (maxDischargeDepth := 9) [hb]
@[simp] theorem State.applyRate_held (s : State) (p : Production) (c : Ctx) (n : Nat) : (State.applyRate s p c n).held = s.held := by
  unfold State.applyRate; try dsimp only
  split
  · rfl
  · split
    · rfl
    · rw [State.raise_held]
      split
      · simp
      · refine (foldl_held _ (fun t x => ?_) _ _).trans ?_
        · (try dsimp only); (repeat' split) <;> first | rfl | simp
        · simp
@[simp] theorem State.applyRate_board (s : State) (p : Production) (c : Ctx) (n : Nat) (hb : s.boardOk = true) : (State.applyRate s p c n).boardOk = true := by
  unfold State.applyRate; try dsimp only
  split
  · exact hb
  · split
    · exact hb
    · apply State.raise_boardOk
      split
      · simp [hb]
      · refine foldl_board _ (fun t x ht => ?_) _ _ ?_
        · (try dsimp only); (repeat' split) <;> first | exact ht | simp (maxDischargeDepth := 9) [ht]
        · simp [hb]
@[simp] theorem State.sendRecord_held (s : State) (p : Production) (c : Ctx) : (State.sendRecord s p c).held = s.held := by
  unfold State.sendRecord; try dsimp only
  split
  · rfl
  · split
    · rfl
    · split
      · simp
      · refine (foldl_held _ (fun t x => ?_) _ _).trans ?_
        · (try dsimp only); (repeat' split) <;> first | rfl | simp
        · simp
@[simp] theorem State.sendRecord_board (s : State) (p : Production) (c : Ctx) (hb : s.boardOk = true) : (State.sendRecord s p c).boardOk = true := by
  unfold State.sendRecord; try dsimp only
  split
  · exact hb
  · split
    · exact hb
    · split
      · simp [hb]
      · refine foldl_board _ (fun t x ht => ?_) _ _ ?_
        · (try dsimp only); (repeat' split) <;> first | exact ht | simp (maxDischargeDepth := 9) [ht]
        · simp [hb]
@[simp] theorem State.contextMark_held (s : State) (p : Production) (c : Ctx) (n : Nat) : (State.contextMark s p c n).held = s.held := by
  unfold State.contextMark; try dsimp only
  repeat' split
  all_goals first | with_reducible rfl | simp
@[simp] theorem State.contextMark_board (s : State) (p : Production) (c : Ctx) (n : Nat) (hb : s.boardOk = true) : (State.contextMark s p c n).boardOk = true := by
  unfold State.contextMark; try dsimp only
  repeat' split
  all_goals first | with_reducible exact hb | simp (maxDischargeDepth := 9) [hb] | simp +contextual (maxDischargeDepth := 9) [hb]
@[simp] theorem State.rejectLine_held (s : State) (link : Fin 12) (m : LineMsg) (q : Option Source) (cause : Nat) : (State.rejectLine s link m q cause).held = s.held := by
  unfold State.rejectLine; try dsimp only
  repeat' split
  all_goals first | with_reducible rfl | simp
@[simp] theorem State.rejectLine_board (s : State) (link : Fin 12) (m : LineMsg) (q : Option Source) (cause : Nat) (hb : s.boardOk = true) : (State.rejectLine s link m q cause).boardOk = true := by
  unfold State.rejectLine; try dsimp only
  repeat' split
  all_goals first | with_reducible exact hb | simp (maxDischargeDepth := 9) [hb] | simp +contextual (maxDischargeDepth := 9) [hb]
@[simp] theorem State.takeLine_held (s : State) (p : Production) (q : Source) (n : Nat) (m : LineMsg) : (State.takeLine s p q n m).held = s.held := by
  unfold State.takeLine; try dsimp only
  repeat' split
  all_goals simp
@[simp] theorem State.takeLine_board (s : State) (p : Production) (q : Source) (n : Nat) (m : LineMsg) (hb : s.boardOk = true) : (State.takeLine s p q n m).boardOk = true := by
  unfold State.takeLine; try dsimp only
  have h1 : ∀ (cs : List Ctx) (room : Bool), (cs.foldl (fun (t : State) c => t.ctxLine p c n m room) s).boardOk = true := fun cs room =>
    foldl_board _ (fun t c ht => by simp (maxDischargeDepth := 9) [ht]) _ _ hb
  repeat' split
  all_goals simp (maxDischargeDepth := 9) [h1]
@[simp] theorem State.acceptRate_held (s : State) (c : Ctx) (h : RateChange) : (State.acceptRate s c h).1.held = s.held := by
  unfold State.acceptRate; try dsimp only
  repeat' split
  all_goals first | with_reducible rfl | simp
@[simp] theorem State.acceptRate_board (s : State) (c : Ctx) (h : RateChange) (hb : s.boardOk = true) : (State.acceptRate s c h).1.boardOk = true := by
  unfold State.acceptRate; try dsimp only
  repeat' split
  all_goals first | with_reducible exact hb | simp (maxDischargeDepth := 9) [hb] | simp +contextual (maxDischargeDepth := 9) [hb]
@[simp] theorem State.changeLayer_held (s : State) (c : Ctx) (h : LayerChange) : (State.changeLayer s c h).1.held = s.held := by
  unfold State.changeLayer; try dsimp only
  repeat' split
  all_goals first | with_reducible rfl | simp
@[simp] theorem State.changeLayer_board (s : State) (c : Ctx) (h : LayerChange) (hb : s.boardOk = true) : (State.changeLayer s c h).1.boardOk = true := by
  unfold State.changeLayer; try dsimp only
  repeat' split
  all_goals first | with_reducible exact hb | simp (maxDischargeDepth := 9) [hb] | simp +contextual (maxDischargeDepth := 9) [hb]
@[simp] theorem State.sendPreview_held (s : State) (c : Ctx) (set : LayerSet) (link : Fin 12) (n line : Nat) : (State.sendPreview s c set link n line).held = s.held := by
  unfold State.sendPreview; try dsimp only
  repeat' split
  all_goals first | with_reducible rfl | simp
@[simp] theorem State.sendPreview_board (s : State) (c : Ctx) (set : LayerSet) (link : Fin 12) (n line : Nat) (hb : s.boardOk = true) : (State.sendPreview s c set link n line).boardOk = true := by
  unfold State.sendPreview; try dsimp only
  split
  · exact foldl_board _ (fun t x ht => by simp [ht]) _ _ hb
  · simp [hb]
@[simp] theorem State.greenTo_held (s : State) (g : GreenRoom) : (State.greenTo s g).held = s.held := by
  unfold State.greenTo; try dsimp only
  repeat' split
  all_goals first | with_reducible rfl | simp
@[simp] theorem State.greenTo_board (s : State) (g : GreenRoom) (hb : s.boardOk = true) : (State.greenTo s g).boardOk = true := by
  unfold State.greenTo; try dsimp only
  repeat' split
  all_goals first | with_reducible exact hb | simp (maxDischargeDepth := 9) [hb] | simp +contextual (maxDischargeDepth := 9) [hb]
@[simp] theorem State.cueDdr_held (s : State) (p : Production) : (State.cueDdr s p).held = s.held := by
  unfold State.cueDdr; try dsimp only
  repeat' split
  all_goals first | with_reducible rfl | simp
@[simp] theorem State.cueDdr_board (s : State) (p : Production) (hb : s.boardOk = true) : (State.cueDdr s p).boardOk = true := by
  unfold State.cueDdr; try dsimp only
  repeat' split
  all_goals first | with_reducible exact hb | simp (maxDischargeDepth := 9) [hb] | simp +contextual (maxDischargeDepth := 9) [hb]
@[simp] theorem State.setCue_held (s : State) (p : Production) (point : Nat) (deferred : Bool) : (State.setCue s p point deferred).held = s.held := by
  unfold State.setCue; try dsimp only
  repeat' split
  all_goals first | with_reducible rfl | simp
@[simp] theorem State.setCue_board (s : State) (p : Production) (point : Nat) (deferred : Bool) (hb : s.boardOk = true) : (State.setCue s p point deferred).boardOk = true := by
  unfold State.setCue; try dsimp only
  repeat' split
  all_goals first | with_reducible exact hb | simp (maxDischargeDepth := 9) [hb] | simp +contextual (maxDischargeDepth := 9) [hb]
@[simp] theorem State.cancelCue_held (s : State) (reason : Nat) : (State.cancelCue s reason).held = s.held := by
  unfold State.cancelCue; try dsimp only
  repeat' split
  all_goals first | with_reducible rfl | simp
@[simp] theorem State.cancelCue_board (s : State) (reason : Nat) (hb : s.boardOk = true) : (State.cancelCue s reason).boardOk = true := by
  unfold State.cancelCue; try dsimp only
  repeat' split
  all_goals first | with_reducible exact hb | simp (maxDischargeDepth := 9) [hb] | simp +contextual (maxDischargeDepth := 9) [hb]
@[simp] theorem State.admitted_held (s : State) : (State.admitted s).held = s.held := by
  unfold State.admitted; try dsimp only
  repeat' split
  all_goals first | with_reducible rfl | simp
@[simp] theorem State.admitted_board (s : State) (hb : s.boardOk = true) : (State.admitted s).boardOk = true := by
  unfold State.admitted; try dsimp only
  repeat' split
  all_goals first | with_reducible exact hb | simp (maxDischargeDepth := 9) [hb] | simp +contextual (maxDischargeDepth := 9) [hb]
@[simp] theorem State.sigRefused_held (s : State) (opcode object status : Nat) : (State.sigRefused s opcode object status).held = s.held := by
  unfold State.sigRefused; try dsimp only
  repeat' split
  all_goals first | with_reducible rfl | simp
@[simp] theorem State.sigRefused_board (s : State) (opcode object status : Nat) (hb : s.boardOk = true) : (State.sigRefused s opcode object status).boardOk = true := by
  unfold State.sigRefused; try dsimp only
  repeat' split
  all_goals first | with_reducible exact hb | simp (maxDischargeDepth := 9) [hb] | simp +contextual (maxDischargeDepth := 9) [hb]
@[simp] theorem State.noteRefusal_held (s : State) (o : Nat) (d : Detail) : (State.noteRefusal s o d).held = s.held := by
  unfold State.noteRefusal; try dsimp only
  repeat' split
  all_goals first | with_reducible rfl | simp
@[simp] theorem State.noteRefusal_board (s : State) (o : Nat) (d : Detail) (hb : s.boardOk = true) : (State.noteRefusal s o d).boardOk = true := by
  unfold State.noteRefusal; try dsimp only
  repeat' split
  all_goals first | with_reducible exact hb | simp (maxDischargeDepth := 9) [hb] | simp +contextual (maxDischargeDepth := 9) [hb]
@[simp] theorem State.runPending_held (s : State) : (State.runPending s).held = s.held := by
  unfold State.runPending; try dsimp only
  repeat' split
  all_goals first | with_reducible rfl | simp
@[simp] theorem State.runPending_board (s : State) (hb : s.boardOk = true) : (State.runPending s).boardOk = true := by
  unfold State.runPending; try dsimp only
  repeat' split
  all_goals first | with_reducible exact hb | simp (maxDischargeDepth := 9) [hb] | simp +contextual (maxDischargeDepth := 9) [hb]
@[simp] theorem State.writeHalves_held (s : State) (img : List Byte) : (State.writeHalves s img).held = s.held := by
  unfold State.writeHalves; try dsimp only
  repeat' split
  all_goals first | with_reducible rfl | simp
@[simp] theorem State.writeHalves_board (s : State) (img : List Byte) (hb : s.boardOk = true) : (State.writeHalves s img).boardOk = true := by
  unfold State.writeHalves; try dsimp only
  repeat' split
  all_goals first | with_reducible exact hb | simp (maxDischargeDepth := 9) [hb] | simp +contextual (maxDischargeDepth := 9) [hb]
@[simp] theorem State.loadChunk_held (s : State) (offset : Nat) (chunk : List Byte) : (State.loadChunk s offset chunk).1.held = s.held := by
  unfold State.loadChunk; try dsimp only
  repeat' split
  all_goals first | with_reducible rfl | simp
@[simp] theorem State.loadChunk_board (s : State) (offset : Nat) (chunk : List Byte) (hb : s.boardOk = true) : (State.loadChunk s offset chunk).1.boardOk = true := by
  unfold State.loadChunk; try dsimp only
  repeat' split
  all_goals first | with_reducible exact hb | simp (maxDischargeDepth := 9) [hb] | simp +contextual (maxDischargeDepth := 9) [hb]
@[simp] theorem State.setQueue_held (s : State) (q : Nat) (x : Queue) : (State.setQueue s q x).held = s.held := by
  rfl
@[simp] theorem State.setQueue_board (s : State) (q : Nat) (x : Queue) (hb : s.boardOk = true) : (State.setQueue s q x).boardOk = true := by
  exact hb
@[simp] theorem State.setStrm_held (s : State) (q : Nat) (x : StreamSt) : (State.setStrm s q x).held = s.held := by
  rfl
@[simp] theorem State.setStrm_board (s : State) (q : Nat) (x : StreamSt) (hb : s.boardOk = true) : (State.setStrm s q x).boardOk = true := by
  exact hb
@[simp] theorem State.promote_held (s : State) (q : Nat) : (State.promote s q).held = s.held := by
  unfold State.promote; try dsimp only
  repeat' split
  all_goals first | with_reducible rfl | simp
@[simp] theorem State.promote_board (s : State) (q : Nat) (hb : s.boardOk = true) : (State.promote s q).boardOk = true := by
  unfold State.promote; try dsimp only
  repeat' split
  all_goals first | with_reducible exact hb | simp (maxDischargeDepth := 9) [hb] | simp +contextual (maxDischargeDepth := 9) [hb]
@[simp] theorem State.noteRow_held (s : State) (q key : Nat) (i : Item) : (State.noteRow s q key i).held = s.held := by
  unfold State.noteRow; try dsimp only
  repeat' split
  all_goals first | with_reducible rfl | simp
@[simp] theorem State.noteRow_board (s : State) (q key : Nat) (i : Item) (hb : s.boardOk = true) : (State.noteRow s q key i).boardOk = true := by
  unfold State.noteRow; try dsimp only
  repeat' split
  all_goals first | with_reducible exact hb | simp (maxDischargeDepth := 9) [hb] | simp +contextual (maxDischargeDepth := 9) [hb]
@[simp] theorem State.putItem_held (s : State) (q ago : Nat) (rowAt : Option Nat) (i : Item) : (State.putItem s q ago rowAt i).held = s.held := by
  unfold State.putItem; try dsimp only
  repeat' split
  all_goals first | with_reducible rfl | simp
@[simp] theorem State.putItem_board (s : State) (q ago : Nat) (rowAt : Option Nat) (i : Item) (hb : s.boardOk = true) : (State.putItem s q ago rowAt i).boardOk = true := by
  unfold State.putItem; try dsimp only
  repeat' split
  all_goals first | with_reducible exact hb | simp (maxDischargeDepth := 9) [hb] | simp +contextual (maxDischargeDepth := 9) [hb]
@[simp] theorem State.addGap_held (s : State) (q ago count bytes rtpSeq cause stamp : Nat) (rowAt : Option Nat) : (State.addGap s q ago count bytes rtpSeq cause stamp rowAt).held = s.held := by
  unfold State.addGap; try dsimp only
  repeat' split
  all_goals first | with_reducible rfl | simp
@[simp] theorem State.addGap_board (s : State) (q ago count bytes rtpSeq cause stamp : Nat) (rowAt : Option Nat) (hb : s.boardOk = true) : (State.addGap s q ago count bytes rtpSeq cause stamp rowAt).boardOk = true := by
  unfold State.addGap; try dsimp only
  repeat' split
  all_goals first | with_reducible exact hb | simp (maxDischargeDepth := 9) [hb] | simp +contextual (maxDischargeDepth := 9) [hb]
@[simp] theorem State.commitGap_held (s : State) (q : Nat) : (State.commitGap s q).held = s.held := by
  unfold State.commitGap; try dsimp only
  repeat' split
  all_goals first | with_reducible rfl | simp
@[simp] theorem State.commitGap_board (s : State) (q : Nat) (hb : s.boardOk = true) : (State.commitGap s q).boardOk = true := by
  unfold State.commitGap; try dsimp only
  repeat' split
  all_goals first | with_reducible exact hb | simp (maxDischargeDepth := 9) [hb] | simp +contextual (maxDischargeDepth := 9) [hb]
@[simp] theorem State.commitPacket_held (s : State) (q ago : Nat) (rowAt : Option Nat) (rtpSeq : Nat) (i : Item) : (State.commitPacket s q ago rowAt rtpSeq i).held = s.held := by
  unfold State.commitPacket; try dsimp only
  repeat' split
  all_goals first | with_reducible rfl | simp
@[simp] theorem State.commitPacket_board (s : State) (q ago : Nat) (rowAt : Option Nat) (rtpSeq : Nat) (i : Item) (hb : s.boardOk = true) : (State.commitPacket s q ago rowAt rtpSeq i).boardOk = true := by
  unfold State.commitPacket; try dsimp only
  repeat' split
  all_goals first | with_reducible exact hb | simp (maxDischargeDepth := 9) [hb] | simp +contextual (maxDischargeDepth := 9) [hb]
@[simp] theorem State.dispatchTo_held (s : State) (t : Task) (l : Fin 16) : (State.dispatchTo s t l).held = s.held := by
  unfold State.dispatchTo; try dsimp only
  repeat' split
  all_goals first | with_reducible rfl | simp
@[simp] theorem State.dispatchTo_board (s : State) (t : Task) (l : Fin 16) (hb : s.boardOk = true) : (State.dispatchTo s t l).boardOk = true := by
  unfold State.dispatchTo; try dsimp only
  repeat' split
  all_goals first | with_reducible exact hb | simp (maxDischargeDepth := 9) [hb] | simp +contextual (maxDischargeDepth := 9) [hb]
@[simp] theorem State.setTask_held (s : State) (t : Task) : (State.setTask s t).held = s.held := by
  rfl
@[simp] theorem State.setTask_board (s : State) (t : Task) (hb : s.boardOk = true) : (State.setTask s t).boardOk = true := by
  exact hb
@[simp] theorem State.setLadle_held (s : State) (l : Fin 16) (x : Ladle) : (State.setLadle s l x).held = s.held := by
  rfl
@[simp] theorem State.setLadle_board (s : State) (l : Fin 16) (x : Ladle) (hb : s.boardOk = true) : (State.setLadle s l x).boardOk = true := by
  exact hb
@[simp] theorem State.completeTask_held (s : State) (l : Fin 16) (t : Task) : (State.completeTask s l t).held = s.held := by
  unfold State.completeTask; try dsimp only
  repeat' split
  all_goals first | with_reducible rfl | simp
@[simp] theorem State.completeTask_board (s : State) (l : Fin 16) (t : Task) (hb : s.boardOk = true) : (State.completeTask s l t).boardOk = true := by
  unfold State.completeTask; try dsimp only
  repeat' split
  all_goals first | with_reducible exact hb | simp (maxDischargeDepth := 9) [hb] | simp +contextual (maxDischargeDepth := 9) [hb]
@[simp] theorem State.confirmTo_held (s : State) (q : Nat) (seq : U32) : (State.confirmTo s q seq).held = s.held := by
  unfold State.confirmTo; try dsimp only
  repeat' split
  all_goals first | with_reducible rfl | simp
@[simp] theorem State.confirmTo_board (s : State) (q : Nat) (seq : U32) (hb : s.boardOk = true) : (State.confirmTo s q seq).boardOk = true := by
  unfold State.confirmTo; try dsimp only
  repeat' split
  all_goals first | with_reducible exact hb | simp (maxDischargeDepth := 9) [hb] | simp +contextual (maxDischargeDepth := 9) [hb]
@[simp] theorem State.compareRow_held (s : State) (c : Ctx) (frame : Nat) (r : RowRec) : (State.compareRow s c frame r).held = s.held := by
  unfold State.compareRow; try dsimp only
  repeat' split
  all_goals first | with_reducible rfl | simp
@[simp] theorem State.compareRow_board (s : State) (c : Ctx) (frame : Nat) (r : RowRec) (hb : s.boardOk = true) : (State.compareRow s c frame r).boardOk = true := by
  unfold State.compareRow; try dsimp only
  repeat' split
  all_goals first | with_reducible exact hb | simp (maxDischargeDepth := 9) [hb] | simp +contextual (maxDischargeDepth := 9) [hb]
@[simp] theorem State.closeRowItems_held (s : State) (q frame row : Nat) : (State.closeRowItems s q frame row).held = s.held := by
  unfold State.closeRowItems; try dsimp only
  repeat' split
  all_goals first | with_reducible rfl | simp
@[simp] theorem State.closeRowItems_board (s : State) (q frame row : Nat) (hb : s.boardOk = true) : (State.closeRowItems s q frame row).boardOk = true := by
  unfold State.closeRowItems; try dsimp only
  repeat' split
  all_goals first | with_reducible exact hb | simp (maxDischargeDepth := 9) [hb] | simp +contextual (maxDischargeDepth := 9) [hb]
@[simp] theorem State.noteFloor_held (s : State) (k : Slice) : (State.noteFloor s k).held = s.held := by
  unfold State.noteFloor; try dsimp only
  repeat' split
  all_goals first | with_reducible rfl | simp
@[simp] theorem State.noteFloor_board (s : State) (k : Slice) (hb : s.boardOk = true) : (State.noteFloor s k).boardOk = true := by
  unfold State.noteFloor; try dsimp only
  repeat' split
  all_goals first | with_reducible exact hb | simp (maxDischargeDepth := 9) [hb] | simp +contextual (maxDischargeDepth := 9) [hb]
@[simp] theorem State.endTask_held (s : State) (l : Fin 16) (t : Task) : (State.endTask s l t).held = s.held := by
  unfold State.endTask; try dsimp only
  repeat' split
  all_goals first | with_reducible rfl | simp
@[simp] theorem State.endTask_board (s : State) (l : Fin 16) (t : Task) (hb : s.boardOk = true) : (State.endTask s l t).boardOk = true := by
  unfold State.endTask; try dsimp only
  repeat' split
  all_goals first | with_reducible exact hb | simp (maxDischargeDepth := 9) [hb] | simp +contextual (maxDischargeDepth := 9) [hb]
@[simp] theorem State.abortPacket_held (s : State) (l : Fin 16) (t : Task) (content : List Byte) (rest : List (List Byte)) : (State.abortPacket s l t content rest).held = s.held := by
  unfold State.abortPacket; try dsimp only
  repeat' split
  all_goals first | with_reducible rfl | simp
@[simp] theorem State.abortPacket_board (s : State) (l : Fin 16) (t : Task) (content : List Byte) (rest : List (List Byte)) (hb : s.boardOk = true) : (State.abortPacket s l t content rest).boardOk = true := by
  unfold State.abortPacket; try dsimp only
  repeat' split
  all_goals first | with_reducible exact hb | simp (maxDischargeDepth := 9) [hb] | simp +contextual (maxDischargeDepth := 9) [hb]
@[simp] theorem State.giveUp_held (s : State) (l : Fin 16) (t : Task) : (State.giveUp s l t).held = s.held := by
  unfold State.giveUp; try dsimp only
  repeat' split
  all_goals first | with_reducible rfl | simp
@[simp] theorem State.giveUp_board (s : State) (l : Fin 16) (t : Task) (hb : s.boardOk = true) : (State.giveUp s l t).boardOk = true := by
  unfold State.giveUp; try dsimp only
  repeat' split
  all_goals first | with_reducible exact hb | simp (maxDischargeDepth := 9) [hb] | simp +contextual (maxDischargeDepth := 9) [hb]
@[simp] theorem State.buildPacket_held (s : State) (l : Fin 16) (t : Task) (content : List Byte) (rest : List (List Byte)) : (State.buildPacket s l t content rest).held = s.held := by
  unfold State.buildPacket; try dsimp only
  repeat' split
  all_goals first | with_reducible rfl | simp
@[simp] theorem State.buildPacket_board (s : State) (l : Fin 16) (t : Task) (content : List Byte) (rest : List (List Byte)) (hb : s.boardOk = true) : (State.buildPacket s l t content rest).boardOk = true := by
  unfold State.buildPacket; try dsimp only
  repeat' split
  all_goals first | with_reducible exact hb | simp (maxDischargeDepth := 9) [hb] | simp +contextual (maxDischargeDepth := 9) [hb]
@[simp] theorem State.moveTail_held (s : State) (q : Nat) : (State.moveTail s q).held = s.held := by
  unfold State.moveTail; try dsimp only
  repeat' split
  all_goals first | with_reducible rfl | simp
@[simp] theorem State.moveTail_board (s : State) (q : Nat) (hb : s.boardOk = true) : (State.moveTail s q).boardOk = true := by
  unfold State.moveTail; try dsimp only
  repeat' split
  all_goals first | with_reducible exact hb | simp (maxDischargeDepth := 9) [hb] | simp +contextual (maxDischargeDepth := 9) [hb]
@[simp] theorem State.issueRefill_held (s : State) (q : Nat) : (State.issueRefill s q).held = s.held := by
  unfold State.issueRefill; try dsimp only
  repeat' split
  all_goals first | with_reducible rfl | simp
@[simp] theorem State.issueRefill_board (s : State) (q : Nat) (hb : s.boardOk = true) : (State.issueRefill s q).boardOk = true := by
  unfold State.issueRefill; try dsimp only
  repeat' split
  all_goals first | with_reducible exact hb | simp (maxDischargeDepth := 9) [hb] | simp +contextual (maxDischargeDepth := 9) [hb]
@[simp] theorem State.backlogs_held (s : State) : (State.backlogs s).held = s.held := by
  unfold State.backlogs; try dsimp only
  refine (foldl_held _ (fun t x => ?_) _ _).trans ?_
  · (try dsimp only); (repeat' split) <;> first | rfl | simp
  · rfl
@[simp] theorem State.backlogs_board (s : State) (hb : s.boardOk = true) : (State.backlogs s).boardOk = true := by
  unfold State.backlogs; try dsimp only
  refine foldl_board _ (fun t x ht => ?_) _ _ ?_
  · (try dsimp only); (repeat' split) <;> first | exact ht | simp (maxDischargeDepth := 9) [ht]
  · exact hb
@[simp] theorem State.confirmLate_held (s : State) : (State.confirmLate s).held = s.held := by
  unfold State.confirmLate; try dsimp only
  split
  · rfl
  · refine (foldl_held _ (fun t x => ?_) _ _).trans ?_
    · (try dsimp only); (repeat' split) <;> first | rfl | simp
    · rfl
@[simp] theorem State.confirmLate_board (s : State) (hb : s.boardOk = true) : (State.confirmLate s).boardOk = true := by
  unfold State.confirmLate; try dsimp only
  split
  · exact hb
  · refine foldl_board _ (fun t x ht => ?_) _ _ ?_
    · (try dsimp only); (repeat' split) <;> first | exact ht | simp (maxDischargeDepth := 9) [ht]
    · exact hb
@[simp] theorem State.endDrain_held (s : State) (q : Nat) : (State.endDrain s q).held = s.held := by
  unfold State.endDrain; try dsimp only
  repeat' split
  all_goals first | with_reducible rfl | simp
@[simp] theorem State.endDrain_board (s : State) (q : Nat) (hb : s.boardOk = true) : (State.endDrain s q).boardOk = true := by
  unfold State.endDrain; try dsimp only
  repeat' split
  all_goals first | with_reducible exact hb | simp (maxDischargeDepth := 9) [hb] | simp +contextual (maxDischargeDepth := 9) [hb]
@[simp] theorem State.release_held (s : State) (h : Head) : (State.release s h).held = s.held := by
  unfold State.release; try dsimp only
  repeat' split
  all_goals first | with_reducible rfl | simp
@[simp] theorem State.release_board (s : State) (h : Head) (hb : s.boardOk = true) : (State.release s h).boardOk = true := by
  unfold State.release; try dsimp only
  repeat' split
  all_goals first | with_reducible exact hb | simp (maxDischargeDepth := 9) [hb] | simp +contextual (maxDischargeDepth := 9) [hb]
@[simp] theorem State.refill_held (n micro : Nat) (s : State) (q : Nat) : (State.refill n micro s q).held = s.held := by
  unfold State.refill; try dsimp only
  repeat' split
  all_goals first | with_reducible rfl | simp
@[simp] theorem State.refill_board (n micro : Nat) (s : State) (q : Nat) (hb : s.boardOk = true) : (State.refill n micro s q).boardOk = true := by
  unfold State.refill; try dsimp only
  repeat' split
  all_goals first | with_reducible exact hb | simp (maxDischargeDepth := 9) [hb] | simp +contextual (maxDischargeDepth := 9) [hb]
@[simp] theorem State.takeAck_held (s : State) (q : Nat) (epoch : U16) (next : U32) : (State.takeAck s q epoch next).held = s.held := by
  unfold State.takeAck; try dsimp only
  repeat' split
  all_goals first | with_reducible rfl | simp
@[simp] theorem State.takeAck_board (s : State) (q : Nat) (epoch : U16) (next : U32) (hb : s.boardOk = true) : (State.takeAck s q epoch next).boardOk = true := by
  unfold State.takeAck; try dsimp only
  repeat' split
  all_goals first | with_reducible exact hb | simp (maxDischargeDepth := 9) [hb] | simp +contextual (maxDischargeDepth := 9) [hb]
@[simp] theorem State.ackEpoch_held (s : State) (epoch : U16) : (State.ackEpoch s epoch).held = s.held := by
  unfold State.ackEpoch; try dsimp only
  repeat' split
  all_goals first | with_reducible rfl | simp
@[simp] theorem State.ackEpoch_board (s : State) (epoch : U16) (hb : s.boardOk = true) : (State.ackEpoch s epoch).boardOk = true := by
  unfold State.ackEpoch; try dsimp only
  repeat' split
  all_goals first | with_reducible exact hb | simp (maxDischargeDepth := 9) [hb] | simp +contextual (maxDischargeDepth := 9) [hb]
@[simp] theorem State.holdLink_held (s : State) (i : Fin 12) : (State.holdLink s i).held = s.held := by
  unfold State.holdLink; try dsimp only
  repeat' split
  all_goals first | with_reducible rfl | simp
@[simp] theorem State.holdLink_board (s : State) (i : Fin 12) (hb : s.boardOk = true) : (State.holdLink s i).boardOk = true := by
  unfold State.holdLink; try dsimp only
  repeat' split
  all_goals first | with_reducible exact hb | simp (maxDischargeDepth := 9) [hb] | simp +contextual (maxDischargeDepth := 9) [hb]
@[simp] theorem State.holdLinks_held (s : State) : (State.holdLinks s).held = s.held := by
  unfold State.holdLinks; exact foldl_held _ (fun t x => by simp) _ _
@[simp] theorem State.holdLinks_board (s : State) (hb : s.boardOk = true) : (State.holdLinks s).boardOk = true := by
  unfold State.holdLinks; exact foldl_board _ (fun t x h => by simp [h]) _ _ hb
@[simp] theorem State.repairItems_held (s : State) (a : ItemAsk) (rtpSeq : Nat) : (State.repairItems s a rtpSeq).held = s.held := by
  unfold State.repairItems; try dsimp only
  repeat' split
  all_goals first | with_reducible rfl | simp
@[simp] theorem State.repairItems_board (s : State) (a : ItemAsk) (rtpSeq : Nat) (hb : s.boardOk = true) : (State.repairItems s a rtpSeq).boardOk = true := by
  unfold State.repairItems; try dsimp only
  repeat' split
  all_goals first | with_reducible exact hb | simp (maxDischargeDepth := 9) [hb] | simp +contextual (maxDischargeDepth := 9) [hb]
@[simp] theorem State.modRecord_held (s : State) (c : Ctx) (t : Nat) (f : CtxRec → CtxRec) : (State.modRecord s c t f).held = s.held := by
  unfold State.modRecord; try dsimp only
  repeat' split
  all_goals first | with_reducible rfl | simp
@[simp] theorem State.modRecord_board (s : State) (c : Ctx) (t : Nat) (f : CtxRec → CtxRec) (hb : s.boardOk = true) : (State.modRecord s c t f).boardOk = true := by
  unfold State.modRecord; try dsimp only
  repeat' split
  all_goals first | with_reducible exact hb | simp (maxDischargeDepth := 9) [hb] | simp +contextual (maxDischargeDepth := 9) [hb]
@[simp] theorem State.swapCtx_held (base : Option Production) (p : Production) (cue : Nat) (s : State) (c : Ctx) : (State.swapCtx base p cue s c).held = s.held := by
  unfold State.swapCtx; try dsimp only
  repeat' split
  all_goals first | with_reducible rfl | simp
@[simp] theorem State.swapCtx_board (base : Option Production) (p : Production) (cue : Nat) (s : State) (c : Ctx) (hb : s.boardOk = true) : (State.swapCtx base p cue s c).boardOk = true := by
  unfold State.swapCtx; try dsimp only
  repeat' split
  all_goals first | with_reducible exact hb | simp (maxDischargeDepth := 9) [hb] | simp +contextual (maxDischargeDepth := 9) [hb]
@[simp] theorem State.leaveCtx_held (p : Production) (s : State) (c : Ctx) : (State.leaveCtx p s c).held = s.held := by
  unfold State.leaveCtx; try dsimp only
  repeat' split
  all_goals first | with_reducible rfl | simp
@[simp] theorem State.leaveCtx_board (p : Production) (s : State) (c : Ctx) (hb : s.boardOk = true) : (State.leaveCtx p s c).boardOk = true := by
  unfold State.leaveCtx; try dsimp only
  repeat' split
  all_goals first | with_reducible exact hb | simp (maxDischargeDepth := 9) [hb] | simp +contextual (maxDischargeDepth := 9) [hb]
@[simp] theorem State.storeRecords_held (s : State) : (State.storeRecords s).held = s.held := by
  unfold State.storeRecords; try dsimp only
  split
  · rfl
  · refine (foldl_held _ (fun t x => ?_) _ _).trans ?_
    · refine (foldl_held _ (fun t x => ?_) _ _).trans ?_
      · (try dsimp only); (repeat' split) <;> first | rfl | simp
      · rfl
    · rfl
@[simp] theorem State.storeRecords_board (s : State) (hb : s.boardOk = true) : (State.storeRecords s).boardOk = true := by
  unfold State.storeRecords; try dsimp only
  split
  · exact hb
  · refine foldl_board _ (fun t x ht => ?_) _ _ ?_
    · refine foldl_board _ (fun t x ht => ?_) _ _ ht
      (try dsimp only); (repeat' split) <;> first | exact ht | simp (maxDischargeDepth := 9) [ht]
    · exact hb
@[simp] theorem State.entryWrites_held (s : State) : s.entryWrites.held = s.held :=
  (State.storeRecords_held _).trans (foldl_held _ (fun t q => State.commitGap_held t q) _ _)
@[simp] theorem State.entryWrites_board (s : State) (hb : s.boardOk = true) : s.entryWrites.boardOk = true :=
  State.storeRecords_board _ (foldl_board _ (fun t q ht => State.commitGap_board t q ht) _ _ hb)
@[simp] theorem State.loadRecords_held (p : Production) (s : State) : (State.loadRecords p s).held = s.held := by
  unfold State.loadRecords; try dsimp only
  refine (foldl_held _ (fun t x => ?_) _ _).trans ?_
  · refine (foldl_held _ (fun t x => ?_) _ _).trans ?_
    · (try dsimp only); (repeat' split) <;> first | rfl | simp
    · rfl
  · rfl
@[simp] theorem State.loadRecords_board (p : Production) (s : State) (hb : s.boardOk = true) : (State.loadRecords p s).boardOk = true := by
  unfold State.loadRecords; try dsimp only
  refine foldl_board _ (fun t x ht => ?_) _ _ ?_
  · refine foldl_board _ (fun t x ht => ?_) _ _ ht
    (try dsimp only); (repeat' split) <;> first | exact ht | simp (maxDischargeDepth := 9) [ht]
  · exact hb
@[simp] theorem State.swapAudio_held (p : Production) (s : State) : (State.swapAudio p s).held = s.held := by
  unfold State.swapAudio; try dsimp only
  repeat' split
  all_goals first | with_reducible rfl | simp
@[simp] theorem State.swapAudio_board (p : Production) (s : State) (hb : s.boardOk = true) : (State.swapAudio p s).boardOk = true := by
  unfold State.swapAudio; try dsimp only
  repeat' split
  all_goals first | with_reducible exact hb | simp (maxDischargeDepth := 9) [hb] | simp +contextual (maxDischargeDepth := 9) [hb]
@[simp] theorem State.swapQueue_held (p : Production) (s : State) (e : QEntry) : (State.swapQueue p s e).held = s.held := by
  unfold State.swapQueue; try dsimp only
  repeat' split
  all_goals first | with_reducible rfl | simp
@[simp] theorem State.swapQueue_board (p : Production) (s : State) (e : QEntry) (hb : s.boardOk = true) : (State.swapQueue p s e).boardOk = true := by
  unfold State.swapQueue; try dsimp only
  repeat' split
  all_goals first | with_reducible exact hb | simp (maxDischargeDepth := 9) [hb] | simp +contextual (maxDischargeDepth := 9) [hb]
@[simp] theorem State.drainQueue_held (p : Production) (s : State) (q : Nat) : (State.drainQueue p s q).held = s.held := by
  unfold State.drainQueue; try dsimp only
  repeat' split
  all_goals first | with_reducible rfl | simp
@[simp] theorem State.drainQueue_board (p : Production) (s : State) (q : Nat) (hb : s.boardOk = true) : (State.drainQueue p s q).boardOk = true := by
  unfold State.drainQueue; try dsimp only
  repeat' split
  all_goals first | with_reducible exact hb | simp (maxDischargeDepth := 9) [hb] | simp +contextual (maxDischargeDepth := 9) [hb]
@[simp] theorem State.swapFlow_held (p : Production) (cue : Nat) (s : State) : (State.swapFlow p cue s).held = s.held := by
  unfold State.swapFlow; try dsimp only
  simp
@[simp] theorem State.swapFlow_board (p : Production) (cue : Nat) (s : State) (hb : s.boardOk = true) : (State.swapFlow p cue s).boardOk = true := by
  unfold State.swapFlow; try dsimp only
  simp only [boardOk_mk, boardOk_eta]
  refine foldl_board _ (fun t x ht => by simp (maxDischargeDepth := 9) [ht]) _ _ ?_
  refine foldl_board _ (fun t x ht => by simp (maxDischargeDepth := 9) [ht]) _ _ ?_
  simpa using hb
@[simp] theorem State.swapLink_held (p : Production) (s : State) (i : Fin 12) : (State.swapLink p s i).held = s.held := by
  unfold State.swapLink; try dsimp only
  repeat' split
  all_goals first | with_reducible rfl | simp
@[simp] theorem State.swapLink_board (p : Production) (s : State) (i : Fin 12) (hb : s.boardOk = true) : (State.swapLink p s i).boardOk = true := by
  unfold State.swapLink; try dsimp only
  repeat' split
  all_goals first | with_reducible exact hb | simp (maxDischargeDepth := 9) [hb] | simp +contextual (maxDischargeDepth := 9) [hb]
@[simp] theorem State.swapTo_held (s : State) (p : Production) (cue : Nat) : (State.swapTo s p cue).held = s.held := by
  unfold State.swapTo; try dsimp only
  simp
  split <;> simp
@[simp] theorem State.swapTo_board (s : State) (p : Production) (cue : Nat) (hb : s.boardOk = true) : (State.swapTo s p cue).boardOk = true := by
  unfold State.swapTo; try dsimp only
  apply State.review_board; apply State.holdLinks_board; simp only [boardOk_mk, boardOk_eta]
  have h4 : ∀ base, ((List.finRange 12).foldl (State.swapLink p) ((State.swapFlow p cue ((((s.running.map (·.contexts)).getD []).foldl (State.leaveCtx p) (p.contexts.foldl (State.swapCtx base p cue) s.storeRecords)))).swapAudio p)).boardOk = true := fun base => by
    refine foldl_board _ (fun t x ht => by simp (maxDischargeDepth := 9) [ht]) _ _ ?_
    apply State.swapAudio_board; apply State.swapFlow_board
    refine foldl_board _ (fun t x ht => by simp (maxDischargeDepth := 9) [ht]) _ _ ?_
    refine foldl_board _ (fun t x ht => by simp (maxDischargeDepth := 9) [ht]) _ _ ?_
    simp [hb]
  split
  · apply State.loadRecords_board; simp only [boardOk_mk, boardOk_eta]; exact h4 _
  · simp only [boardOk_mk, boardOk_eta]; exact h4 _
@[simp] theorem State.closeAll_held (s : State) : (State.closeAll s).held = s.held := by
  unfold State.closeAll; try dsimp only
  refine (foldl_held _ (fun t x => ?_) _ _).trans ?_
  · refine (foldl_held _ (fun t x => ?_) _ _).trans ?_
    · refine (foldl_held _ (fun t x => ?_) _ _).trans ?_
      · split
        · refine (foldl_held _ (fun t x => ?_) _ _).trans ?_
          · refine (foldl_held _ (fun t x => ?_) _ _).trans ?_
            · simp
            · rfl
          · rfl
        · rfl
      · rfl
    · rfl
  · rfl
@[simp] theorem State.closeAll_board (s : State) (hb : s.boardOk = true) : (State.closeAll s).boardOk = true := by
  unfold State.closeAll; try dsimp only
  refine foldl_board _ (fun t x ht => ?_) _ _ hb
  refine foldl_board _ (fun t x ht => ?_) _ _ ht
  refine foldl_board _ (fun t x ht => ?_) _ _ ht
  split
  · refine foldl_board _ (fun t x ht => ?_) _ _ ht
    refine foldl_board _ (fun t x ht => ?_) _ _ ht
    simp (maxDischargeDepth := 9) [ht]
  · exact ht
@[simp] theorem State.writeHead_held (s : State) : (State.writeHead s).held = s.held := by
  unfold State.writeHead; try dsimp only
  repeat' split
  all_goals first | with_reducible rfl | simp
@[simp] theorem State.writeHead_board (s : State) (hb : s.boardOk = true) : (State.writeHead s).boardOk = true := by
  unfold State.writeHead; try dsimp only
  repeat' split
  all_goals first | with_reducible exact hb | simp (maxDischargeDepth := 9) [hb] | simp +contextual (maxDischargeDepth := 9) [hb]
@[simp] theorem State.enterWarm_held (s : State) (cause : Nat) (hardware : Bool) : (State.enterWarm s cause hardware).held = s.held := by
  unfold State.enterWarm; try dsimp only
  repeat' split
  all_goals first | with_reducible rfl | simp
@[simp] theorem State.enterWarm_board (s : State) (cause : Nat) (hardware : Bool) (hb : s.boardOk = true) : (State.enterWarm s cause hardware).boardOk = true := by
  unfold State.enterWarm; try dsimp only
  repeat' split
  all_goals first | with_reducible exact hb | simp (maxDischargeDepth := 9) [hb] | simp +contextual (maxDischargeDepth := 9) [hb]
@[simp] theorem State.coldHeld_pending (s : State) (c : Nat) : (s.coldHeld c).pending = s.pending := rfl
@[simp] theorem State.coldHeld_otp (s : State) (c : Nat) : (s.coldHeld c).sec.otp = s.sec.otp := rfl
@[simp] theorem State.coldHeld_mbs (s : State) (c : Nat) : (s.coldHeld c).host.mbs = State.reset.host.mbs := rfl
@[simp] theorem State.coldHeld_board (s : State) (c : Nat) : (s.coldHeld c).boardOk = true := rfl
@[simp] theorem State.replay_held (s : State) (b : BootInputs) : (State.replay s b).held = s.held := by
  unfold State.replay; dsimp only
  rw [State.raiseAll_held]
  have h1 : ∀ l, (List.foldl (State.replayRec b.badCpls) (s, 0) l).1.held = s.held := fun l => by
    refine (foldl_held_fst _ (fun t r => ?_) _ _).trans rfl
    unfold State.replayRec; dsimp only
    repeat' split
    all_goals first | rfl | simp
  rw [← h1]
  simp only [held_mk]
  unfold State.held
  congr 2
  ext j hj; simp [Mailbox.restart]
@[simp] theorem State.replay_board (s : State) (b : BootInputs) (hb : s.boardOk = true) : (State.replay s b).boardOk = true := by
  unfold State.replay; dsimp only
  apply State.raiseAll_board
  simp only [boardOk_mk, boardOk_eta]
  refine foldl_board_fst _ (fun t r ht => ?_) _ _ hb
  unfold State.replayRec; dsimp only
  repeat' split
  all_goals first | exact ht | exact cwf_writeSlots _ _ _ _ _ _ ht
@[simp] theorem State.bootError_held (s : State) (code : Nat) : (State.bootError s code).held = s.held := by
  unfold State.bootError; try dsimp only
  repeat' split
  all_goals first | with_reducible rfl | simp
@[simp] theorem State.bootError_board (s : State) (code : Nat) (hb : s.boardOk = true) : (State.bootError s code).boardOk = true := by
  unfold State.bootError; try dsimp only
  repeat' split
  all_goals first | with_reducible exact hb | simp (maxDischargeDepth := 9) [hb] | simp +contextual (maxDischargeDepth := 9) [hb]
@[simp] theorem State.bootLinks_held (s : State) : (State.bootLinks s).held = s.held := by
  unfold State.bootLinks; try dsimp only
  repeat' split
  all_goals first | with_reducible rfl | simp
@[simp] theorem State.bootLinks_board (s : State) (hb : s.boardOk = true) : (State.bootLinks s).boardOk = true := by
  unfold State.bootLinks; try dsimp only
  repeat' split
  all_goals first | with_reducible exact hb | simp (maxDischargeDepth := 9) [hb] | simp +contextual (maxDischargeDepth := 9) [hb]
@[simp] theorem State.romLink_held (s : State) : (State.romLink s).held = s.held := by
  unfold State.romLink; try dsimp only
  repeat' split
  all_goals first | with_reducible rfl | simp
@[simp] theorem State.romLink_board (s : State) (hb : s.boardOk = true) : (State.romLink s).boardOk = true := by
  unfold State.romLink; try dsimp only
  repeat' split
  all_goals first | with_reducible exact hb | simp (maxDischargeDepth := 9) [hb] | simp +contextual (maxDischargeDepth := 9) [hb]
@[simp] theorem State.retrain9_held (s : State) : (State.retrain9 s).held = s.held := by
  unfold State.retrain9; try dsimp only
  repeat' split
  all_goals first | with_reducible rfl | simp
@[simp] theorem State.retrain9_board (s : State) (hb : s.boardOk = true) : (State.retrain9 s).boardOk = true := by
  unfold State.retrain9; try dsimp only
  repeat' split
  all_goals first | with_reducible exact hb | simp (maxDischargeDepth := 9) [hb] | simp +contextual (maxDischargeDepth := 9) [hb]
@[simp] theorem State.trained_held (s : State) (f : DdrFound) : ((State.trained s f).1).held = s.held := by
  unfold State.trained; try dsimp only
  repeat' split
  all_goals first | with_reducible rfl | simp
@[simp] theorem State.trained_board (s : State) (f : DdrFound) (hb : s.boardOk = true) : ((State.trained s f).1).boardOk = true := by
  unfold State.trained; try dsimp only
  repeat' split
  all_goals first | with_reducible exact hb | simp (maxDischargeDepth := 9) [hb] | simp +contextual (maxDischargeDepth := 9) [hb]
@[simp] theorem State.ready_held (s : State) (b : BootInputs) (es : List Ev) : (State.ready s b es).held = s.held := by
  unfold State.ready; try dsimp only
  repeat' split
  all_goals first | with_reducible rfl | simp
@[simp] theorem State.ready_board (s : State) (b : BootInputs) (es : List Ev) (hb : s.boardOk = true) : (State.ready s b es).boardOk = true := by
  unfold State.ready; try dsimp only
  repeat' split
  all_goals first | with_reducible exact hb | simp (maxDischargeDepth := 9) [hb] | simp +contextual (maxDischargeDepth := 9) [hb]
@[simp] theorem State.startFirmware_held (s : State) (b : BootInputs) (f : Firmware) (slot : Nat) : (State.startFirmware s b f slot).held = s.held := by
  unfold State.startFirmware; try dsimp only
  repeat' split
  all_goals first | with_reducible rfl | simp
@[simp] theorem State.startFirmware_board (s : State) (b : BootInputs) (f : Firmware) (slot : Nat) (hb : s.boardOk = true) : (State.startFirmware s b f slot).boardOk = true := by
  unfold State.startFirmware; try dsimp only
  repeat' split
  all_goals first | with_reducible exact hb | simp (maxDischargeDepth := 9) [hb] | simp +contextual (maxDischargeDepth := 9) [hb]
@[simp] theorem State.flashBoot_held (s : State) (b : BootInputs) : (State.flashBoot s b).held = s.held := by
  unfold State.flashBoot; try dsimp only
  repeat' split
  all_goals first | with_reducible rfl | simp
@[simp] theorem State.flashBoot_board (s : State) (b : BootInputs) (hb : s.boardOk = true) : (State.flashBoot s b).boardOk = true := by
  unfold State.flashBoot; try dsimp only
  repeat' split
  all_goals first | with_reducible exact hb | simp (maxDischargeDepth := 9) [hb] | simp +contextual (maxDischargeDepth := 9) [hb]
@[simp] theorem State.selftest_held (s : State) (b : BootInputs) : (State.selftest s b).1.held = s.held := by
  unfold State.selftest; simp
@[simp] theorem State.selftest_board (s : State) (b : BootInputs) (hb : s.boardOk = true) : (State.selftest s b).1.boardOk = true := by
  unfold State.selftest; dsimp only
  rw [boardOk_mk]; dsimp only
  apply writeBytes_wf
  repeat' split
  all_goals first | rfl | exact hb
@[simp] theorem State.rom_held (s : State) (b : BootInputs) : (State.rom s b).held = s.held := by
  unfold State.rom; try dsimp only
  repeat' split
  all_goals first | with_reducible rfl | simp
@[simp] theorem State.rom_board (s : State) (b : BootInputs) (hb : s.boardOk = true) : (State.rom s b).boardOk = true := by
  unfold State.rom; try dsimp only
  repeat' split
  all_goals first | with_reducible exact hb | simp (maxDischargeDepth := 9) [hb] | simp +contextual (maxDischargeDepth := 9) [hb]
@[simp] theorem State.warmCleared_held (s : State) : (State.warmCleared s).held = s.held := by
  unfold State.warmCleared
  simp [Function.comp_def]
@[simp] theorem State.warmCleared_board (s : State) (hb : s.boardOk = true) : (State.warmCleared s).boardOk = true := by
  unfold State.warmCleared; try dsimp only
  repeat' split
  all_goals first | with_reducible exact hb | simp (maxDischargeDepth := 9) [hb] | simp +contextual (maxDischargeDepth := 9) [hb]
@[simp] theorem State.takeChunk_held (s : State) (b : BootInputs) (length : Nat) (last : Bool) : (State.takeChunk s b length last).held = s.held := by
  unfold State.takeChunk; try dsimp only
  repeat' split
  all_goals first | with_reducible rfl | simp
@[simp] theorem State.takeChunk_board (s : State) (b : BootInputs) (length : Nat) (last : Bool) (hb : s.boardOk = true) : (State.takeChunk s b length last).boardOk = true := by
  unfold State.takeChunk; try dsimp only
  repeat' split
  all_goals first | with_reducible exact hb | simp (maxDischargeDepth := 9) [hb] | simp +contextual (maxDischargeDepth := 9) [hb]
@[simp] theorem State.moveCurtain_held (s : State) (k : Curtain) (cause : Nat) : (State.moveCurtain s k cause).held = s.held := by
  unfold State.moveCurtain; try dsimp only
  repeat' split
  all_goals first | with_reducible rfl | simp
@[simp] theorem State.moveCurtain_board (s : State) (k : Curtain) (cause : Nat) (hb : s.boardOk = true) : (State.moveCurtain s k cause).boardOk = true := by
  unfold State.moveCurtain; try dsimp only
  repeat' split
  all_goals first | with_reducible exact hb | simp (maxDischargeDepth := 9) [hb] | simp +contextual (maxDischargeDepth := 9) [hb]
@[simp] theorem State.curtainRefused_held (s : State) (opcode status : Nat) : (State.curtainRefused s opcode status).1.held = s.held := by
  unfold State.curtainRefused; try dsimp only
  repeat' split
  all_goals first | with_reducible rfl | simp
@[simp] theorem State.curtainRefused_board (s : State) (opcode status : Nat) (hb : s.boardOk = true) : (State.curtainRefused s opcode status).1.boardOk = true := by
  unfold State.curtainRefused; try dsimp only
  repeat' split
  all_goals first | with_reducible exact hb | simp (maxDischargeDepth := 9) [hb] | simp +contextual (maxDischargeDepth := 9) [hb]
@[simp] theorem State.signedMove_held (s : State) (opcode : Nat) (down : Bool) (sequence : Nat) (print signature : List Byte) : (State.signedMove s opcode down sequence print signature).1.held = s.held := by
  unfold State.signedMove; try dsimp only
  repeat' split
  all_goals first | with_reducible rfl | simp
@[simp] theorem State.signedMove_board (s : State) (opcode : Nat) (down : Bool) (sequence : Nat) (print signature : List Byte) (hb : s.boardOk = true) : (State.signedMove s opcode down sequence print signature).1.boardOk = true := by
  unfold State.signedMove; try dsimp only
  repeat' split
  all_goals first | with_reducible exact hb | simp (maxDischargeDepth := 9) [hb] | simp +contextual (maxDischargeDepth := 9) [hb]
@[simp] theorem State.landWord_held (s : State) (port word : Nat) (poison : Bool) : (State.landWord s port word poison).held = s.held := by
  unfold State.landWord; try dsimp only
  repeat' split
  all_goals first | with_reducible rfl | simp
@[simp] theorem State.landWord_board (s : State) (port word : Nat) (poison : Bool) (hb : s.boardOk = true) : (State.landWord s port word poison).boardOk = true := by
  unfold State.landWord; try dsimp only
  repeat' split
  all_goals first | with_reducible exact hb | simp (maxDischargeDepth := 9) [hb] | simp +contextual (maxDischargeDepth := 9) [hb]
@[simp] theorem State.landed_held (s : State) (serves : ReadFor) (poison : Bool) : (State.landed s serves poison).held = s.held := by
  unfold State.landed; try dsimp only
  repeat' split
  all_goals first | with_reducible rfl | simp
@[simp] theorem State.landed_board (s : State) (serves : ReadFor) (poison : Bool) (hb : s.boardOk = true) : (State.landed s serves poison).boardOk = true := by
  unfold State.landed; try dsimp only
  repeat' split
  all_goals first | with_reducible exact hb | simp (maxDischargeDepth := 9) [hb] | simp +contextual (maxDischargeDepth := 9) [hb]
@[simp] theorem State.orderTraining_held (s : State) (i : Fin 12) : (State.orderTraining s i).held = s.held := by
  unfold State.orderTraining; try dsimp only
  repeat' split
  all_goals first | with_reducible rfl | simp
@[simp] theorem State.orderTraining_board (s : State) (i : Fin 12) (hb : s.boardOk = true) : (State.orderTraining s i).boardOk = true := by
  unfold State.orderTraining; try dsimp only
  repeat' split
  all_goals first | with_reducible exact hb | simp (maxDischargeDepth := 9) [hb] | simp +contextual (maxDischargeDepth := 9) [hb]
@[simp] theorem State.setChecker_held (s : State) (link : Fin 12) (t : PatTest) (lane : Fin 4) (c : Checker) : (State.setChecker s link t lane c).held = s.held := by
  rfl
@[simp] theorem State.setChecker_board (s : State) (link : Fin 12) (t : PatTest) (lane : Fin 4) (c : Checker) (hb : s.boardOk = true) : (State.setChecker s link t lane c).boardOk = true := by
  exact hb
@[simp] theorem State.closeSession_held (s : State) (cause : Nat) : (State.closeSession s cause).held = s.held := by
  unfold State.closeSession; try dsimp only
  repeat' split
  all_goals first | with_reducible rfl | simp
@[simp] theorem State.closeSession_board (s : State) (cause : Nat) (hb : s.boardOk = true) : (State.closeSession s cause).boardOk = true := by
  unfold State.closeSession; try dsimp only
  repeat' split
  all_goals first | with_reducible exact hb | simp (maxDischargeDepth := 9) [hb] | simp +contextual (maxDischargeDepth := 9) [hb]
@[simp] theorem State.openSession_held (s : State) (minor : Nat) : (State.openSession s minor).held = s.held := by
  unfold State.openSession; try dsimp only
  repeat' split
  all_goals first | with_reducible rfl | simp
@[simp] theorem State.openSession_board (s : State) (minor : Nat) (hb : s.boardOk = true) : (State.openSession s minor).boardOk = true := by
  unfold State.openSession; try dsimp only
  repeat' split
  all_goals first | with_reducible exact hb | simp (maxDischargeDepth := 9) [hb] | simp +contextual (maxDischargeDepth := 9) [hb]
@[simp] theorem State.setPin_held (s : State) (pin : Fin 16) (p : CuePin) : (State.setPin s pin p).held = s.held := by
  rfl
@[simp] theorem State.setPin_board (s : State) (pin : Fin 16) (p : CuePin) (hb : s.boardOk = true) : (State.setPin s pin p).boardOk = true := by
  exact hb
@[simp] theorem State.resumeQueues_held (s : State) : (State.resumeQueues s).1.held = s.held := by
  unfold State.resumeQueues; dsimp only
  refine (foldl_held_fst _ (fun t q => ?_) _ _).trans rfl
  dsimp only; repeat' split
  all_goals first | rfl | simp
@[simp] theorem State.resumeQueues_board (s : State) (hb : s.boardOk = true) : (State.resumeQueues s).1.boardOk = true := by
  unfold State.resumeQueues; dsimp only
  refine foldl_board_fst _ (fun t q ht => ?_) _ _ hb
  dsimp only; repeat' split
  all_goals first | exact ht | simp [ht]
@[simp] theorem State.restartQueues_held (s : State) : (State.restartQueues s).1.held = s.held := by
  unfold State.restartQueues
  refine (foldl_held_fst _ (fun t q => ?_) _ _).trans rfl
  repeat' split
  all_goals first | rfl | simp
@[simp] theorem State.restartQueues_board (s : State) (hb : s.boardOk = true) : (State.restartQueues s).1.boardOk = true := by
  unfold State.restartQueues
  refine foldl_board_fst _ (fun t q ht => ?_) _ _ hb
  repeat' split
  all_goals first | exact ht | simp [ht]
@[simp] theorem State.dropUnrepaired_held (s : State) : (State.dropUnrepaired s).held = s.held := by
  unfold State.dropUnrepaired; try dsimp only
  rw [State.raiseAll_held]; simp only [held_mk, held_eta]
  refine (foldl_held _ (fun t x => ?_) _ _).trans ?_
  · (try dsimp only); (repeat' split) <;> first | rfl | simp
  · rfl
@[simp] theorem State.dropUnrepaired_board (s : State) (hb : s.boardOk = true) : (State.dropUnrepaired s).boardOk = true := by
  unfold State.dropUnrepaired; try dsimp only
  apply State.raiseAll_board; simp only [boardOk_mk, boardOk_eta]
  refine foldl_board _ (fun t x ht => ?_) _ _ hb
  (try dsimp only); (repeat' split) <;> first | exact ht | simp (maxDischargeDepth := 9) [ht]
@[simp] theorem State.sweepAll_held (s : State) : (State.sweepAll s).held = s.held := by
  unfold State.sweepAll; try dsimp only
  repeat' split
  all_goals first | with_reducible rfl | simp
@[simp] theorem State.sweepAll_board (s : State) (hb : s.boardOk = true) : (State.sweepAll s).boardOk = true := by
  unfold State.sweepAll; try dsimp only
  repeat' split
  all_goals first | with_reducible exact hb | simp (maxDischargeDepth := 9) [hb] | simp +contextual (maxDischargeDepth := 9) [hb]
@[simp] theorem State.lead_held (s : State) : (State.lead s).held = s.held := by
  unfold State.lead; try dsimp only
  repeat' split
  all_goals first | with_reducible rfl | simp
@[simp] theorem State.lead_board (s : State) (hb : s.boardOk = true) : (State.lead s).boardOk = true := by
  unfold State.lead; try dsimp only
  repeat' split
  all_goals first | with_reducible exact hb | simp (maxDischargeDepth := 9) [hb] | simp +contextual (maxDischargeDepth := 9) [hb]
@[simp] theorem State.heartbeatBack_held (s : State) : (State.heartbeatBack s).held = s.held := by
  unfold State.heartbeatBack; try dsimp only
  split
  · simp
  · simp
@[simp] theorem State.heartbeatBack_board (s : State) (hb : s.boardOk = true) : (State.heartbeatBack s).boardOk = true := by
  unfold State.heartbeatBack; try dsimp only
  split
  · simp (maxDischargeDepth := 9) [hb]
  · refine foldl_board _ (fun t x ht => by simp (maxDischargeDepth := 9) [ht]) _ _ ?_
    refine foldl_board _ (fun t x ht => by simp (maxDischargeDepth := 9) [ht]) _ _ ?_
    simp (maxDischargeDepth := 9) [hb]
@[simp] theorem State.takePos_held (s : State) (e : PosEntry) : (State.takePos s e).held = s.held := by
  unfold State.takePos; try dsimp only
  repeat' split
  all_goals first | with_reducible rfl | simp
@[simp] theorem State.takePos_board (s : State) (e : PosEntry) (hb : s.boardOk = true) : (State.takePos s e).boardOk = true := by
  unfold State.takePos; try dsimp only
  repeat' split
  all_goals first | with_reducible exact hb | simp (maxDischargeDepth := 9) [hb] | simp +contextual (maxDischargeDepth := 9) [hb]
@[simp] theorem State.copyItem_held (s : State) (queue : Nat) (it : Item) (rtpSeq : Nat) : (State.copyItem s queue it rtpSeq).held = s.held := by
  unfold State.copyItem; try dsimp only
  repeat' split
  all_goals first | with_reducible rfl | simp
@[simp] theorem State.copyItem_board (s : State) (queue : Nat) (it : Item) (rtpSeq : Nat) (hb : s.boardOk = true) : (State.copyItem s queue it rtpSeq).boardOk = true := by
  unfold State.copyItem; try dsimp only
  repeat' split
  all_goals first | with_reducible exact hb | simp (maxDischargeDepth := 9) [hb] | simp +contextual (maxDischargeDepth := 9) [hb]
@[simp] theorem State.endRowAsk_held (s : State) (context frameCount row : Nat) : (State.endRowAsk s context frameCount row).held = s.held := by
  unfold State.endRowAsk; try dsimp only
  repeat' split
  all_goals first | with_reducible rfl | simp
@[simp] theorem State.endRowAsk_board (s : State) (context frameCount row : Nat) (hb : s.boardOk = true) : (State.endRowAsk s context frameCount row).boardOk = true := by
  unfold State.endRowAsk; try dsimp only
  repeat' split
  all_goals first | with_reducible exact hb | simp (maxDischargeDepth := 9) [hb] | simp +contextual (maxDischargeDepth := 9) [hb]

theorem State.commitPair_held {s t : State} {pair : Nat} (h : s.commitPair pair = some t) : t.held = s.held := by
  unfold State.commitPair at h; dsimp only at h; split at h
  · cases h; rfl
  · cases h
theorem State.commitPair_board {s t : State} {pair : Nat} (h : s.commitPair pair = some t) (hb : s.boardOk = true) :
    t.boardOk = true := by
  unfold State.commitPair at h; dsimp only at h; split at h
  · cases h; exact hb
  · cases h

/-- A warm reset keeps the queue and OTP; one that is a cold reset clears the mailboxes. -/
theorem State.warmReset_pending (s : State) (cause : Nat) (hw : Bool) : (s.warmReset cause hw).pending = s.pending := by
  have h := congrArg Prod.fst (s.enterWarm_held cause hw)
  unfold State.warmReset
  repeat' split
  all_goals first | rfl | exact h
theorem State.warmReset_otp (s : State) (cause : Nat) (hw : Bool) : (s.warmReset cause hw).sec.otp = s.sec.otp := by
  have h := congrArg (fun x => x.2.1) (s.enterWarm_held cause hw)
  unfold State.warmReset
  repeat' split
  all_goals first | rfl | exact h
theorem State.warmReset_depths (s : State) (cause : Nat) (hw : Bool) :
    (s.warmReset cause hw).held = s.held ∨ (s.warmReset cause hw).host.mbs = State.reset.host.mbs := by
  have h := s.enterWarm_held cause hw
  unfold State.warmReset
  repeat' split
  all_goals first | exact Or.inl rfl | exact Or.inr rfl | exact Or.inl h
theorem State.warmReset_board (s : State) (cause : Nat) (hw : Bool) (hb : s.boardOk = true) :
    (s.warmReset cause hw).boardOk = true := by
  have h := s.enterWarm_board cause hw hb
  unfold State.warmReset
  repeat' split
  all_goals first | exact hb | rfl | exact h

/-- Equal ring depths fit the ring area alike (R467). -/
theorem RingsFit.of_held {s t : State} (h : t.held = s.held) (hs : Safety.RingsFit s) : Safety.RingsFit t := by
  have hm : t.host.mbs.map (·.depth) = s.host.mbs.map (·.depth) := congrArg (fun x => x.2.2) h
  have hd : ∀ n : Fin 8, (vget t.host.mbs n).depth = (vget s.host.mbs n).depth := fun n => by
    have := congrArg (fun v => vget v n) hm
    simpa [vget] using this
  obtain ⟨h0, h1, h2⟩ := hs
  refine ⟨by rw [hd]; exact h0, fun n => by rw [hd]; exact h1 n, ?_⟩
  have hl : t.host.mbs.toList.map (·.depth) = s.host.mbs.toList.map (·.depth) := by
    have := congrArg Vector.toList hm
    simpa only [Vector.toList_map] using this
  rw [hl]; exact h2

end Sys2Proof.Machine
end

