-- ==== Sys2Proof/Laws/Calm.lean ====
section
/-! SUPPORT. What the shared operations keep of the state that only its own commands touch: one lemma for each operation, `_calm`. -/

namespace Sys2Proof.Machine

/-- What only its own commands touch. -/
def State.calm (s : State) := (s.time, s.cues, s.sec, s.cu, s.tap, s.mon, s.green, s.running, s.before, s.rings,
  s.pairs, s.wasRings, s.wasPairs, s.curtain, s.audio, s.cands, s.dpll)

@[simp] theorem calm_mk (time evt cues host journal boot sec cu tap mon green running old before engines ctxs pictures rings
    pairs wasRings wasPairs curtain audio flow links lineRejects cands dpll ddr twin free pending) :
    State.calm ⟨time, evt, cues, host, journal, boot, sec, cu, tap, mon, green, running, old, before, engines, ctxs, pictures,
      rings, pairs, wasRings, wasPairs, curtain, audio, flow, links, lineRejects, cands, dpll, ddr, twin, free, pending⟩
      = (time, cues, sec, cu, tap, mon, green, running, before, rings, pairs, wasRings, wasPairs, curtain, audio, cands, dpll) := rfl

@[simp] theorem calm_eta (s : State) : (s.time, s.cues, s.sec, s.cu, s.tap, s.mon, s.green, s.running, s.before, s.rings,
  s.pairs, s.wasRings, s.wasPairs, s.curtain, s.audio, s.cands, s.dpll) = s.calm := rfl
@[simp] theorem foldl_calm {α : Type} (f : State → α → State) (h : ∀ t x, (f t x).calm = t.calm) (l : List α) (s : State) :
    (l.foldl f s).calm = s.calm := by
  induction l generalizing s with
  | nil => rfl
  | cons x l ih => rw [List.foldl_cons, ih, h]

@[simp] theorem State.fresh_calm (s : State) : s.fresh.calm = s.calm := rfl
@[simp] theorem State.takeCmd_calm (s : State) (h : Hdr) : (s.takeCmd h).calm = s.calm := by simp [State.takeCmd]
@[simp] theorem State.raise_calm (s : State) (e : Ev) : (s.raise e).calm = s.calm := by
  unfold State.raise; dsimp only; split <;> rfl
@[simp] theorem State.raiseAll_calm (s : State) (es : List Ev) : (s.raiseAll es).calm = s.calm := by
  unfold State.raiseAll; simp
@[simp] theorem State.review_calm (s : State) : (State.review s).calm = s.calm := by
  unfold State.review; try dsimp only
  repeat' split
  all_goals first | with_reducible rfl | simp
@[simp] theorem State.complete_calm (s : State) (mb : Fin 8) (i : U32) (a b c d : Nat) (j : Bool) (r : Reply) :
    (s.complete mb i a b c d j r).calm = s.calm := by
  unfold State.complete; dsimp only; simp
@[simp] theorem State.faultMb_calm (s : State) (mb : Fin 8) : (s.faultMb mb).calm = s.calm := by
  unfold State.faultMb; simp
@[simp] theorem State.resetMb_calm (s : State) (mb : Fin 8) : (s.resetMb mb).calm = s.calm := by
  unfold State.resetMb; simp
@[simp] theorem State.finishLong_calm (s : State) (mb : Fin 8) (r : Reply) : (s.finishLong mb r).calm = s.calm := by
  unfold State.finishLong; dsimp only; split
  · rfl
  · split <;> simp
@[simp] theorem State.setBulk_calm (s : State) (a : Nat) (bs : List Byte) : (s.setBulk a bs).calm = s.calm := rfl
theorem runCmd_calm (c : Spec) (h : Hdr) (body : State → State × Reply) (s : State) (pass : Bool)
    (hb : (body (s.takeCmd h)).1.calm = s.calm) : (runCmd c h body s pass).calm = s.calm := by
  obtain ⟨-, e⟩ | ⟨-, -, e⟩ | ⟨st, -, -, -, e⟩ | ⟨-, -, -, e⟩ := runCmd_cases c h body s pass <;> rw [e]
  · simp
  · split <;> simp
  · simp [hb]

theorem runLong_calm (c : Spec) (h : Hdr) (body : State → State × Option Reply) (s : State)
    (hb : (body (s.takeCmd h)).1.calm = s.calm) : (runLong c h body s).calm = s.calm := by
  unfold runLong; dsimp only
  split
  · rfl
  · split
    · simp
    · split
      · split <;> simp
      · split
        · simp [hb]
        · simp [hb]

theorem foldl_calm_fst {α β : Type} (f : State × β → α → State × β) (h : ∀ t x, (f t x).1.calm = t.1.calm) (l : List α)
    (s : State × β) : (l.foldl f s).1.calm = s.1.calm := by
  induction l generalizing s with
  | nil => rfl
  | cons x l ih => rw [List.foldl_cons, ih, h]

@[simp] theorem State.setLink_calm (s : State) (i : Fin 12) (l : Link) : (State.setLink s i l).calm = s.calm := by
  rfl
@[simp] theorem State.abortEye_calm (s : State) (i : Fin 12) : (State.abortEye s i).calm = s.calm := by
  unfold State.abortEye; try dsimp only
  repeat' split
  all_goals first | with_reducible rfl | simp
@[simp] theorem State.retrain_calm (s : State) (i : Fin 12) (cause : Nat) : (State.retrain s i cause).calm = s.calm := by
  unfold State.retrain; try dsimp only
  repeat' split
  all_goals first | with_reducible rfl | simp
@[simp] theorem State.failAttempt_calm (s : State) (i : Fin 12) (lanes : List (Fin 4)) : (State.failAttempt s i lanes).calm = s.calm := by
  unfold State.failAttempt; try dsimp only
  repeat' split
  all_goals first | with_reducible rfl | simp
@[simp] theorem State.adaptStep_calm (s : State) (i : Fin 12) (a : State) (n : Fin 4) (c : Nat) (v : Int) (was : Bool) :
    (s.adaptStep i a n c v was).calm = a.calm := by
  unfold State.adaptStep; simp
@[simp] theorem State.popInbox_calm (s : State) (i : Fin 12) (vc : Fin 8) : (State.popInbox s i vc).calm = s.calm := by
  unfold State.popInbox; try dsimp only
  repeat' split
  all_goals first | with_reducible rfl | simp
@[simp] theorem State.send_calm (s : State) (i : Fin 12) (vc : Fin 8) (type : Nat) (body : List Byte) : (State.send s i vc type body).calm = s.calm := by
  unfold State.send; try dsimp only
  repeat' split
  all_goals first | with_reducible rfl | simp
@[simp] theorem State.logError_calm (s : State) (e : LogEntry) : (State.logError s e).calm = s.calm := by
  unfold State.logError; try dsimp only
  repeat' split
  all_goals first | with_reducible rfl | simp
@[simp] theorem State.setSub_calm (s : State) (i : Fin 12) (c : SubCh) : (State.setSub s i c).calm = s.calm := by
  rfl
@[simp] theorem State.checksOff_calm (s : State) (i : Fin 12) (rank : Nat) : (State.checksOff s i rank).calm = s.calm := by
  unfold State.checksOff; try dsimp only
  repeat' split
  all_goals first | with_reducible rfl | simp
@[simp] theorem State.markComp_calm (s : State) (i : Fin 12) (rank comp cause : Nat) : (State.markComp s i rank comp cause).calm = s.calm := by
  unfold State.markComp; try dsimp only
  repeat' split
  all_goals first | with_reducible rfl | simp
@[simp] theorem State.correction_calm (port address rank : Nat) (i : Fin 12) (synd : List Byte) (s : State) (comp : Nat) : (State.correction port address rank i synd s comp).calm = s.calm := by
  unfold State.correction; try dsimp only
  repeat' split
  all_goals first | with_reducible rfl | simp
@[simp] theorem State.decode_calm (s : State) (i : Fin 12) (port address : Nat) (err : CodeErr) (kind : Nat) : (State.decode s i port address err kind).1.calm = s.calm := by
  unfold State.decode; try dsimp only
  repeat' split
  all_goals simp
@[simp] theorem State.setCtx_calm (s : State) (c : Nat) (x : CtxState) : (State.setCtx s c x).calm = s.calm := by
  rfl
@[simp] theorem State.noteQueues_calm (s : State) (old : Ddr) : (State.noteQueues s old).calm = s.calm := by
  unfold State.noteQueues; try dsimp only
  repeat' split
  all_goals first | with_reducible rfl | simp
@[simp] theorem State.portFull_calm (s : State) (port : Fin 22) (bytes : Nat) : (State.portFull s port bytes).calm = s.calm := by
  unfold State.portFull; try dsimp only
  repeat' split
  all_goals first | with_reducible rfl | simp
@[simp] theorem State.keepLevels_calm (s : State) (p : Production) (c : Ctx) (n t k : Nat) : (State.keepLevels s p c n t k).calm = s.calm := by
  unfold State.keepLevels; try dsimp only
  repeat' split
  all_goals first | with_reducible rfl | simp
@[simp] theorem State.ctxLine_calm (s : State) (p : Production) (c : Ctx) (n : Nat) (m : LineMsg) (room : Bool) : (State.ctxLine s p c n m room).calm = s.calm := by
  unfold State.ctxLine; try dsimp only
  repeat' split
  all_goals first | with_reducible rfl | simp
@[simp] theorem State.closeRow_calm (s : State) (p : Production) (c : Ctx) (n t k : Nat) : (State.closeRow s p c n t k).calm = s.calm := by
  unfold State.closeRow; try dsimp only
  repeat' split
  all_goals first | with_reducible rfl | simp
@[simp] theorem State.geometryLatch_calm (s : State) (p : Production) (c : Ctx) (n : Nat) : (State.geometryLatch s p c n).calm = s.calm := by
  unfold State.geometryLatch; try dsimp only
  repeat' split
  all_goals first | with_reducible rfl | simp
@[simp] theorem State.contentLatchAt_calm (s : State) (p : Production) (c : Ctx) (n tick : Nat) : (State.contentLatchAt s p c n tick).calm = s.calm := by
  unfold State.contentLatchAt; try dsimp only
  repeat' split
  all_goals first | with_reducible rfl | simp
@[simp] theorem State.setEngine_calm (s : State) (e : Fin 16) (g : Engine) : (State.setEngine s e g).calm = s.calm := by
  rfl
@[simp] theorem State.publish_calm (s : State) (context tile : Nat) (r : CtxRec) : (State.publish s context tile r).calm = s.calm := by
  unfold State.publish; try dsimp only
  repeat' split
  all_goals first | with_reducible rfl | simp
@[simp] theorem State.lateRead_calm (s : State) (e : Fin 16) (ts : List Nat) : (State.lateRead s e ts).calm = s.calm := by
  unfold State.lateRead; try dsimp only
  repeat' split
  all_goals first | with_reducible rfl | simp
@[simp] theorem State.reachWord_calm (s : State) (e : Fin 16) (t : EngineTab) (slot : Nat) (want : Nat → CueWord → Bool) : (State.reachWord s e t slot want).1.calm = s.calm := by
  unfold State.reachWord; try dsimp only
  repeat' split
  all_goals first | with_reducible rfl | simp
@[simp] theorem State.keepPreview_calm (s : State) (c : Ctx) (frame qy : Nat) (p : Picture) : (State.keepPreview s c frame qy p).calm = s.calm := by
  unfold State.keepPreview; try dsimp only
  repeat' split
  all_goals first | with_reducible rfl | simp
@[simp] theorem State.previewQuad_calm (s : State) (j : Job) (frame qx qy : Nat) (samples : List Nat) : (State.previewQuad s j frame qx qy samples).calm = s.calm := by
  unfold State.previewQuad; try dsimp only
  repeat' split
  all_goals first | with_reducible rfl | simp
@[simp] theorem State.previewCtu_calm (s : State) (e : Fin 16) (j : Job) (qs : List Nat) : (State.previewCtu s e j qs).calm = s.calm := by
  unfold State.previewCtu; try dsimp only
  repeat' split
  all_goals first | with_reducible rfl | simp
@[simp] theorem State.recompose_calm (s : State) (e : Fin 16) (j : Job) : (State.recompose s e j).calm = s.calm := by
  unfold State.recompose; try dsimp only
  repeat' split
  all_goals first | with_reducible rfl | simp
@[simp] theorem State.frameStart_calm (s : State) (e : Fin 16) (j : Job) : (State.frameStart s e j).calm = s.calm := by
  unfold State.frameStart; try dsimp only
  repeat' split
  all_goals first | with_reducible rfl | simp
@[simp] theorem State.endRun_calm (s : State) (e : Fin 16) : (State.endRun s e).calm = s.calm := by
  unfold State.endRun; try dsimp only
  repeat' split
  all_goals first | with_reducible rfl | simp
@[simp] theorem State.endSlot_calm (s : State) (e : Fin 16) : (State.endSlot s e).calm = s.calm := by
  unfold State.endSlot; try dsimp only
  repeat' split
  all_goals first | with_reducible rfl | simp
@[simp] theorem State.sourceBack_calm (s : State) (e : Fin 16) (j : Job) : (State.sourceBack s e j).calm = s.calm := by
  unfold State.sourceBack; try dsimp only
  repeat' split
  all_goals first | with_reducible rfl | simp
@[simp] theorem State.takeChange_calm (s : State) (e : Fin 16) (c : Ctx) (t : Nat) : (State.takeChange s e c t).calm = s.calm := by
  unfold State.takeChange; try dsimp only
  repeat' split
  all_goals first | with_reducible rfl | simp
@[simp] theorem State.control_calm (s : State) (e : Fin 16) (op addr : Nat) (desc : Option Nat) : (State.control s e op addr desc).1.calm = s.calm := by
  unfold State.control; try dsimp only
  repeat' split
  all_goals first
    | with_reducible rfl
    | (have h := congrArg (fun x => State.calm x.1) ‹State.reachWord s e _ _ _ = _›
       dsimp only at h; rw [State.reachWord_calm] at h; simp [h.symm])
    | simp
@[simp] theorem State.issueRead_calm (s : State) (e : Fin 16) (tag : Nat) (parts : List (Nat × Nat)) (d : DrDesc) : (State.issueRead s e tag parts d).calm = s.calm := by
  unfold State.issueRead; try dsimp only
  repeat' split
  all_goals first | with_reducible rfl | simp
@[simp] theorem State.issueWrite_calm (s : State) (e : Fin 16) (context cls address bytes : Nat) : (State.issueWrite s e context cls address bytes).1.calm = s.calm := by
  unfold State.issueWrite; try dsimp only
  repeat' split
  all_goals first | with_reducible rfl | simp
@[simp] theorem State.newTask_calm (s : State) (t : Task) : (State.newTask s t).calm = s.calm := by
  unfold State.newTask; try dsimp only
  repeat' split
  all_goals first | with_reducible rfl | simp
@[simp] theorem State.work_calm (s : State) (e : Fin 16) (f : CtuWork → CtuWork) : (State.work s e f).calm = s.calm := by
  unfold State.work; try dsimp only
  repeat' split
  all_goals first | with_reducible rfl | simp
@[simp] theorem State.putRec_calm (s : State) (e : Fin 16) (j : Job) (r : CtxRec) : (State.putRec s e j r).calm = s.calm := by
  unfold State.putRec; try dsimp only
  repeat' split
  all_goals first | with_reducible rfl | simp
@[simp] theorem State.modStat_calm (s : State) (j : Job) (frame : Nat) (f : FrameStat → FrameStat) : (State.modStat s j frame f).calm = s.calm := by
  unfold State.modStat; try dsimp only
  repeat' split
  all_goals first | with_reducible rfl | simp
@[simp] theorem State.adopt_calm (s : State) (e : Fin 16) (j : Job) : (State.adopt s e j).calm = s.calm := by
  unfold State.adopt; try dsimp only
  repeat' split
  all_goals first | rfl | simp
@[simp] theorem State.auPrefix_calm (s : State) (e : Fin 16) (j : Job) : (State.auPrefix s e j).calm = s.calm := by
  unfold State.auPrefix; try dsimp only
  repeat' split
  all_goals first | with_reducible rfl | simp
@[simp] theorem State.enterRow_calm (s : State) (e : Fin 16) (j : Job) : (State.enterRow s e j).calm = s.calm := by
  unfold State.enterRow; try dsimp only
  repeat' split
  all_goals first | with_reducible rfl | simp
@[simp] theorem State.frameTarget_calm (s : State) (e : Fin 16) (j : Job) : (State.frameTarget s e j).calm = s.calm := by
  unfold State.frameTarget; try dsimp only
  repeat' split
  all_goals first | with_reducible rfl | simp
@[simp] theorem State.setDecision_calm (s : State) (e : Fin 16) (j : Job) (r : CtxRec) (cause : Nat) (d : Decision) : (State.setDecision s e j r cause d).calm = s.calm := by
  unfold State.setDecision; try dsimp only
  repeat' split
  all_goals first | with_reducible rfl | simp
@[simp] theorem State.decisionPoint_calm (s : State) (e : Fin 16) (j : Job) (late : Bool) : (State.decisionPoint s e j late).calm = s.calm := by
  unfold State.decisionPoint; try dsimp only
  repeat' split
  all_goals first | with_reducible rfl | simp
@[simp] theorem State.addBits_calm (s : State) (e : Fin 16) (bits bins bypass latency : Nat) (normal : Bool) (ops : List Int) : (State.addBits s e bits bins bypass latency normal ops).calm = s.calm := by
  unfold State.addBits; try dsimp only
  repeat' split
  all_goals first | with_reducible rfl | simp
@[simp] theorem State.floorBin_calm (s : State) (e : Fin 16) (j : Job) : (State.floorBin s e j).calm = s.calm := by
  unfold State.floorBin; try dsimp only
  repeat' split
  all_goals first | with_reducible rfl | simp
@[simp] theorem State.openSlice_calm (s : State) (e : Fin 16) (j : Job) : (State.openSlice s e j).calm = s.calm := by
  unfold State.openSlice; try dsimp only
  repeat' split
  all_goals first | with_reducible rfl | simp
@[simp] theorem State.endFrame_calm (s : State) (e : Fin 16) (j : Job) : (State.endFrame s e j).calm = s.calm := by
  unfold State.endFrame; try dsimp only
  repeat' split
  all_goals first | with_reducible rfl | simp
@[simp] theorem State.endRow_calm (s : State) (e : Fin 16) (j : Job) : (State.endRow s e j).calm = s.calm := by
  unfold State.endRow; try dsimp only
  repeat' split
  all_goals first | with_reducible rfl | simp
@[simp] theorem State.stageQuad_calm (s : State) (e : Fin 16) (j : Job) (q : Nat) : (State.stageQuad s e j q).calm = s.calm := by
  unfold State.stageQuad; try dsimp only
  repeat' split
  all_goals first | with_reducible rfl | simp
@[simp] theorem State.stageCrf_calm (s : State) (e : Fin 16) (j : Job) : (State.stageCrf s e j).calm = s.calm := by
  unfold State.stageCrf; try dsimp only
  repeat' split
  all_goals first | with_reducible rfl | simp
@[simp] theorem State.dropRef_calm (s : State) (e : Fin 16) (j : Job) (t : Nat) : (State.dropRef s e j t).calm = s.calm := by
  unfold State.dropRef; try dsimp only
  repeat' split
  all_goals first | with_reducible rfl | simp
@[simp] theorem State.writeCrf_calm (s : State) (e : Fin 16) (j : Job) (address : Nat) : (State.writeCrf s e j address).calm = s.calm := by
  unfold State.writeCrf; try dsimp only
  repeat' split
  all_goals first | with_reducible rfl | simp
@[simp] theorem State.writeLevels_calm (s : State) (e : Fin 16) (j : Job) (address units : Nat) : (State.writeLevels s e j address units).calm = s.calm := by
  unfold State.writeLevels; try dsimp only
  repeat' split
  all_goals first | with_reducible rfl | simp
@[simp] theorem State.linkUnderTest_calm (s : State) (i : Fin 12) : (State.linkUnderTest s i).calm = s.calm := by
  unfold State.linkUnderTest; try dsimp only
  repeat' split
  all_goals first | with_reducible rfl | simp
@[simp] theorem State.linkAfterTest_calm (s : State) (i : Fin 12) : (State.linkAfterTest s i).calm = s.calm := by
  unfold State.linkAfterTest; try dsimp only
  repeat' split
  all_goals first | with_reducible rfl | simp
@[simp] theorem State.ringDoorbell_calm (s : State) (mb : Fin 8) (value : U32) (route : Nat) : (State.ringDoorbell s mb value route).calm = s.calm := by
  unfold State.ringDoorbell; try dsimp only
  repeat' split
  all_goals first | with_reducible rfl | simp
@[simp] theorem State.consume_calm (s : State) (mb : Fin 8) (value : U32) : (State.consume s mb value).calm = s.calm := by
  unfold State.consume; try dsimp only
  repeat' split
  all_goals first | with_reducible rfl | simp
@[simp] theorem State.askReset_calm (s : State) (mb : Fin 8) : (State.askReset s mb).calm = s.calm := by
  unfold State.askReset; try dsimp only
  repeat' split
  all_goals first | with_reducible rfl | simp
@[simp] theorem State.writeMbReg_calm (s : State) (mb : Fin 8) (r : Nat) (v : U32) (route : Nat) : (State.writeMbReg s mb r v route).calm = s.calm := by
  unfold State.writeMbReg; try dsimp only
  repeat' split
  all_goals first | with_reducible rfl | simp
@[simp] theorem State.writeRd_calm (s : State) (v : U32) : (s.writeRd v).calm = s.calm := rfl
@[simp] theorem State.writeHost_calm (s : State) (a : Nat) (v : U32) (route : Nat) : (State.writeHost s a v route).calm = s.calm := by
  unfold State.writeHost; try dsimp only
  repeat' split
  all_goals first | with_reducible rfl | simp
@[simp] theorem State.writeWords_calm (route a : Nat) (vs : List U32) (s : State) :
    (State.writeWords route a vs s).calm = s.calm := by
  induction vs generalizing a s with
  | nil => rfl
  | cons v vs ih => rw [State.writeWords, ih, State.writeHost_calm]
@[simp] theorem State.readQuad_calm (e : Fin 16) (s : State) (j : Job) (d : UnitDesc) : (State.readQuad e s j d).calm = s.calm := by
  unfold State.readQuad; try dsimp only
  repeat' split
  all_goals first | with_reducible rfl | simp
@[simp] theorem State.floorMode_calm (s : State) (e : Fin 16) (j : Job) : (State.floorMode s e j).calm = s.calm := by
  unfold State.floorMode; try dsimp only
  repeat' split
  all_goals first | with_reducible rfl | simp
@[simp] theorem State.floorIn_calm (s : State) (e : Fin 16) (j : Job) : (State.floorIn s e j).calm = s.calm := by
  unfold State.floorIn; try dsimp only
  repeat' split
  all_goals first | with_reducible rfl | simp
@[simp] theorem State.floorTq_calm (s : State) (e : Fin 16) (j : Job) : (State.floorTq s e j).calm = s.calm := by
  unfold State.floorTq; try dsimp only
  repeat' split
  all_goals first | with_reducible rfl | simp
@[simp] theorem State.floorRecon_calm (s : State) (e : Fin 16) (j : Job) : (State.floorRecon s e j).calm = s.calm := by
  unfold State.floorRecon; try dsimp only
  repeat' split
  all_goals first | with_reducible rfl | simp
@[simp] theorem State.filterQuad_calm (s : State) (e : Fin 16) (j : Job) (d : UnitDesc) (stage : Nat) (sets : List Int) : (State.filterQuad s e j d stage sets).calm = s.calm := by
  unfold State.filterQuad; try dsimp only
  repeat' split
  all_goals first | with_reducible rfl | simp
@[simp] theorem State.latchFilter_calm (s : State) (e : Fin 16) (j : Job) : (State.latchFilter s e j).calm = s.calm := by
  unfold State.latchFilter; try dsimp only
  repeat' split
  all_goals first | with_reducible rfl | simp
@[simp] theorem State.alfNote_calm (s : State) (e : Fin 16) (d : UnitDesc) : (State.alfNote s e d).calm = s.calm := by
  unfold State.alfNote; try dsimp only
  repeat' split
  all_goals first | with_reducible rfl | simp
@[simp] theorem State.remake_calm (s : State) (e : Fin 16) (j : Job) (c : CtuWork) (coded : Bool) : (State.remake s e j c coded).calm = s.calm := by
  unfold State.remake; try dsimp only
  refine (foldl_calm _ (fun t x => State.stageQuad_calm t e j x) _ _).trans ?_
  repeat' split
  all_goals simp
@[simp] theorem State.refloor_calm (s : State) (e : Fin 16) (j : Job) : (State.refloor s e j).calm = s.calm := by
  unfold State.refloor; try dsimp only
  repeat' split
  all_goals first | with_reducible rfl | simp
@[simp] theorem State.issue_calm (s : State) (e : Fin 16) (u op desc : Nat) : (State.issue s e u op desc).1.calm = s.calm := by
  unfold State.issue; try dsimp only
  repeat' split
  all_goals first
    | with_reducible rfl
    | (have h := congrArg (fun x => State.calm x.1) ‹State.reachWord s e _ _ _ = _›
       dsimp only at h; rw [State.reachWord_calm] at h; simp [h.symm])
    | simp
@[simp] theorem State.unit_calm (s : State) (e : Fin 16) (u op desc : Nat) (f : State → Job → UnitDesc → State)
    (hf : ∀ t j d, (f t j d).calm = t.calm) : (s.unit e u op desc f).calm = s.calm := by
  have hi := s.issue_calm e u op desc
  unfold State.unit
  split <;> next h => rw [h] at hi; simpa [hf] using hi
@[simp] theorem State.issueDma_calm (s : State) (e : Fin 16) (u desc : Nat) : (State.issueDma s e u desc).1.calm = s.calm := by
  unfold State.issueDma; try dsimp only
  repeat' split
  all_goals first
    | with_reducible rfl
    | (have h := congrArg (fun x => State.calm x.1) ‹State.reachWord s e _ _ _ = _›
       dsimp only at h; rw [State.reachWord_calm] at h; simp [h.symm])
    | simp
@[simp] theorem State.hardCtu_calm (s : State) (e : Fin 16) (j : Job) : (State.hardCtu s e j).calm = s.calm := by
  unfold State.hardCtu; try dsimp only
  simp
@[simp] theorem State.hardRow_calm (s : State) (e : Fin 16) (j : Job) : (State.hardRow s e j).calm = s.calm := by
  unfold State.hardRow; try dsimp only
  repeat' split
  all_goals first | with_reducible rfl | simp
@[simp] theorem State.hardSlot_calm (s : State) (e : Fin 16) (j : Job) : (State.hardSlot s e j).calm = s.calm := by
  unfold State.hardSlot; try dsimp only
  repeat' split
  all_goals first | with_reducible rfl | simp
@[simp] theorem State.applyRate_calm (s : State) (p : Production) (c : Ctx) (n : Nat) : (State.applyRate s p c n).calm = s.calm := by
  unfold State.applyRate; try dsimp only
  split
  · rfl
  · split
    · rfl
    · rw [State.raise_calm]
      split
      · simp
      · refine (foldl_calm _ (fun t x => ?_) _ _).trans ?_
        · (try dsimp only); (repeat' split) <;> first | rfl | simp
        · simp
@[simp] theorem State.sendRecord_calm (s : State) (p : Production) (c : Ctx) : (State.sendRecord s p c).calm = s.calm := by
  unfold State.sendRecord; try dsimp only
  split
  · rfl
  · split
    · rfl
    · split
      · simp
      · refine (foldl_calm _ (fun t x => ?_) _ _).trans ?_
        · (try dsimp only); (repeat' split) <;> first | rfl | simp
        · simp
@[simp] theorem State.contextMark_calm (s : State) (p : Production) (c : Ctx) (n : Nat) : (State.contextMark s p c n).calm = s.calm := by
  unfold State.contextMark; try dsimp only
  repeat' split
  all_goals first | with_reducible rfl | simp
@[simp] theorem State.rejectLine_calm (s : State) (link : Fin 12) (m : LineMsg) (q : Option Source) (cause : Nat) : (State.rejectLine s link m q cause).calm = s.calm := by
  unfold State.rejectLine; try dsimp only
  repeat' split
  all_goals first | with_reducible rfl | simp
@[simp] theorem State.acceptRate_calm (s : State) (c : Ctx) (h : RateChange) : (State.acceptRate s c h).1.calm = s.calm := by
  unfold State.acceptRate; try dsimp only
  repeat' split
  all_goals first | with_reducible rfl | simp
@[simp] theorem State.changeLayer_calm (s : State) (c : Ctx) (h : LayerChange) : (State.changeLayer s c h).1.calm = s.calm := by
  unfold State.changeLayer; try dsimp only
  repeat' split
  all_goals first | with_reducible rfl | simp
@[simp] theorem State.sendPreview_calm (s : State) (c : Ctx) (set : LayerSet) (link : Fin 12) (n line : Nat) : (State.sendPreview s c set link n line).calm = s.calm := by
  unfold State.sendPreview; try dsimp only
  repeat' split
  all_goals first | with_reducible rfl | simp
@[simp] theorem State.cueDdr_calm (s : State) (p : Production) : (State.cueDdr s p).calm = s.calm := by
  unfold State.cueDdr; try dsimp only
  repeat' split
  all_goals first | with_reducible rfl | simp
@[simp] theorem State.writeHalves_calm (s : State) (img : List Byte) : (State.writeHalves s img).calm = s.calm := by
  unfold State.writeHalves; try dsimp only
  repeat' split
  all_goals first | with_reducible rfl | simp
@[simp] theorem State.setQueue_calm (s : State) (q : Nat) (x : Queue) : (State.setQueue s q x).calm = s.calm := by
  rfl
@[simp] theorem State.setStrm_calm (s : State) (q : Nat) (x : StreamSt) : (State.setStrm s q x).calm = s.calm := by
  rfl
@[simp] theorem State.promote_calm (s : State) (q : Nat) : (State.promote s q).calm = s.calm := by
  unfold State.promote; try dsimp only
  repeat' split
  all_goals first | with_reducible rfl | simp
@[simp] theorem State.noteRow_calm (s : State) (q key : Nat) (i : Item) : (State.noteRow s q key i).calm = s.calm := by
  unfold State.noteRow; try dsimp only
  repeat' split
  all_goals first | with_reducible rfl | simp
@[simp] theorem State.putItem_calm (s : State) (q ago : Nat) (rowAt : Option Nat) (i : Item) : (State.putItem s q ago rowAt i).calm = s.calm := by
  unfold State.putItem; try dsimp only
  repeat' split
  all_goals first | with_reducible rfl | simp
@[simp] theorem State.addGap_calm (s : State) (q ago count bytes rtpSeq cause stamp : Nat) (rowAt : Option Nat) : (State.addGap s q ago count bytes rtpSeq cause stamp rowAt).calm = s.calm := by
  unfold State.addGap; try dsimp only
  repeat' split
  all_goals first | with_reducible rfl | simp
@[simp] theorem State.commitGap_calm (s : State) (q : Nat) : (State.commitGap s q).calm = s.calm := by
  unfold State.commitGap; try dsimp only
  repeat' split
  all_goals first | with_reducible rfl | simp
@[simp] theorem State.commitPacket_calm (s : State) (q ago : Nat) (rowAt : Option Nat) (rtpSeq : Nat) (i : Item) : (State.commitPacket s q ago rowAt rtpSeq i).calm = s.calm := by
  unfold State.commitPacket; try dsimp only
  repeat' split
  all_goals first | with_reducible rfl | simp
@[simp] theorem State.dispatchTo_calm (s : State) (t : Task) (l : Fin 16) : (State.dispatchTo s t l).calm = s.calm := by
  unfold State.dispatchTo; try dsimp only
  repeat' split
  all_goals first | with_reducible rfl | simp
@[simp] theorem State.setTask_calm (s : State) (t : Task) : (State.setTask s t).calm = s.calm := by
  rfl
@[simp] theorem State.setLadle_calm (s : State) (l : Fin 16) (x : Ladle) : (State.setLadle s l x).calm = s.calm := by
  rfl
@[simp] theorem State.completeTask_calm (s : State) (l : Fin 16) (t : Task) : (State.completeTask s l t).calm = s.calm := by
  unfold State.completeTask; try dsimp only
  repeat' split
  all_goals first | with_reducible rfl | simp
@[simp] theorem State.confirmTo_calm (s : State) (q : Nat) (seq : U32) : (State.confirmTo s q seq).calm = s.calm := by
  unfold State.confirmTo; try dsimp only
  repeat' split
  all_goals first | with_reducible rfl | simp
@[simp] theorem State.compareRow_calm (s : State) (c : Ctx) (frame : Nat) (r : RowRec) : (State.compareRow s c frame r).calm = s.calm := by
  unfold State.compareRow; try dsimp only
  repeat' split
  all_goals first | with_reducible rfl | simp
@[simp] theorem State.closeRowItems_calm (s : State) (q frame row : Nat) : (State.closeRowItems s q frame row).calm = s.calm := by
  unfold State.closeRowItems; try dsimp only
  repeat' split
  all_goals first | with_reducible rfl | simp
@[simp] theorem State.noteFloor_calm (s : State) (k : Slice) : (State.noteFloor s k).calm = s.calm := by
  unfold State.noteFloor; try dsimp only
  repeat' split
  all_goals first | with_reducible rfl | simp
@[simp] theorem State.endTask_calm (s : State) (l : Fin 16) (t : Task) : (State.endTask s l t).calm = s.calm := by
  unfold State.endTask; try dsimp only
  repeat' split
  all_goals first | with_reducible rfl | simp
@[simp] theorem State.abortPacket_calm (s : State) (l : Fin 16) (t : Task) (content : List Byte) (rest : List (List Byte)) : (State.abortPacket s l t content rest).calm = s.calm := by
  unfold State.abortPacket; try dsimp only
  repeat' split
  all_goals first | with_reducible rfl | simp
@[simp] theorem State.giveUp_calm (s : State) (l : Fin 16) (t : Task) : (State.giveUp s l t).calm = s.calm := by
  unfold State.giveUp; try dsimp only
  repeat' split
  all_goals first | with_reducible rfl | simp
@[simp] theorem State.buildPacket_calm (s : State) (l : Fin 16) (t : Task) (content : List Byte) (rest : List (List Byte)) : (State.buildPacket s l t content rest).calm = s.calm := by
  unfold State.buildPacket; try dsimp only
  repeat' split
  all_goals first | with_reducible rfl | simp
@[simp] theorem State.moveTail_calm (s : State) (q : Nat) : (State.moveTail s q).calm = s.calm := by
  unfold State.moveTail; try dsimp only
  repeat' split
  all_goals first | with_reducible rfl | simp
@[simp] theorem State.issueRefill_calm (s : State) (q : Nat) : (State.issueRefill s q).calm = s.calm := by
  unfold State.issueRefill; try dsimp only
  repeat' split
  all_goals first | with_reducible rfl | simp
@[simp] theorem State.backlogs_calm (s : State) : (State.backlogs s).calm = s.calm := by
  unfold State.backlogs; try dsimp only
  refine (foldl_calm _ (fun t x => ?_) _ _).trans ?_
  · (try dsimp only); (repeat' split) <;> first | rfl | simp
  · rfl
@[simp] theorem State.confirmLate_calm (s : State) : (State.confirmLate s).calm = s.calm := by
  unfold State.confirmLate; try dsimp only
  split
  · rfl
  · refine (foldl_calm _ (fun t x => ?_) _ _).trans ?_
    · (try dsimp only); (repeat' split) <;> first | rfl | simp
    · rfl
@[simp] theorem State.endDrain_calm (s : State) (q : Nat) : (State.endDrain s q).calm = s.calm := by
  unfold State.endDrain; try dsimp only
  repeat' split
  all_goals first | with_reducible rfl | simp
@[simp] theorem State.release_calm (s : State) (h : Head) : (State.release s h).calm = s.calm := by
  unfold State.release; try dsimp only
  repeat' split
  all_goals first | with_reducible rfl | simp
@[simp] theorem State.refill_calm (n micro : Nat) (s : State) (q : Nat) : (State.refill n micro s q).calm = s.calm := by
  unfold State.refill; try dsimp only
  repeat' split
  all_goals first | with_reducible rfl | simp
@[simp] theorem State.takeAck_calm (s : State) (q : Nat) (epoch : U16) (next : U32) : (State.takeAck s q epoch next).calm = s.calm := by
  unfold State.takeAck; try dsimp only
  repeat' split
  all_goals first | with_reducible rfl | simp
@[simp] theorem State.ackEpoch_calm (s : State) (epoch : U16) : (State.ackEpoch s epoch).calm = s.calm := by
  unfold State.ackEpoch; try dsimp only
  repeat' split
  all_goals first | with_reducible rfl | simp
@[simp] theorem State.holdLink_calm (s : State) (i : Fin 12) : (State.holdLink s i).calm = s.calm := by
  unfold State.holdLink; try dsimp only
  repeat' split
  all_goals first | with_reducible rfl | simp
@[simp] theorem State.holdLinks_calm (s : State) : (State.holdLinks s).calm = s.calm := by
  unfold State.holdLinks; exact foldl_calm _ (fun t x => by simp) _ _
@[simp] theorem State.repairItems_calm (s : State) (a : ItemAsk) (rtpSeq : Nat) : (State.repairItems s a rtpSeq).calm = s.calm := by
  unfold State.repairItems; try dsimp only
  repeat' split
  all_goals first | with_reducible rfl | simp
@[simp] theorem State.modRecord_calm (s : State) (c : Ctx) (t : Nat) (f : CtxRec → CtxRec) : (State.modRecord s c t f).calm = s.calm := by
  unfold State.modRecord; try dsimp only
  repeat' split
  all_goals first | with_reducible rfl | simp
@[simp] theorem State.swapCtx_calm (base : Option Production) (p : Production) (cue : Nat) (s : State) (c : Ctx) : (State.swapCtx base p cue s c).calm = s.calm := by
  unfold State.swapCtx; try dsimp only
  repeat' split
  all_goals first | with_reducible rfl | simp
@[simp] theorem State.leaveCtx_calm (p : Production) (s : State) (c : Ctx) : (State.leaveCtx p s c).calm = s.calm := by
  unfold State.leaveCtx; try dsimp only
  repeat' split
  all_goals first | with_reducible rfl | simp
@[simp] theorem State.storeRecords_calm (s : State) : (State.storeRecords s).calm = s.calm := by
  unfold State.storeRecords; try dsimp only
  split
  · rfl
  · refine (foldl_calm _ (fun t x => ?_) _ _).trans ?_
    · refine (foldl_calm _ (fun t x => ?_) _ _).trans ?_
      · (try dsimp only); (repeat' split) <;> first | rfl | simp
      · rfl
    · rfl
@[simp] theorem State.entryWrites_calm (s : State) : s.entryWrites.calm = s.calm :=
  (State.storeRecords_calm _).trans (foldl_calm _ (fun t q => State.commitGap_calm t q) _ _)
@[simp] theorem State.loadRecords_calm (p : Production) (s : State) : (State.loadRecords p s).calm = s.calm := by
  unfold State.loadRecords; try dsimp only
  refine (foldl_calm _ (fun t x => ?_) _ _).trans ?_
  · refine (foldl_calm _ (fun t x => ?_) _ _).trans ?_
    · (try dsimp only); (repeat' split) <;> first | rfl | simp
    · rfl
  · rfl
@[simp] theorem State.swapQueue_calm (p : Production) (s : State) (e : QEntry) : (State.swapQueue p s e).calm = s.calm := by
  unfold State.swapQueue; try dsimp only
  repeat' split
  all_goals first | with_reducible rfl | simp
@[simp] theorem State.drainQueue_calm (p : Production) (s : State) (q : Nat) : (State.drainQueue p s q).calm = s.calm := by
  unfold State.drainQueue; try dsimp only
  repeat' split
  all_goals first | with_reducible rfl | simp
@[simp] theorem State.swapFlow_calm (p : Production) (cue : Nat) (s : State) : (State.swapFlow p cue s).calm = s.calm := by
  unfold State.swapFlow; try dsimp only
  simp
@[simp] theorem State.swapLink_calm (p : Production) (s : State) (i : Fin 12) : (State.swapLink p s i).calm = s.calm := by
  unfold State.swapLink; try dsimp only
  repeat' split
  all_goals first | with_reducible rfl | simp
@[simp] theorem State.closeAll_calm (s : State) : (State.closeAll s).calm = s.calm := by
  unfold State.closeAll; try dsimp only
  refine (foldl_calm _ (fun t x => ?_) _ _).trans ?_
  · refine (foldl_calm _ (fun t x => ?_) _ _).trans ?_
    · refine (foldl_calm _ (fun t x => ?_) _ _).trans ?_
      · split
        · refine (foldl_calm _ (fun t x => ?_) _ _).trans ?_
          · refine (foldl_calm _ (fun t x => ?_) _ _).trans ?_
            · simp
            · rfl
          · rfl
        · rfl
      · rfl
    · rfl
  · rfl
@[simp] theorem State.replay_calm (s : State) (b : BootInputs) : (State.replay s b).calm = s.calm := by
  unfold State.replay; dsimp only
  rw [State.raiseAll_calm]
  have h1 : ∀ l, (List.foldl (State.replayRec b.badCpls) (s, 0) l).1.calm = s.calm := fun l => by
    refine (foldl_calm_fst _ (fun t r => ?_) _ _).trans rfl
    unfold State.replayRec; dsimp only
    repeat' split
    all_goals first | rfl | simp
  rw [← h1]
  simp only [calm_mk]
  rfl
@[simp] theorem State.bootError_calm (s : State) (code : Nat) : (State.bootError s code).calm = s.calm := by
  unfold State.bootError; try dsimp only
  repeat' split
  all_goals first | with_reducible rfl | simp
@[simp] theorem State.bootLinks_calm (s : State) : (State.bootLinks s).calm = s.calm := by
  unfold State.bootLinks; try dsimp only
  repeat' split
  all_goals first | with_reducible rfl | simp
@[simp] theorem State.romLink_calm (s : State) : (State.romLink s).calm = s.calm := by
  unfold State.romLink; try dsimp only
  repeat' split
  all_goals first | with_reducible rfl | simp
@[simp] theorem State.selftest_calm (s : State) (b : BootInputs) : (State.selftest s b).1.calm = s.calm := by
  unfold State.selftest; simp
@[simp] theorem State.sigRefused_calm (s : State) (opcode object status : Nat) : (State.sigRefused s opcode object status).calm = s.calm := by
  unfold State.sigRefused; try dsimp only
  repeat' split
  all_goals first | with_reducible rfl | simp
@[simp] theorem State.curtainRefused_calm (s : State) (opcode status : Nat) : (State.curtainRefused s opcode status).1.calm = s.calm := by
  unfold State.curtainRefused; try dsimp only
  repeat' split
  all_goals first | with_reducible rfl | simp
theorem State.landWord_calm (s : State) (port word : Nat) (poison : Bool) :
    ∃ a, (s.landWord port word poison).calm = ({ s with audio := a } : State).calm := by
  unfold State.landWord; dsimp only
  repeat' split
  all_goals first | exact ⟨_, rfl⟩ | exact ⟨s.audio, rfl⟩
/-- What a read brings changes an output port's words, and nothing else of the calm part. -/
theorem State.landed_calm (s : State) (serves : ReadFor) (poison : Bool) :
    ∃ a, (State.landed s serves poison).calm = ({ s with audio := a } : State).calm := by
  unfold State.landed
  split
  · exact ⟨s.audio, rfl⟩
  · exact ⟨s.audio, rfl⟩
  · exact ⟨s.audio, by split <;> rfl⟩
  · exact ⟨s.audio, by simp⟩
  · exact State.landWord_calm _ _ _ _
  · split
    · exact ⟨s.audio, rfl⟩
    · exact ⟨s.audio, rfl⟩
@[simp] theorem State.orderTraining_calm (s : State) (i : Fin 12) : (State.orderTraining s i).calm = s.calm := by
  unfold State.orderTraining; try dsimp only
  repeat' split
  all_goals first | with_reducible rfl | simp
@[simp] theorem State.setChecker_calm (s : State) (link : Fin 12) (t : PatTest) (lane : Fin 4) (c : Checker) : (State.setChecker s link t lane c).calm = s.calm := by
  rfl
@[simp] theorem State.closeSession_calm (s : State) (cause : Nat) : (State.closeSession s cause).calm = s.calm := by
  unfold State.closeSession; try dsimp only
  repeat' split
  all_goals first | with_reducible rfl | simp
@[simp] theorem State.openSession_calm (s : State) (minor : Nat) : (State.openSession s minor).calm = s.calm := by
  unfold State.openSession; try dsimp only
  repeat' split
  all_goals first | with_reducible rfl | simp
@[simp] theorem State.resumeQueues_calm (s : State) : (State.resumeQueues s).1.calm = s.calm := by
  unfold State.resumeQueues; dsimp only
  refine (foldl_calm_fst _ (fun t q => ?_) _ _).trans rfl
  dsimp only; repeat' split
  all_goals first | rfl | simp
@[simp] theorem State.restartQueues_calm (s : State) : (State.restartQueues s).1.calm = s.calm := by
  unfold State.restartQueues
  refine (foldl_calm_fst _ (fun t q => ?_) _ _).trans rfl
  repeat' split
  all_goals first | rfl | simp
@[simp] theorem State.dropUnrepaired_calm (s : State) : (State.dropUnrepaired s).calm = s.calm := by
  unfold State.dropUnrepaired; try dsimp only
  rw [State.raiseAll_calm]; simp only [calm_mk, calm_eta]
  refine (foldl_calm _ (fun t x => ?_) _ _).trans ?_
  · (try dsimp only); (repeat' split) <;> first | rfl | simp
  · rfl
@[simp] theorem State.sweepAll_calm (s : State) : (State.sweepAll s).calm = s.calm := by
  unfold State.sweepAll; try dsimp only
  repeat' split
  all_goals first | with_reducible rfl | simp
@[simp] theorem State.lead_calm (s : State) : (State.lead s).calm = s.calm := by
  unfold State.lead; try dsimp only
  repeat' split
  all_goals first | with_reducible rfl | simp
@[simp] theorem State.heartbeatBack_calm (s : State) : (State.heartbeatBack s).calm = s.calm := by
  unfold State.heartbeatBack; try dsimp only
  split
  · simp
  · simp
@[simp] theorem State.takePos_calm (s : State) (e : PosEntry) : (State.takePos s e).calm = s.calm := by
  unfold State.takePos; try dsimp only
  repeat' split
  all_goals first | with_reducible rfl | simp
@[simp] theorem State.copyItem_calm (s : State) (queue : Nat) (it : Item) (rtpSeq : Nat) : (State.copyItem s queue it rtpSeq).calm = s.calm := by
  unfold State.copyItem; try dsimp only
  repeat' split
  all_goals first | with_reducible rfl | simp
@[simp] theorem State.endRowAsk_calm (s : State) (context frameCount row : Nat) : (State.endRowAsk s context frameCount row).calm = s.calm := by
  unfold State.endRowAsk; try dsimp only
  repeat' split
  all_goals first | with_reducible rfl | simp

end Sys2Proof.Machine
end

