-- ==== Sys2Proof/Laws/Lines.lean ====
section
/-! SUPPORT. The line coding (R296 to R298): the receiver reads out of a slot the data bits that the sender stuffed into it, finds
no violation, and ends in the sender's stuffing state. -/

namespace Sys2Proof.Machine

/-- What a receiver has read of the line bits that a sender has formed in its slot. -/
def readBack (r t : LineSt) : LineSt × List Bool × Nat := t.slot.reverse.foldl readBit (r, [], 0)

/-- A receiver follows a sender: it has the data bits `d`, newest first, no violation, and the sender's state. -/
def Follows (r t : LineSt) (d : List Bool) : Prop := t.run < 6 ∧ readBack r t = ({ t with slot := [] }, d, 0)

theorem follows_stuffBit {r t : LineSt} {d : List Bool} (b : Bool) (hd : d.length < 128) (h : Follows r t d) :
    Follows r (stuffBit t b) (b :: d) := by
  obtain ⟨hr, h⟩ := h
  have h7 : t.run ≠ 6 := by omega
  unfold Follows readBack at *
  by_cases hb : b = t.prev
  · subst hb
    by_cases h5 : t.run = 5
    · simp [stuffBit, h5, List.foldl_append, h, readBit, hd]
    · simp [stuffBit, h5, List.foldl_append, h, readBit, hd, h7]
      omega
  · simp [stuffBit, hb, List.foldl_append, h, readBit, hd, h7]

theorem follows_stuffBits {r : LineSt} (w : BitVec 128) : ∀ (n : Nat) (t : LineSt) (d : List Bool), d.length + n = 128 →
    Follows r t d →
    Follows r (stuffBits n t w) (((List.range n).map (fun k => w.getLsbD (d.length + k))).reverse ++ d)
  | 0, t, d, _, h => by simpa [stuffBits] using h
  | n + 1, t, d, hn, h => by
    have e : 127 - n = d.length := by omega
    have s := follows_stuffBits w n _ _ (by simp; omega) (follows_stuffBit (w.getLsbD (127 - n)) (by omega) h)
    have f : (fun k => w.getLsbD (d.length + k)) ∘ Nat.succ = fun k => w.getLsbD ((w.getLsbD (127 - n) :: d).length + k) := by
      funext k
      simp only [Function.comp, List.length_cons]
      congr 1
      omega
    rw [List.range_succ_eq_map, List.map_cons, List.map_map, f]
    simpa [stuffBits, e] using s

/-- A slot's data bits come out of it as they went in, with no violation, and receiver and sender go on alike (R296, R298). -/
theorem readSlot_stuffSlice (t : LineSt) (w : BitVec 128) :
    readSlot { t with slot := [], stuffed := 0 } (stuffSlice t w).slot.reverse
      = ({ stuffSlice t w with slot := [] }, ((List.range 128).map w.getLsbD).reverse, 0) := by
  have h := (follows_stuffBits (r := { t with run := min t.run 3, slot := [], stuffed := 0 }) w 128
    { t with run := min t.run 3, slot := [], stuffed := 0 } [] rfl ⟨by simp, rfl⟩).2
  simpa [readBack, readSlot, stuffSlice] using h

end Sys2Proof.Machine
end

