-- ==== Sys2Proof/WellFormed.lean ====
section
/-! DEFINITION. Which commands are well formed: each field fits the width that the spec's layout gives it, and each list
has the length that its layout fixes. A meaning does not assume it; the checks say which terms stand for a happening that
a sender can make. -/

namespace Sys2Proof

/-- A number fits n bits. -/
def fits (n x : Nat) : Bool := decide (x < 2 ^ n)

/-- A signed number fits n bits, in two's complement. -/
def fitsInt (n : Nat) (x : Int) : Bool := decide (-(2 : Int) ^ (n - 1) ≤ x) && decide (x < (2 : Int) ^ (n - 1))

/-- The header's fields (R472). -/
def Hdr.wf (h : Hdr) : Bool := fits 8 h.major && fits 8 h.minor && fits 32 h.tag && fits 32 h.length

/-- What DDR5 training meets (R415, R417, R431). -/
def DdrFound.wf (f : DdrFound) : Bool :=
  f.fitted.all (fun c => decide (c < 6)) && decide f.fitted.Nodup && decide (1 ≤ f.ranks ∧ f.ranks ≤ 2) && decide (f.density ≤ 2)
    && f.caFail.all (fun c => decide (c < 12))
    && f.dataFail.all (fun x => decide (x.1 < 12) && decide (x.2.1 < 2) && decide (x.2.2 < 10))

/-- What the boot ROM meets (R453, R457, R544): distinct memories, BOOTSEL of three bits. -/
def BootInputs.wf (b : BootInputs) : Bool :=
  fits 3 b.bootsel && decide (b.sramFails.map (·.id)).Nodup && fits 32 b.selftestUs && b.ddr.wf && fits 16 b.vcoreMv
    && fits 32 b.bootMs

/-- A LINE body (R348). -/
def LineMsg.wf (m : LineMsg) : Bool :=
  fits 16 m.source && fits 16 m.frameCount && fits 16 m.line && fits 16 m.firstPixel && fits 16 m.pixelCount && fits 8 m.format

/-- An AUDIO body (R351): one sample per channel in each frame, of 24 bits. -/
def AudioMsg.wf (m : AudioMsg) : Bool :=
  fits 16 m.firstChannel && fits 8 m.channelCount && fits 8 m.rate && fits 64 m.index
    && m.frames.all (fun f => decide (f.length = m.channelCount) && f.all (fitsInt 24))

/-- A BEAT body (R489). -/
def BeatMsg.wf (m : BeatMsg) : Bool :=
  fits 8 m.role && fits 8 m.readiness && fits 8 m.mode && fits 32 m.production && fits 64 m.tSend && fits 64 m.tEcho
    && fits 64 m.tEchoRecv

/-- A HEALTH body (R489). -/
def HealthMsg.wf (m : HealthMsg) : Bool :=
  fits 8 m.role && fits 8 m.readiness && fits 32 m.unrepaired && fits 32 m.compared && fits 32 m.divergent && fits 32 m.repaired
    && fitsInt 32 m.offsetNs && decide (m.curtain.length = 32) && fits 32 m.generation

/-- A twin HELLO body (R489). -/
def HelloMsg.wf (m : HelloMsg) : Bool :=
  decide (m.fingerprint.length = 32) && fits 64 m.serial && fits 8 m.stepping && fits 16 m.engineUcode && fits 16 m.ladleUcode
    && decide (m.imageSha.length = 32) && fits 8 m.version

/-- A queue number (R260). -/
def queueNo (q : Nat) : Bool := decide (q < 576)

/-- An item (R261): a packet or a gap marker. -/
def Item.wf (i : Item) : Bool := decide (i.kind = 1 ∨ i.kind = 2) && fits 64 i.release && fits 16 i.payload.length

/-- A FRAME_RECORD body (R493): lists by row and by CTU column have their fixed lengths. -/
def FrameRec.wf (r : FrameRec) : Bool :=
  decide (r.context < 512) && decide (r.rows ≤ 128) && fits 32 r.frameCount && fits 32 r.production
    && decide (r.lx.length = 128) && decide (r.qpRowPrev.length = 128) && decide (r.digests.length = r.rows)

/-- A ROW_RECORD body (R494). -/
def RowRec.wf (r : RowRec) : Bool :=
  decide (r.queue < 512) && decide (r.row < 128) && fits 32 r.frameCount && fits 16 r.count && fits 32 r.bitstream && fits 32 r.recon

/-- A ROW_DATA body (R499). -/
def RowDataMsg.wf (m : RowDataMsg) : Bool :=
  decide (m.context < 512) && fits 32 m.frameCount && decide (m.row < 128) && fits 16 m.ctu

/-- A context number (R31). -/
def contextNo (c : Nat) : Bool := decide (c < 512)

/-- A rectangle's fields (R195). -/
def Rect.wf (r : Rect) : Bool := fits 16 r.x && fits 16 r.y && fits 16 r.w && fits 16 r.h

/-- The fields of CANDIDATE_SET. -/
def CandSet.wf (f : CandSet) : Bool :=
  fits 8 f.rank && fits 16 f.window && fits 32 f.nominal && fits 16 f.gate && fits 16 f.phaseHit && fits 16 f.wtr

/-- The fields of DPLL_SET. -/
def DpllSettings.wf (f : DpllSettings) : Bool :=
  fits 8 f.bandwidth && fits 8 f.revertive && fits 8 f.phaseMode && fits 8 f.timeSteer && fits 32 f.clampNs && fits 32 f.lockNs
    && fits 16 f.pullRange && fits 32 f.freqRate && fits 32 f.phaseSlew && fits 16 f.holdTau && fitsInt 64 f.xoTrim

/-- The fields of CUE_OUTPUT. -/
def CueOut.wf (f : CueOut) : Bool :=
  fits 8 f.level && fits 16 f.context && fits 64 f.start && fits 32 f.width && fits 32 f.period && fitsInt 64 f.offset

/-- The fields of CUE_CONFIG. -/
def CueCfg.wf (f : CueCfg) : Bool :=
  fits 8 f.direction && fits 8 f.active && fits 8 f.mode && fits 16 f.holdoff && fits 32 f.stuck

/-- Two counts of one byte each, as the status commands carry them. -/
def bytes2 (a b : Nat) : Bool := fits 8 a && fits 8 b

/-- A command is well formed. -/
def Instr.wf (i : Instr) : Bool :=
  match i with
  | .powerOnReset | .warmResetEntry | .watchdogExpiry | .lockstepMismatch | .warmEntrySave | .firmwareInitTimeout => true
  | .coldReset _ => true
  | .resetRelease b | .warmBoot b | .bootLoad _ b => b.wf
  | .frameMark source => decide (source < 128)
  | .line _ m => m.wf
  | .windowClose context tile row => contextNo context && decide (tile < 4) && decide (row < 128)
  | .slotStart _ slot => decide (slot < 1024)
  | .sqCall _ a d | .sqLoop _ a d | .sqMark _ a d | .sqChg _ a d | .sqLate _ a d => fits 16 a && fits 16 d
  | .sqRet _ a | .sqEndloop _ a | .sqEnd _ a => fits 16 a
  | .markTargetReached _ | .derComplete _ | .substitution _ | .segmentOpen _ | .segmentClose _ => true
  | .inRdq _ d | .inFsq _ d | .inFlr _ d | .svLvl _ d | .svExp _ d | .mcCrs _ d | .mfQrf _ d | .ipEst _ d | .mdSel _ d
  | .mdFlr _ d | .tqFwd _ d | .tqFlr _ d | .iqRec _ d | .iqFlr _ d | .lfDbk _ d | .lfSao _ d | .alAlf _ d | .alDer _ d
  | .bnBin _ d | .bnSlh _ d | .bnFlr _ d | .bnEos _ d | .rwCrf _ d | .drRd _ d | .dwWr _ d => fits 16 d
  | .cueEccFault _ memory address .single => decide (memory < 3) && fits 16 address
  | .cueEccFault _ memory address (.double _) => decide (memory < 2) && fits 16 address
  | .taskDispatch | .eventTask | .egressSelect | .shaperRefill | .gateEntryChange | .eventNotify => true
  | .affinityWaitExpiry stream => queueNo stream
  | .packetCommit _ | .ladleFault _ _ => true
  | .gapMarkerCommit q | .stockpotMove q | .stockpotRefillLand q _ => queueNo q
  | .egressAck _ q _ _ => queueNo q
  | .flitReceive _ _ v _ => v.all (fun x => decide (x.2 < 128))
  | .flitSend _ | .replayTimeout _ | .creditStarved _ _ | .ckLost _ | .trainingBlock _ _ _ _ | .partnerCkDetect _
  | .clockLock _ | .verifyPass _ | .capability _ _ | .trainingLimitExpiry _ | .linkActive _ | .darkRetry _ => true
  | .deskew _ aligned => decide aligned.Nodup
  | .adaptEnd _ trained => decide (trained.map (·.1)).Nodup && trained.all (fun x => decide (x.2.taps.length = 5))
  | .eyeDone _ counts => counts.all (fits 32)
  | .patternLock _ _ => true
  | .patternLockLost _ _ errors bits => decide (errors ≤ bits)
  | .regRead _ tag address count => fits 8 tag && fits 32 address && fits 16 count
  | .regWrite _ tag address count words => fits 8 tag && fits 32 address && fits 16 count && fits 16 words.length
  | .timeOfDay _ second _ => fits 64 second
  | .audio _ m => m.wf
  | .ancillary _ channel stamp payload => fits 16 channel && fits 64 stamp && fits 16 payload.length
  | .graphicWrite _ pair offset data => fits 16 pair && fits 32 offset && fits 16 data.length
  | .graphicCommitPacket _ pair => fits 16 pair
  | .contentLatch context => contextNo context
  | .graphicReleased pair => fits 16 pair
  | .previewLineSend context row => contextNo context && fits 16 row
  | .curtainNEdge _ | .curtainCopy => true
  | .audioFrame _ inputs =>
    decide (inputs.map (·.port)).Nodup
  | .audioPcmResumed link pair => decide (pair < if link then 128 else 32)
  | .audioChangeApply route | .audioChangeTimeout route => fits 16 route
  | .linkSampleWindowClose channel index => decide (channel < 256) && fits 64 index
  | .audioRestarted _ | .audioClockStop _ | .swapping | .swap => true
  | .refreshWindow | .zqCalibration => true
  | .mr4Read _ rank code configured => decide (rank < 2) && decide (code < 8) && decide (configured < 8)
  | .ddrSchedule _ | .ddrAlert _ => true
  | .ddrWriteRequest _ address data => fits 40 address && decide (address % 64 = 0) && decide (data.length % 64 = 0)
  | .ddrReadReturn _ _ err | .patrolScrub _ err =>
    decide (err.synd.length = 16) && err.comps.all (fun x => decide (x.1 < 10) && decide (x.2 ≤ 16))
  | .ppsEdge sub => decide (sub < 1250)
  | .ppsLost | .rootUnlock | .rootLock | .activityLoss _ | .candidateActivityReturn _ | .waitToRestore _ | .lockAcquired => true
  | .gateEnd _ offset => fitsInt 64 offset
  | .phaseComparison _ phase _ => fitsInt 64 phase
  | .switchEnd phase => fitsInt 64 phase
  | .historySample y => fitsInt 64 y
  | .refPins _ _ | .evtRdWrite _ | .cueEdge _ _ | .cueStuck _ | .cueReleased _ | .cueOutputEdge _ _ => true
  | .arbHbToggle | .heartbeatServiceTimeout | .takeover | .demotion | .beatSend | .twinHeartbeatLost | .orphanTimeout
  | .healthSend | .twinHelloSend | .positionsSend => true
  | .beat m => m.wf
  | .health m => m.wf
  | .twinHello m => m.wf
  | .positions entries => entries.all (fun x => queueNo x.queue)
  | .ackHoldExpiry q => queueNo q
  | .frameRecord r => r.wf
  | .rowRecord r => r.wf
  | .confirm q _ => queueNo q
  | .itemRequest q _ count => queueNo q && fits 16 count
  | .item q i rtpSeq => queueNo q && i.wf && fits 16 rtpSeq
  | .rowRequest context frame row _ => contextNo context && fits 32 frame && decide (row < 128)
  | .rowData m => m.wf
  | .blockRequest context block => contextNo context && decide (block < 16)
  | .blockData context block content => contextNo context && decide (block < 16) && decide (content.length ≤ 512) && content.all (fitsInt 64)
  | .journalHeadWrite => true
  | .thermalSample _ reading => fitsInt 16 reading
  | .supplySample _ mV => fits 16 mV
  | .doorbell _ _ route => decide (route ≤ 12)
  | .cplRdWrite _ _ | .mailboxReset _ | .intStatusWrite _ => true
  | .hostWindowWrite address _ => decide (address < 0x10000) && decide (address % 4 = 0)
  | .spiTransaction op => (match op with
    | .write address data => fits 32 address && fits 16 data.length
    | .read address words => fits 32 address && fits 16 words)
  | .spiStatus => true
  | .hello h a b c d => h.wf && fits 8 a && fits 8 b && fits 8 c && fits 32 d
  | .goodbye h | .identify h | .productionCheck h | .productionAbort h | .productionStatus h | .curtainInstall h
  | .curtainStatus h | .clockStatus h | .dpllClose h | .houseTimeStatus h | .ddrStatus h | .twinStatus h | .twinUnpair h
  | .telemetry h | .selftestReport h => h.wf
  | .mbConfig h depths => h.wf && decide (depths.length = 8) && depths.all (fits 8)
  | .echo h data => h.wf && decide (data.length ≤ 224)
  | .certRead h o l | .ownerKeyLoad h o l | .debugToken h o l | .fuseProgram h o l => h.wf && fits 32 o && fits 32 l
  | .attest h nonce o => h.wf && decide (nonce.length = 32) && fits 32 o
  | .productionLoad h i l o => h.wf && fits 32 i && fits 32 l && fits 32 o
  | .productionCue h request => h.wf && fits 64 request
  | .contextRateSet h c sel r => h.wf && fits 16 c && fits 8 sel && fits 32 r
  | .contextQpLimitsSet h c lo hi => h.wf && fits 16 c && fitsInt 8 lo && fits 8 hi
  | .layerGeometrySet h c l dst src => h.wf && fits 16 c && fits 8 l && dst.wf && src.wf
  | .layerOpacitySet h c l o => h.wf && fits 16 c && fits 8 l && fits 16 o
  | .graphicCommit h p => h.wf && fits 16 p
  | .layerStatus h c | .contextStatus h c => h.wf && fits 16 c
  | .curtainStage h o data => h.wf && fits 32 o && decide (data.length ≤ 232)
  | .curtainDrop h q f g | .curtainRaise h q f g =>
    h.wf && fits 64 q && decide (f.length = 32) && decide (g.length = 384)
  | .audioGainSet h r g => h.wf && fits 16 r && fits 16 g
  | .audioMuteSet h r m => h.wf && fits 16 r && fits 8 m
  | .audioPortRestart h p | .audioStatus h p | .linkStatus h p | .patternStop h p | .linkProtocol h p | .ddrErrorLog h p
  | .ddrChecksEnable h p => h.wf && fits 8 p
  | .egressShaperSet h q r => h.wf && fits 16 q && fits 32 r
  | .linkRetrain h l m => h.wf && bytes2 l m
  | .linkTxSet h l p => h.wf && fits 8 l && decide (p.length = 4) && p.all (fits 8)
  | .linkGuardSet h l a b c d e => h.wf && bytes2 l a && bytes2 b c && bytes2 d e
  | .eyeScan h l a k o => h.wf && bytes2 l a && fits 8 k && fits 32 o
  | .patternStart h l p m a _ => h.wf && bytes2 l p && bytes2 m a
  | .patternRead h l seen => h.wf && fits 8 l && seen.all (fun x => decide (x.2 ≤ x.1))
  | .patternInject h l a m k => h.wf && bytes2 l a && bytes2 m k
  | .candidateStatus h a b | .ddrSubchannelStatus h a b | .ddrPortStatus h a b | .engineStatus h a b => h.wf && bytes2 a b
  | .candidateSet h c f => h.wf && fits 8 c && f.wf
  | .dpllSet h f => h.wf && f.wf
  | .dpllSoftware h w => h.wf && fitsInt 64 w
  | .dpllNudge h ns => h.wf && fitsInt 32 ns
  | .clockHistoryClear h a b => h.wf && fits 8 a && fits 16 b
  | .houseTimeSet h m t => h.wf && fits 8 m && fits 64 t
  | .houseTimeAlarmSet h a => h.wf && fits 32 a
  | .ddrMark h a b c d => h.wf && bytes2 a b && bytes2 c d
  | .ddrScrubSet h p t => h.wf && fits 16 p && fits 16 t
  | .twinPair h f => h.wf && decide (f.length = 32)
  | .queueStatus h a b | .eventSourceStatus h a b => h.wf && fits 16 a && fits 16 b
  | .eventMaskSet h a b e => h.wf && fits 16 a && fits 16 b && fits 8 e
  | .cueConfig h p f => h.wf && fits 8 p && f.wf
  | .cueOutput h p f => h.wf && fits 8 p && f.wf
  | .cueStatus h a b c => h.wf && bytes2 a b && fits 8 c
  | .cuConfig h u p => h.wf && bytes2 u p
  | .cuFeed h u s l o _ _ => h.wf && bytes2 u s && fits 32 l && fits 32 o
  | .cuRead h u _ => h.wf && fits 8 u
  | .cuWrite h u _ => h.wf && fits 8 u
  | .testLogicReset | .idcode | .samplePreload _ | .extest | .highz | .clamp | .extestPulse | .extestTrain | .bypass => true

end Sys2Proof
end

