-- ==== Sys2Proof/Tests/Slice0.lean ====
section
/-! SUPPORT. The model's own tests: ill-formed terms, values that the spec's text and tables give, and for every statement
with hypotheses a state and operands that meet them, clause by clause. -/

namespace Sys2Proof.Tests

-- one proof after another: a kernel evaluation waits for every proof before it
set_option Elab.async false

open Sys2Proof Sys2Proof.Machine Sys2Proof.Safety

/-! ### Small states -/

/-- A header on mailbox n with a payload length. -/
def hd (n : Fin 8) (length : Nat) : Hdr := ⟨n, 1, 2, 7, length⟩

/-- READY, with a session at minor 2 and 20 entries in each command ring. -/
def up : State :=
  { State.reset with
    boot := { phase := .running, state := 8 }
    host := { sess := some 2, mbs := Vector.replicate 8 { cmdWr := 20 } } }

/-- A context of one tile: 128 by 128 pixels at 50 frames per second. -/
def ctx0 : Ctx := { context := 0, source := 0, engineMask := 1, width := 128, height := 128, totalLines := 128, rateNum := 50, slotEnd := 1000 }

/-- An engine's tables: two words that issue nothing, one descriptor for every unit, and one slot. -/
def tab0 : EngineTab :=
  { cycleNum := 1, cycleDen := 50, slots := [{ nCtu := 2, phi := 4800, thetaF := 9600, thetaR := 10 }]
    programs := [{ entry := 0, words := 2 }], words := [{}, {}]
    units := List.replicate 12 [{}], dr := [{ cls := 2, dest := 0 }]
    dw := [{ cls := 0 }, { cls := 1 }, { cls := 2 }], sq := [{ target := 1, alt := 1 }] }

/-- A production with a little of everything. -/
def prod0 : Production :=
  { id := 9, descr := { twinMode := 1 }
    sources := [{ source := 0, links := [1], xStart := [0], width := 128, height := 128, totalLines := 128, rateNum := 50 },
                { source := 1, rateNum := 50 }]
    channels := [{ channel := 3, link := 2 }], contexts := [ctx0], engines := [(0, tab0)], coding := [{ tools := 3 }]
    boxes := [{ mode := 1, rAvgMin := 5, scheds := [(10, 100)] }]
    sets := [{ base := true, preview := true, prevLink := 7
               layers := [{ kind := 1, stepMax := 1048576, spanMax := 4096, env := ⟨0, 0, 128, 128⟩ }] }]
    pairs := [{ width := 8, height := 8, stride := 32 }]
    groups := [{}], ports := [{ direction := 1 }]
    routes := [{ srcKind := 0, src := 0 }, { srcKind := 1, src := 3 }]
    streams := [{ }, { kind := 3, owner := 4 }], scheds := [{ queue := 5, rateMin := 1, rateMax := 9 }], gcl := [(1000, 255)] }

/-- The production runs, and engine 0 is in its slot. -/
def run : State :=
  { up with
    running := some prod0
    engines := vset up.engines 0 { halves := Vector.replicate 2 tab0, q := { inSlot := true }, store := #v[some (0, {}), none] } }

/-- Link i in a state. -/
def linkAt (i : Fin 12) (l : Link) : State := { run with links := vset run.links i l }

/-- A message waits at the head of a link's channel. -/
def msgAt (s : State) (i : Fin 12) (vc : Fin 8) (type : Nat) (body : List Byte) : State :=
  let l := vget s.links i
  { s with links := vset s.links i { l with
      inbox := vset l.inbox vc [{ type := type, body := body, at_ := s.time.tick, role := l.role, tod := l.tod }] } }

/-- Such a message is found, whatever its bytes and whatever bits of it are reserved. -/
theorem test_message (s : State) (i : Fin 12) (vc : Fin 8) (type : Nat) (body : List Byte) (r : Cells Byte) :
    (msgAt s i vc type body).hasMsg i vc type body r = true := by
  simp [State.hasMsg, msgAt, sayAlike_self]

/-- House time and FCLK at a tick. -/
def atTick (s : State) (n : Nat) : State := { s with time := { s.time with tick := n, fclk := n } }

/-! ### Ill-formed terms -/

/-- The header's fields. -/
theorem test_wf_header : ([Instr.clockStatus ⟨0, 256, 0, 0, 0⟩, .clockStatus ⟨0, 0, 256, 0, 0⟩, .clockStatus ⟨0, 0, 0, 2 ^ 32, 0⟩,
    .clockStatus ⟨0, 0, 0, 0, 2 ^ 32⟩, .goodbye ⟨0, 256, 0, 0, 0⟩].all (fun c => !c.wf)) = true := by decide +kernel

/-- Mailbox commands with a field beyond its width. -/
theorem test_wf_commands : ([Instr.hello (hd 0 8) 256 0 1 0, .mbConfig (hd 0 8) [4], .echo (hd 0 225) (List.replicate 225 0),
    .certRead (hd 1 8) (2 ^ 32) 0, .ownerKeyLoad (hd 1 8) 0 (2 ^ 32), .debugToken (hd 7 8) (2 ^ 32) 0, .fuseProgram (hd 7 8) 0 (2 ^ 32),
    .attest (hd 1 36) [] 0, .productionLoad (hd 1 12) (2 ^ 32) 0 0, .productionCue (hd 1 8) (2 ^ 64), .contextRateSet (hd 1 8) 65536 0 0,
    .contextQpLimitsSet (hd 1 4) 0 128 0, .layerGeometrySet (hd 1 20) 0 0 ⟨65536, 0, 0, 0⟩ ⟨0, 0, 0, 0⟩, .layerOpacitySet (hd 1 6) 0 256 0,
    .graphicCommit (hd 1 2) 65536, .layerStatus (hd 1 2) 65536, .contextStatus (hd 1 2) 65536,
    .curtainStage (hd 6 241) 0 (List.replicate 233 0), .curtainDrop (hd 6 424) 1 [] [], .curtainRaise (hd 6 424) (2 ^ 64) [] [],
    .audioGainSet (hd 1 4) 0 65536, .audioMuteSet (hd 1 4) 0 256, .audioPortRestart (hd 1 4) 256, .audioStatus (hd 1 4) 256,
    .egressShaperSet (hd 1 8) 0 (2 ^ 32), .linkStatus (hd 1 1) 256, .linkRetrain (hd 1 2) 0 256, .linkTxSet (hd 1 5) 0 [0],
    .linkGuardSet (hd 1 6) 0 0 0 0 0 256, .eyeScan (hd 7 8) 0 0 256 0, .patternStart (hd 7 12) 0 0 256 0 0,
    .patternRead (hd 7 1) 0 [(1, 2)], .patternInject (hd 7 4) 0 0 0 256, .patternStop (hd 7 1) 256, .linkProtocol (hd 1 1) 256,
    .candidateStatus (hd 1 2) 256 0, .candidateSet (hd 1 16) 0 ⟨256, 0, 0, 0, 0, 0⟩, .dpllSet (hd 1 36) ⟨256, 0, 0, 0, 0, 0, 0, 0, 0, 0, 0⟩,
    .dpllSoftware (hd 1 8) (2 ^ 63), .dpllNudge (hd 1 4) (2 ^ 31), .clockHistoryClear (hd 1 4) 0 65536, .houseTimeSet (hd 1 16) 0 (2 ^ 64),
    .houseTimeAlarmSet (hd 1 4) (2 ^ 32), .ddrSubchannelStatus (hd 1 2) 256 0, .ddrPortStatus (hd 1 2) 0 256, .ddrErrorLog (hd 1 4) 256,
    .ddrMark (hd 1 4) 0 0 256 0, .ddrScrubSet (hd 1 4) 65536 0, .ddrChecksEnable (hd 1 4) 256, .twinPair (hd 1 32) [],
    .engineStatus (hd 1 2) 256 0, .queueStatus (hd 1 4) 65536 0, .eventMaskSet (hd 1 8) 0 0 256, .eventSourceStatus (hd 1 4) 0 65536,
    .cueConfig (hd 1 12) 0 ⟨256, 0, 0, 0, 0⟩, .cueOutput (hd 1 40) 256 ⟨0, 0, 0, 0, 0, 0⟩, .cueStatus (hd 1 4) 0 0 256,
    .cuConfig (hd 1 4) 0 256, .cuFeed (hd 1 12) 0 0 (2 ^ 32) 0 [] false, .cuRead (hd 1 4) 256 false, .cuWrite (hd 1 8) 256 0].all
      (fun c => !c.wf)) = true := by decide +kernel

/-- Boot inputs without a fault. -/
def boot0 : BootInputs := ⟨2, [], 0, false, [], [], true, ⟨[], 1, 0, true, [], []⟩, 900, 1, [], []⟩

/-- Happenings with a field beyond its range. -/
theorem test_wf_happenings : ([Instr.resetRelease { boot0 with bootsel := 8 }, .warmBoot { boot0 with vcoreMv := 65536 },
    .bootLoad 0 { boot0 with ddr := ⟨[6], 1, 0, true, [], []⟩ }, .frameMark 128, .line 0 ⟨65536, 0, 0, 0, 0, 0, []⟩, .windowClose 512 0 0,
    .slotStart 0 1024, .sqCall 0 65536 0, .sqRet 0 65536, .inRdq 0 65536, .dwWr 0 65536, .cueEccFault 0 2 0 (.double false),
    .affinityWaitExpiry 576, .gapMarkerCommit 576, .egressAck 0 576 0 0, .flitReceive 0 0 [(0, 128)] [], .deskew 0 [1, 1],
    .adaptEnd 0 [(0, ⟨0, [], 0⟩)], .eyeDone 0 [2 ^ 32], .patternLockLost 0 0 2 1, .regRead 0 256 0 0, .regWrite 0 0 (2 ^ 32) 0 [],
    .timeOfDay 0 (2 ^ 64) true, .audio 0 ⟨0, 1, 0, 0, [[]]⟩, .ancillary 0 65536 0 [], .graphicWrite 0 0 (2 ^ 32) [],
    .graphicCommitPacket 0 65536, .contentLatch 512, .graphicReleased 65536, .previewLineSend 512 0,
    .audioFrame 0 [⟨1, 0, 0⟩, ⟨1, 0, 0⟩], .audioPcmResumed false 32, .audioChangeApply 65536, .linkSampleWindowClose 256 0,
    .mr4Read 0 2 0 0, .ddrWriteRequest 0 1 [], .ddrReadReturn 0 0 ⟨[], []⟩, .patrolScrub 0 ⟨[(10, 1)], List.replicate 16 0⟩,
    .ppsEdge 1250, .gateEnd 0 (2 ^ 63), .phaseComparison 0 (2 ^ 63) 0, .switchEnd (2 ^ 63), .historySample (2 ^ 63),
    .beat ⟨256, 0, 0, 0, 0, 0, 0, 0⟩, .health ⟨0, 0, false, 0, 0, 0, 0, 0, [], 0⟩, .twinHello ⟨[], 0, 0, 0, 0, [], 0⟩,
    .positions [⟨576, 0, 0, 0⟩], .ackHoldExpiry 576, .rowRecord ⟨512, 0, 0, 0, 0, 0, 0, false⟩, .confirm 576 0, .itemRequest 0 0 65536,
    .item 0 ⟨3, false, false, 0, 0, []⟩ 0, .rowRequest 0 0 128 false, .rowData ⟨512, 0, 0, 0, false, none⟩, .blockRequest 0 16,
    .blockData 0 16 [], .thermalSample 0 32768, .supplySample 0 65536, .doorbell 0 0 13, .hostWindowWrite 2 0,
    .spiTransaction (.read (2 ^ 32) 1), .frameRecord ⟨512, 0, 0, 0, [], ⟨[], 0, 0, 0, 0, false, 0, [], [], 0, 0, 0, 0, 0, 0, none⟩, [], [], [],
      0, 0, []⟩].all (fun c => !c.wf)) = true := by decide +kernel

/-! ### Values that the spec states -/

/-- "123456789" in ASCII. -/
def digits : List Byte := [0x31, 0x32, 0x33, 0x34, 0x35, 0x36, 0x37, 0x38, 0x39]

/-- R534: the check of each of the six CRCs. -/
theorem test_crc_values : (List.range 6).map (fun n => crcFeed (crcParam n) (crcParam n).init digits ^^^ (crcParam n).xorOut)
    = [0xCBF43926, 0xE3069283, 0x0376E6E7, 0x29B1, 0xD0DB, 0xF4] := by decide +kernel

/-- The example of R417: one address on six channels with two ranks of 16 Gbit. -/
theorem test_dram_address : dramLoc 12 12 0 0x31A2B4C40 = ⟨4, 0, 4235, 784, 1, 1⟩ := by decide +kernel

/-- C12 of the example of chapter 1: 3840 by 2160 at 120 frames per second. -/
def c12 : Ctx := { width := 3840, height := 2160, totalLines := 2250, rateNum := 120, rateDen := 1, delayD := 506074 }

/-- Its rows, columns, row 10's stamp, and the bytes of the shaper's refill: T_row = 237.04 µs, D = 506.07 µs. -/
theorem test_stamp : c12.rows = 34 ∧ c12.cols = 60 ∧ c12.rowsNs 1 = 237037 ∧ c12.stamp 0 10 = 2876444 := by decide +kernel

/-! ### The queue, resets, boot and the host window -/

/-- `Obligations.StepIdleTick`. -/
theorem test_meets_StepIdleTick :
    up.pending = [] ∧ up.boot.phase ≠ .held ∧ up.time.fclk % 4 ≠ 3 ∧ (up.time.tick + 1) % 800000000 ≠ 0
    ∧ (let s : State := { atTick up 3 with dpll := { ({} : Dpll) with due := some true } }
       s.pending = [] ∧ s.boot.phase ≠ .held ∧ s.time.fclk % 4 = 3 ∧ s.dpll.due.isSome = true ∧ (s.time.tick + 1) % 800000000 ≠ 0) := by
  decide +kernel

/-- `Obligations.ResetsComplete`. -/
theorem test_meets_ResetsComplete :
    up.powerHeld = false ∧ 10000 ≤ 10000 ∧ 9999 < 10000 ∧ 679 < 680 ∧ up.boot.firmware = true
    ∧ ({ up with boot := { up.boot with state := 6 } } : State).boot.phase = .running := by decide +kernel

/-- `Obligations.BootCompletes`. -/
theorem test_meets_BootCompletes :
    ({ up with boot := { up.boot with phase := .warmEntry } } : State).entryDone = true
    ∧ ({ up with boot := { up.boot with phase := .warmEntry } } : State).entryWrites.ddr.waiting = [] ∧ State.reset.boot.phase = .held
    ∧ boot0.bootsel % 8 = 2 ∧ boot0.sramFails = [] ∧ boot0.otpBad = false
    ∧ ({ up with boot := { up.boot with phase := .warmSaved } } : State).boot.phase = .warmSaved
    ∧ up.hostAnswers = true ∧ (65536 : U32).toNat / 2 ^ 25 % 2 = 0
    ∧ ({ up with boot := { up.boot with phase := .waitHost, state := 4 } } : State).boot.state = 4
    ∧ (0x2010000 : U32).toNat / 2 ^ 25 % 2 = 1 ∧ 1 ≤ (0x2010000 : U32).toNat % 2 ^ 17 ∧ (0x2010000 : U32).toNat % 2 ^ 17 ≤ 65536 := by
  decide +kernel

/-- `Obligations.HostWindowCompletes`. -/
theorem test_meets_HostWindowCompletes :
    up.hostAnswers = true ∧ (vget up.host.mbs 0).long = none
    ∧ (vget ({ up with host := { up.host with mbs := vset up.host.mbs 6 { long := some ⟨hd 6 0, 0x0441, 0, 0⟩ } } } : State).host.mbs 6).long ≠ none
    ∧ 0xFFFC % 4 = 0 ∧ [1, 2, 3, 4].length % 4 = 0 ∧ badRange 0xFFFC 1 = false ∧ 64 ≤ 64 ∧ badRange 0x1FFF00 64 = false := by decide +kernel

/-- `Obligations.RegisterPacketsComplete`. -/
theorem test_meets_RegisterPacketsComplete :
    (msgAt (linkAt 9 { role := 3, state := 8 }) 9 0 1 (regResponse 5 0x24 64 0 [])).hasMsg 9 0 1 (regResponse 5 0x24 64 0 []) = true
    ∧ (msgAt (linkAt 9 { role := 3, state := 8 }) 9 0 1 (regResponse 5 0x24 64 0 [])).regLink 9 = true ∧ regStatus 0x24 64 = 0 ∧ regStatus 0x1FFFFC 1 = 0
    ∧ (msgAt (linkAt 9 { role := 3, state := 8 }) 9 0 2 (regResponse 5 0x24 1 0 (leBytes 4 7))).hasMsg 9 0 2 (regResponse 5 0x24 1 0 (leBytes 4 7)) = true
    ∧ up.up = true := by decide +kernel

/-! ### Mailbox commands -/

/-- `Obligations.SessionCommandsExecute`. -/
theorem test_meets_SessionCommandsExecute :
    Executes Cmd.hello (hd 0 8) up ∧ 2 ≤ min 9 2 ∧ Executes Cmd.goodbye (hd 0 0) up ∧ Executes Cmd.mbConfig (hd 0 8) up
    ∧ (∀ d ∈ ([0, 0, 8, 4, 0, 0, 0, 0] : List Nat).drop 1, d = 0 ∨ 4 ≤ d ∧ d ≤ 8)
    ∧ (askedDepths (up.takeCmd (hd 0 8)).host.mbs [0, 0, 8, 4, 0, 0, 0, 0]).sum ≤ 1280
    ∧ (∀ n : Fin 8, n.val ≠ 0 → ([0, 0, 8, 4, 0, 0, 0, 0] : List Nat).getD n 0 ≠ 0 →
      (vget (({ up with host := { up.host with mbs := #v[{ cmdWr := 1 }, {}, {}, {}, {}, {}, {}, {}] } } : State).takeCmd (hd 0 8)).host.mbs n).empty = true)
    ∧ Executes (Cmd.echo (List.replicate 224 0)) (hd 0 224) up := by
  simp only [Executes]; decide +kernel

/-- `Obligations.IdentityCommandsExecute`. -/
theorem test_meets_IdentityCommandsExecute :
    Executes Cmd.identify (hd 1 0) up ∧ Executes Cmd.certRead (hd 1 8) up ∧ 0x3FFFC % 4 = 0 ∧ 0x3FFFC + 4 ≤ 0x40000
    ∧ Executes Cmd.attest (hd 1 36) up ∧ 0x3FD60 % 4 = 0 ∧ 0x3FD60 + 672 ≤ 0x40000 ∧ Executes Cmd.ownerKeyLoad (hd 1 8) up
    ∧ ((up.takeCmd (hd 1 8)).bulk 0 388).isSome = true
    ∧ ({ up with sec := { up.sec with otp := { up.sec.otp with ownerHash := some [1] } } } : State).sec.otp.ownerHash = some [1] := by
  simp only [Executes]; decide +kernel

/-- `Obligations.SignedCommandsDecide`. -/
theorem test_meets_SignedCommandsDecide :
    Executes Cmd.debugToken (hd 7 8) up ∧ ((up.takeCmd (hd 7 8)).bulk 4 1088).isSome = true ∧ Executes Cmd.fuseProgram (hd 7 8) up
    ∧ Executes Cmd.curtainInstall (hd 6 0) up ∧ Executes Cmd.curtainDrop (hd 6 424) up true ∧ Executes Cmd.curtainRaise (hd 6 424) up true
    ∧ ({ up with sec := { up.sec with ownerKey := some ([], 3) } } : State).sec.ownerKey = some ([], 3) ∧ up.curtain.cmdSeq < 1 := by
  simp only [Executes]; decide +kernel

/-- A production image's header with a size (R36). -/
def header (size : Nat) : List Byte :=
  [0x4D, 0x55, 0x50, 0x49, 1, 0] ++ leBytes 2 64 ++ leBytes 4 size ++ List.replicate 52 0

/-- The bulk area holds the header of an image of 128 bytes. -/
def bulk0 : State := up.setBulk 0 (header 128)

/-- The green room in a state, with the production in it. -/
def greenAt (n : Nat) : State :=
  { up with
    green := { state := n, staging := header 128, size := 128, prod := some { id := 9 } }
    time := { up.time with valid := true }, ddr := { up.ddr with state := 1 }
    boot := { up.boot with vcoreCode := 0x14 }, mon := { up.mon with supply := #v[targetMv 0x14, 1800] } }

/-- `Obligations.ProductionCommandsExecute`. -/
theorem test_meets_ProductionCommandsExecute :
    Executes Cmd.productionLoad (hd 1 12) bulk0 ∧ bulk0.green.state ≤ 2 ∧ (bulk0.takeCmd (hd 1 12)).bulk 0 64 = some (header 128)
    ∧ headerOk (header 128) = true ∧ field (header 128) 8 4 ≤ 48 * 2 ^ 20 ∧ 0 + 64 ≤ field (header 128) 8 4
    ∧ (greenAt 1).green.state = 1 ∧ (greenAt 1).green.staging.length + 64 ≤ (greenAt 1).green.size
    ∧ Executes Cmd.productionCheck (hd 1 0) (greenAt 2) ∧ Executes Cmd.productionCue (hd 1 8) (greenAt 3)
    ∧ ((greenAt 3).takeCmd (hd 1 8)).cueBlock (some { id := 9 }) = none
    ∧ (match fixCue (greenAt 3).running { id := 9 } 0 (((greenAt 3).takeCmd (hd 1 8)).readyTime { id := 9 }) (greenAt 3).cycle with
        | .ok _ => true | .error _ => false) = true
    ∧ ((greenAt 1).takeCmd (hd 1 8)).cueBlock none = none
    ∧ Executes Cmd.productionAbort (hd 1 0) (greenAt 4) ∧ (greenAt 4).green.state ≠ 5 ∧ Executes Cmd.productionStatus (hd 1 0) (greenAt 5) := by
  simp only [Executes]; decide +kernel

/-- `Obligations.ContextCommandsExecute`. -/
theorem test_meets_ContextCommandsExecute :
    Executes Cmd.contextRateSet (hd 1 8) run ∧ run.running = some prod0 ∧ prod0.ctx 0 = some ctx0 ∧ 0 < (prod0.boxOf ctx0).schedCount
    ∧ (prod0.boxOf ctx0).rAvgMin ≤ 10 ∧ 10 ≤ ((prod0.boxOf ctx0).scheds.getD 0 (0, 0)).1
    ∧ Executes Cmd.contextQpLimitsSet (hd 1 4) run ∧ (prod0.boxOf ctx0).qpLoMin ≤ 0 ∧ ((51 : Nat) : Int) ≤ (prod0.boxOf ctx0).qpHiMax
    ∧ Executes Cmd.contextStatus (hd 1 2) run ∧ 511 < 512 := by
  simp only [Executes]; decide +kernel

/-- `Obligations.LayerCommandsExecute`. -/
theorem test_meets_LayerCommandsExecute :
    Executes Cmd.layerGeometrySet (hd 1 20) run ∧ (run.layerAt 0 0).isSome = true
    ∧ ((prod0.sets.getD 0 {}).layers.getD 0 {}).fits prod0.pairs ((List.range ctx0.tiles).map ctx0.tilePx) ⟨0, 0, 64, 64⟩ ⟨0, 0, 64, 64⟩ = true
    ∧ Executes Cmd.layerOpacitySet (hd 1 6) run ∧ ((prod0.sets.getD 0 {}).layers.getD 0 {}).opaque_ = false
    ∧ Executes Cmd.graphicCommit (hd 1 2) run ∧ 0 < ((run.running.map (fun p => p.pairs.length)).getD 0) ∧ (cget {} run.pairs 0).backFree = true
    ∧ Executes Cmd.layerStatus (hd 1 2) run ∧ prod0.sets[ctx0.layers]?.isSome = true := by
  simp only [Executes]; decide +kernel

/-- `Obligations.CurtainCompletes`. -/
theorem test_meets_CurtainCompletes :
    Executes (Cmd.curtainStage (List.replicate 232 0)) (hd 6 240) up ∧ 2096920 + 232 ≤ 2097152 ∧ Executes Cmd.curtainStatus (hd 6 0) up
    ∧ up.curtain.pin ≠ false ∧ up.up = true ∧ State.reset.up = false ∧ State.reset.curtain.pin ≠ false
    ∧ ({ up with curtain := { up.curtain with install := some [1] } } : State).curtain.install = some [1] ∧ up.downComposing = false := by
  simp only [Executes]; decide +kernel

/-- `Obligations.AudioCommandsExecute`. -/
theorem test_meets_AudioCommandsExecute :
    Executes Cmd.audioGainSet (hd 1 4) run ∧ Executes Cmd.audioMuteSet (hd 1 4) run ∧ (run.routeAt 1).isSome = true
    ∧ Executes Cmd.audioPortRestart (hd 1 4) run ∧ Executes Cmd.audioStatus (hd 1 4) run ∧ (run.usedPort 0).isSome = true
    ∧ Executes Cmd.egressShaperSet (hd 1 8) run ∧ (prod0.scheds.find? (fun x => x.queue == 5)).isSome = true := by
  simp only [Executes]; decide +kernel

/-- `Obligations.LinkCommandsExecute`. -/
theorem test_meets_LinkCommandsExecute :
    Executes Cmd.linkStatus (hd 1 1) up ∧ Executes Cmd.linkRetrain (hd 1 2) (linkAt 11 { state := 8 })
    ∧ (vget (linkAt 11 { state := 8 }).links 11).state = 8 ∧ Executes Cmd.linkRetrain (hd 1 2) (linkAt 0 { state := 10 })
    ∧ (vget (linkAt 0 { state := 10 }).links 0).state = 10 ∧ Executes Cmd.linkTxSet (hd 1 5) up ∧ (∀ p ∈ [0, 7, 3, 1], p ≤ 7)
    ∧ Executes Cmd.linkGuardSet (hd 1 6) up ∧ Executes Cmd.linkProtocol (hd 1 1) up := by
  simp only [Executes]; decide +kernel

/-- `Obligations.LinkTestCommandsExecute`. -/
theorem test_meets_LinkTestCommandsExecute :
    Executes Cmd.eyeScan (hd 7 8) (linkAt 3 { state := 8 }) ∧ (vget (linkAt 3 { state := 8 }).links 3).state = 8
    ∧ (vget (linkAt 3 { state := 8 }).links 3).eye = none ∧ 0 + 16384 * (lanesOf 15).length ≤ 0x40000
    ∧ Executes Cmd.patternStart (hd 7 12) (linkAt 3 { state := 10 }) ∧ ((linkAt 3 {}).takeCmd (hd 7 12)).sessionLink ≠ some 3
    ∧ up.twin.expected = none ∧ (vget (linkAt 3 { state := 10 }).links 3).state ≠ 0 ∧ (vget (linkAt 3 { state := 10 }).links 3).state ≠ 11
    ∧ Executes Cmd.patternRead (hd 7 1) (linkAt 3 { state := 11, test := some { pattern := 0, raw := false, lanes := 15, user := 0 } })
    ∧ (vget (linkAt 3 { state := 11, test := some { pattern := 0, raw := false, lanes := 15, user := 0 } }).links 3).test.isSome = true
    ∧ Executes Cmd.patternInject (hd 7 4) (linkAt 3 { state := 11, test := some { pattern := 0, raw := false, lanes := 15, user := 0 } })
    ∧ Executes Cmd.patternStop (hd 7 1) (linkAt 3 { state := 11 }) := by
  simp only [Executes]; decide +kernel

/-- The candidate and DPLL settings in the middle of their ranges. -/
def dpllSet0 : DpllSettings := ⟨3, 1, 0, 0, 1000, 100, 100, 1000, 1000, 60, 0⟩

/-- `Obligations.ClockCommandsExecute`. -/
theorem test_meets_ClockCommandsExecute :
    Executes Cmd.clockStatus (hd 1 0) up ∧ Executes Cmd.candidateStatus (hd 1 2) up ∧ 9 + 7 ≤ 16
    ∧ Executes Cmd.candidateSet (hd 1 16) up ∧ candInRange ⟨0, 50, 100000000, 100, 50, 60⟩ = true ∧ up.dpll.switching = none
    ∧ Executes Cmd.dpllSet (hd 1 36) up ∧ dpllInRange dpllSet0 = true ∧ (up.takeCmd (hd 1 36)).ck.settle.dpll.switching = none
    ∧ Executes Cmd.dpllSoftware (hd 1 8) up ∧ Executes Cmd.dpllNudge (hd 1 4) { up with dpll := { up.dpll with state := 2 } }
    ∧ (({ up with dpll := { up.dpll with state := 2 } } : State).takeCmd (hd 1 4)).ck.settle.dpll.state ≠ 0
    ∧ Executes Cmd.dpllClose (hd 1 0) { up with dpll := { up.dpll with state := 4 } }
    ∧ Executes Cmd.clockHistoryClear (hd 1 4) up := by
  simp only [Executes]; decide +kernel

/-- `Obligations.HouseTimeCommandsExecute`. -/
theorem test_meets_HouseTimeCommandsExecute :
    Executes Cmd.houseTimeStatus (hd 1 0) up ∧ Executes Cmd.houseTimeSet (hd 1 16) up ∧ up.busyWithProduction = false
    ∧ Executes Cmd.houseTimeSet (hd 1 16) run ∧ run.busyWithProduction = true ∧ Executes Cmd.houseTimeAlarmSet (hd 1 4) up := by
  simp only [Executes]; decide +kernel

/-- DDR5 with one subchannel in use, and component 3 of its rank 0 marked or not. -/
def ddrWith (mark : Option Nat) : State :=
  { up with ddr := { up.ddr with state := 1, ranks := 1, subs := vset up.ddr.subs 0 { state := 1, marked := #v[mark, none] } } }

/-- `Obligations.DdrCommandsExecute`. -/
theorem test_meets_DdrCommandsExecute :
    Executes Cmd.ddrStatus (hd 1 0) up ∧ Executes Cmd.ddrSubchannelStatus (hd 1 2) up ∧ Executes Cmd.ddrPortStatus (hd 1 2) up
    ∧ Executes Cmd.ddrErrorLog (hd 1 4) up ∧ Executes Cmd.ddrMark (hd 1 4) (ddrWith none) ∧ (vget (ddrWith none).ddr.subs 0).state ≠ 0
    ∧ 0 < (ddrWith none).ddr.ranks ∧ vget (vget (ddrWith none).ddr.subs 0).marked 0 = none
    ∧ vget (vget (ddrWith (some 9)).ddr.subs 0).marked 0 = some 9 ∧ Executes Cmd.ddrMark (hd 1 4) (ddrWith (some 9))
    ∧ Executes Cmd.ddrScrubSet (hd 1 4) up ∧ Executes Cmd.ddrChecksEnable (hd 1 4) (ddrWith none) := by
  simp only [Executes]; decide +kernel

/-- The device paired or not with a peer that HELLO has shown. -/
def peer0 : HelloMsg := ⟨List.replicate 32 1, 77, 1, 0x100, 0x100, List.replicate 32 2, 0x20⟩

/-- A pair's L11 that trained, the peer known. -/
def duo : State :=
  { run with
    twin := { run.twin with peer := some peer0, role := 1, mode := 1 }
    links := vset run.links 11 { state := 8, role := 5, version := 0x20 } }

/-- `Obligations.TwinCommandsExecute`. -/
theorem test_meets_TwinCommandsExecute :
    Executes Cmd.twinStatus (hd 1 0) up ∧ Executes Cmd.twinPair (hd 1 32) duo ∧ duo.twinMode ≠ 0 ∧ duo.twin.peer = some peer0
    ∧ slice peer0.fingerprint 0 32 = slice (List.replicate 32 1) 0 32 ∧ duo.twinLink = true
    ∧ Executes Cmd.twinUnpair (hd 1 0) { duo with twin := { duo.twin with expected := some ([1], 77) } } := by
  simp only [Executes]; decide +kernel

/-- `Obligations.StatusCommandsExecute`. -/
theorem test_meets_StatusCommandsExecute :
    Executes Cmd.engineStatus (hd 1 2) up ∧ Executes Cmd.queueStatus (hd 1 4) up ∧ 450 + 126 ≤ 576 ∧ Executes Cmd.telemetry (hd 1 0) up
    ∧ Executes Cmd.eventMaskSet (hd 1 8) up ∧ Executes Cmd.eventSourceStatus (hd 1 4) up ∧ 772 + 252 ≤ 1024
    ∧ Executes Cmd.selftestReport (hd 7 0) up := by
  simp only [Executes]; decide +kernel

/-- CUE pin 2 with a configuration. -/
def pinWith (p : CuePin) : State := { up with cues := vset up.cues 2 p }

/-- `Obligations.CueCommandsExecute`. -/
theorem test_meets_CueCommandsExecute :
    Executes Cmd.cueConfig (hd 1 12) up ∧ (1 ≤ 10000 ∧ 10000 ≤ 10000) ∧ Executes Cmd.cueOutput (hd 1 40) (pinWith { cfg := ⟨2, 1, 0, 0, 0⟩ })
    ∧ (vget (pinWith { cfg := ⟨2, 1, 0, 0, 0⟩ }).cues 2).cfg.direction = 2 ∧ cueOutOk 0 ⟨1, 0, 0, 0, 0, 0⟩ = true
    ∧ cueOutOk 3 ⟨0, 511, 0, 100, 0, 1000000000⟩ = true ∧ Executes Cmd.cueStatus (hd 1 4) up ∧ 15 + 1 ≤ 16 := by
  simp only [Executes]; decide +kernel

/-- `Obligations.CheckUnitCommandsExecute`. -/
theorem test_meets_CheckUnitCommandsExecute :
    Executes Cmd.cuConfig (hd 1 4) up ∧ Executes (Cmd.cuFeed 0 9) (hd 1 21) up
    ∧ (match feedBytes (up.takeCmd (hd 1 21)) 0 9 0 digits with | .ok bs => decide (bs = digits) | .error _ => false) = true
    ∧ (vget up.cu 15).fault = false ∧ Executes Cmd.cuRead (hd 1 4) up ∧ Executes Cmd.cuWrite (hd 1 8) up := by
  simp only [Executes]; decide +kernel

/-! ### Engines -/

/-- Engine 0 of the running production, changed. -/
def eng (f : Engine → Engine) : State := { run with engines := vset run.engines 0 (f (vget run.engines 0)) }

/-- A word that holds one operation, with descriptor n. -/
def wordOf (u op n : Nat) : CueWord := { units := List.replicate u (0, 0) ++ [(op, n)] }

/-- Engine 0 stands at a word of a table, changed. -/
def doing (w : CueWord) (f : Engine → Engine := id) (t : EngineTab := tab0) : State :=
  eng (fun g => f { g with halves := Vector.replicate 2 { t with words := [w, {}] } })

/-- Engine 0 stands at a control word. -/
def ctl (op : Nat) (f : Engine → Engine := id) : State := doing { sq := (op, 0) } f

/-- A control word issues, and the job and the engine are so. -/
def controls (op : Nat) (desc : Option Nat) (ok : Job → Engine → Bool) (f : Engine → Engine := id) : Bool :=
  match (ctl op f).control 0 op 0 desc with
  | (_, some (j, g)) => ok j g
  | _ => false

/-- An operation issues, and the state behind it and its job are so. -/
def issues (s : State) (u op : Nat) (ok : State → Job → Bool := fun _ _ => true) : Bool :=
  match s.issue 0 u op 0 with
  | (t, some (j, _)) => ok t j
  | _ => false

/-- `Obligations.SequencerCompletes`: a slot at its instant, and each control word of an engine in its slot. -/
theorem test_meets_SequencerCompletes :
    ((eng (fun g => { g with q := {} })).slotPlace 0 0).isSome = true ∧ run.slotsRun ctx0 0 = true
    ∧ controls 1 (some 0) (fun _ g => decide (g.q.calls.length < 8)) = true
    ∧ controls 2 none (fun _ g => decide (g.q.calls = [1] ∧ g.q.inBlock = false)) (fun g => { g with q := { g.q with calls := [1] } }) = true
    ∧ controls 2 none (fun _ g => decide (g.q.calls = [1] ∧ g.q.inBlock = true ∧ ([] : List Nat).length = g.q.blockBase))
      (fun g => { g with q := { g.q with calls := [1], inBlock := true } }) = true
    ∧ controls 3 (some 0) (fun _ g => decide (g.q.loops.length < 4)) = true
    ∧ controls 4 none (fun _ g => decide (g.q.loops = [(2, 0)])) (fun g => { g with q := { g.q with loops := [(2, 0)] } }) = true
    ∧ controls 5 (some 0) (fun j g => decide (g.q.due < 2 * g.q.slotMark + j.slot.offset + (j.sq 0).mark + 2)) = true
    ∧ controls 6 (some 0) (fun _ _ => true) = true ∧ controls 8 none (fun _ _ => true) = true
    ∧ controls 7 (some 0) (fun _ g => decide (g.q.inBlock = false ∧ g.q.calls.length < 8 ∧ g.q.lateSeen = false ∧ g.incoming = some (0, 1)))
      (fun g => { g with incoming := some (0, 1) }) = true
    ∧ (vget (eng (fun g => { g with q := { g.q with hold := some 0 } })).engines 0).q.hold = some 0 := by decide +kernel

/-- `Obligations.UnitIssues`: a unit's, a read's and a control word. -/
theorem test_meets_UnitIssues :
    (let s := doing (wordOf 0 1 0)
     (s.job 0).isSome = true ∧ (vget s.engines 0).issues = true ∧ (vget s.engines 0).q.due ≤ s.cycle
      ∧ (s.job 0).any (fun j => decide (j.tab.words[0]? = some (wordOf 0 1 0) ∧ j.tab.unitDesc 0 0 = some {}
        ∧ ∀ t ∈ j.tab.consumed (wordOf 0 1 0), (cget {} (vget s.engines 0).tags t).arrived = true)) = true)
    ∧ (wordOf 0 1 0).op 0 = (1, 0) ∧ (wordOf 12 1 0).op 12 = (1, 0) ∧ tab0.dr[0]?.isSome = true
    ∧ (vget run.engines 0).q.did.contains 14 = false ∧ ({ sq := (1, 0) } : CueWord).sq = (1, 0) := by decide +kernel

/-- The engine's unit descriptors name tag 3, which has not arrived. -/
def tab3 : EngineTab := { tab0 with units := List.replicate 12 [{ tags := [3] }] }

/-- `Obligations.LateWordFreezes`. -/
theorem test_meets_LateWordFreezes :
    (let s := doing (wordOf 0 1 0) id tab3
     (s.job 0).any (fun j => decide (j.tab.words[0]? = some (wordOf 0 1 0) ∧ j.tab.unitDesc 0 0 = some { tags := [3] }
        ∧ 3 ∈ j.tab.consumed (wordOf 0 1 0))) = true
      ∧ (vget s.engines 0).issues = true ∧ (vget s.engines 0).q.due ≤ s.cycle ∧ (vget s.engines 0).q.did = []
      ∧ (cget {} (vget s.engines 0).tags 3).arrived = false ∧ (vget s.engines 0).steady = false) := by decide +kernel

/-- `Obligations.SearchUnitsComplete`: each operation of the six units issues here. -/
theorem test_meets_SearchUnitsComplete :
    (([(0, 1), (0, 2), (0, 3), (1, 1), (1, 2), (4, 1)] : List (Nat × Nat)).all (fun o => issues (doing (wordOf o.1 o.2 0)) o.1 o.2)) = true
    ∧ issues (doing (wordOf 2 1 0)) 2 1 (fun t j => (j.nextCtu (vget t.engines 0)).isSome && (t.jobRec 0 j).isSome) = true
    ∧ issues (doing (wordOf 3 1 0)) 3 1 (fun t j => (t.jobRec 0 j).isSome) = true
    ∧ issues (doing (wordOf 5 1 0)) 5 1 (fun t j => ((t.decisionPoint 0 j false).jobRec 0 j).isSome) = true
    ∧ issues (doing (wordOf 5 2 0)) 5 2 = true := by decide +kernel

/-- `Obligations.CodingUnitsComplete`: each operation issues in a CTU that is no floor CTU, and those of a floor CTU in one. -/
theorem test_meets_CodingUnitsComplete :
    (([(6, 1), (6, 2), (7, 1), (7, 2), (8, 1), (8, 2), (9, 1), (9, 2), (10, 1), (10, 2), (10, 3), (10, 4), (11, 1)] : List (Nat × Nat)).all
      (fun o => issues (doing (wordOf o.1 o.2 0)) o.1 o.2 (fun t j => decide ((vget t.engines 0).c.floor = 0)
        && bitOf j.tile.cod.tools 0 && bitOf j.tile.cod.tools 1 && (vget t.engines 0).r.derAt.isNone && !(vget t.engines 0).q.floor))) = true
    ∧ issues (doing (wordOf 7 1 0) (fun g => { g with c := { g.c with floor := 1 } })) 7 1 (fun t _ => (vget t.engines 0).c.floor != 0) = true
    ∧ (let s := atTick (eng (fun g => { g with r := { g.r with derAt := some 0, derCtx := 0 } })) 30000
       (vget s.engines 0).r.derAt = some 0 ∧ 0 + 49152 ≤ s.cycle ∧ ((vget s.engines 0).record 0).isSome = true)
    ∧ issues (doing (wordOf 11 1 0) (fun g => { g with q := { g.q with floor := true, inBlock := true } })) 11 1
      (fun t _ => (vget t.engines 0).q.floor && (vget t.engines 0).q.inBlock) = true := by decide +kernel

/-- `Obligations.DmaCompletes`. -/
theorem test_meets_DmaCompletes :
    ((doing (wordOf 12 1 0)).issueDma 0 12 0).2.any (fun y => decide (y.2.cls = 2 ∧ y.2.dest ≠ 3)) = true
    ∧ ((List.range 3).map (fun n => ((doing (wordOf 13 1 n)).issueDma 0 13 n).2.map (fun y => y.2.cls))) = [some 0, some 1, some 2]
    ∧ (let s := atTick (eng (fun g => { g with q := { g.q with frozenAt := some 0, waiting := [3] } })) 2400
       (s.job 0).any (fun j => decide (0 + (j.slot.phi - (vget s.engines 0).q.frz) ≤ s.cycle ∧ 3 ∈ (vget s.engines 0).lateTags j.tab)) = true
        ∧ (vget s.engines 0).q.frozenAt = some 0 ∧ cwf {} (vget s.engines 0).tags = true)
    ∧ (run.job 0).isSome = true := by decide +kernel

/-- `Obligations.FloorNeverFreezes`: in a floor block, with a tag that has not arrived. -/
theorem test_meets_FloorNeverFreezes :
    (let s := doing (wordOf 0 1 0) (fun g => { g with q := { g.q with floor := true, inBlock := true } }) tab3
     (vget s.engines 0).q.floor = true ∧ (vget s.engines 0).q.inBlock = true ∧ (vget s.engines 0).q.startDue = false
      ∧ cwf {} (vget s.engines 0).tags = true ∧ cwf {} s.ctxs = true
      ∧ (s.job 0).any (fun j => decide (j.tab.words[0]? = some (wordOf 0 1 0) ∧ j.tab.unitDesc 0 0 = some { tags := [3] })) = true
      ∧ (vget s.engines 0).issues = true ∧ (vget s.engines 0).q.due ≤ s.cycle ∧ (wordOf 0 1 0).op 0 = (1, 0)
      ∧ (vget s.engines 0).q.did.contains 0 = false ∧ issues s 0 1 = true
      ∧ [3].filter (fun k => !(cget {} (vget s.engines 0).tags k).arrived) ≠ []) := by decide +kernel

/-! ### Flow -/

/-- A slice of the production's context that has ended, and that the coder has written. -/
def slice0 : Slice := { context := 0, tile := 0, row := 0, frame := 0, frameTick := 0, last := false, bytes := 100, whole := true, ended := true }

/-- Engine 0's chunk store holds one slice, with a segment open or not. -/
def coding (k : Slice) (opened : Bool) : State := eng (fun g => { g with chunk := { g.chunk with slices := [k], segOpen := opened } })

/-- A task of queue 5. -/
def task0 : Task := { id := 1, kind := .audio, stream := 1, queue := 5, counter := 0 }

/-- Ladle 2 runs the task. -/
def ladled (l : Ladle) (t : Task) : State :=
  { run with flow := { run.flow with tasks := [t], ladles := vset run.flow.ladles 2 { l with task := some 1 } } }

/-- `Obligations.TasksComplete`. -/
theorem test_meets_TasksComplete :
    (let g := (vget (coding slice0 false).engines 0).code (coding slice0 false).cycle
     g.chunk.slices = [slice0] ∧ g.chunk.segOpen = false ∧ g.chunk.lost = false ∧ ((coding slice0 false).sliceAt slice0).isSome = true)
    ∧ (let g := (vget (coding slice0 true).engines 0).code (coding slice0 true).cycle
       g.chunk.slices = [slice0] ∧ g.chunk.segOpen = true ∧ g.chunk.lost = false
        ∧ ((coding slice0 true).sliceAt slice0).any (fun y => slice0.closable y.2.2 0 && y.2.2.segmentEnd 100 0 == 100) = true)
    ∧ (let k := { slice0 with bytes := 0, written := 160800, whole := false, ended := false }
       ((coding k true).sliceAt k).any (fun y => k.closable y.2.2 0) = true)
    ∧ (let s : State := { run with flow := { run.flow with tasks := [task0] } }
       s.flow.dispAt ≠ some s.time.fclk ∧ s.flow.waits task0 = true ∧ (s.ladleFor task0).isSome = true ∧ s.flow.tasks.find? (fun x => x.stream == 1 && s.flow.waits x) = some task0)
    ∧ (atTick run 400000).time.fclk = 400000 ∧ task0.readyAt + tickOf (prod0.affinity) ≤ 400000
    ∧ (let s : State := atTick { run with evt := { run.evt with copies := [⟨0, 0, 1, false, false, 1, []⟩] } } 800000
       s.evt.copies ≠ [] ∧ s.evt.lastTask + 800000 ≤ s.time.fclk)
    ∧ (msgAt run 0 5 0x50 (ancillaryBytes 4 9 [1])).hasMsg 0 5 0x50 (ancillaryBytes 4 9 [1]) (reserved [(2, 6)]) = true
    ∧ prod0.streamOf 3 4 = some 1 := by decide +kernel

/-- An item with a sequence number and a stamp. -/
def item0 (n : U32) (stamp : Nat) : Item := ⟨1, false, false, n, stamp, [1, 2, 3]⟩

/-- Queue 5 as given. -/
def queued (x : Queue) : State := { run with flow := { run.flow with queues := [(5, x)] } }

/-- `Obligations.LadlesAndQueuesComplete`. -/
theorem test_meets_LadlesAndQueuesComplete :
    (ladled {} task0).ladleTask 2 = some task0 ∧ task0.trunc = none ∧ (vget (ladled {} task0).flow.ladles 2).packets = []
    ∧ (vget (ladled {} task0).flow.ladles 2).busyTo ≤ (ladled {} task0).time.fclk
    ∧ (vget (ladled { packets := [[1]] } task0).flow.ladles 2).packets = [[1]]
    ∧ ((queued { gap := some { count := 1, bytes := 9, rtpSeq := 0, cause := 2, causes := 4, stamp := 0 } }).queue 5).gap.isSome = true
    ∧ task0.retried = false ∧ ({ task0 with retried := true } : Task).retried = true ∧ ((vget (ladled {} task0).flow.ladles 2).rest ((ladled {} task0).taskStrm task0)).1 = 0
    ∧ ((ladled { packets := [[1]] } { task0 with pos := 3 }).strm task0.sid).expects { task0 with pos := 3 } = false
    ∧ (atTick (ladled { packets := [[1]] } { task0 with trunc := some (1, 9) }) 8).ladleTask 2 = some { task0 with trunc := some (1, 9) }
    ∧ ((queued { refill := [item0 4 0, item0 5 1] }).queue 5).refill = [item0 4 0, item0 5 1]
    ∧ (queued { refill := [item0 4 0, item0 5 1] }).refillIn 5 = true
    ∧ ((queued { refill := [item0 4 0, item0 5 1] }).queue 5).refillBad = false := by decide +kernel

/-- `Obligations.EgressCompletes`. -/
theorem test_meets_EgressCompletes :
    run.up = true ∧ run.twin.role ≠ 2 ∧ run.twin.fenced = false ∧ run.flow.selAt ≠ some run.time.fclk
    ∧ (atTick run 800).now / 1000 - (atTick run 800).flow.lastRefill ≠ 0 ∧ prod0.gcl ≠ []
    ∧ (let b := leBytes 2 5 ++ leBytes 2 (0 : U16).toNat ++ leBytes 4 (7 : U32).toNat
       (msgAt run 10 4 0x41 b).hasMsg 10 4 0x41 b = true) := by decide +kernel

/-- A weighted queue's head, alone and eligible: L10 is ACTIVE with credits. -/
def weighted : State :=
  { run with
    running := some { prod0 with gcl := [], scheds := [{ queue := 5, cls := 8, weight := 1 }, { queue := 6, cls := 8, weight := 1 }] }
    flow := { run.flow with queues := [(5, { head := [item0 1 0], s := 7 }), (6, { head := [item0 1 0], s := 7 })] }
    links := vset run.links 10 { state := 8, txLanes := 15, held := Vector.replicate 8 100, creditOk := Vector.replicate 8 true } }

/-- `Obligations.WeightedChoice`: equal tags, and the lower queue is selected. -/
theorem test_meets_WeightedChoice :
    weighted.select.map (fun h => (h.q, h.cls)) = some (5, 8) ∧ weighted.heads.map (fun h => (h.q, h.cls, weighted.eligible h)) = [(5, 8, true), (6, 8, true)]
    ∧ weighted.gated = false := by decide +kernel

/-! ### Links -/

/-- A flit whose CRC is right: all zeros but the CRC of R319. -/
def goodFlit : BitVec 512 := BitVec.ofNat 512 (crc32c (List.replicate 60 0) * 2 ^ 480)

/-- `Obligations.FlitsComplete`. -/
theorem test_meets_FlitsComplete :
    (let l : Link := { state := 8, rxLanes := 15 }
     flitGood (l.descramble 1).2 = false ∧ l.badRun < 15 ∧ ({ l with badRun := 15 } : Link).badRun = 15
      ∧ (let d := l.descramble (l.descramble goodFlit).2
         let r := d.1.takeGood d.2 0 0
         flitGood d.2 = true ∧ r.1.badRun < 16 ∧ d.1.nakExhausts d.2 0 = false))
    ∧ (let l : Link := { state := 8, replay := [1], ackTick := 0 }
       l.replay ≠ [] ∧ l.ackTick + 3200 ≤ (atTick (linkAt 4 l) 3200).time.fclk ∧ l.replays4 < 4
        ∧ 4 ≤ ({ l with replays4 := 4 } : Link).replays4 ∧ l.replayFrom = l.una)
    ∧ (let l : Link := { state := 8, waitFrom := Vector.replicate 8 (some 0), txQueue := Vector.replicate 8 [(0x20, [1])] }
       vget l.waitFrom 2 = some 0 ∧ vget l.txQueue 2 = (0x20, [1]) :: [] ∧ 0 + 80000 ≤ (atTick (linkAt 4 l) 80000).time.fclk
        ∧ vget l.starved 2 = false)
    ∧ ({ ckLock := true } : Link).ckLock = true := by decide +kernel

/-- A training block of all zeros but its sync and its CRC. -/
def goodBlock : BitVec 128 := BitVec.ofNat 128 (0xE41D + crc16 ([0x1D, 0xE4] ++ List.replicate 12 0) * 2 ^ 112)

/-- `Obligations.TrainingCompletes`. -/
theorem test_meets_TrainingCompletes :
    (let l : Link := { state := 1 }
     l.since + 8000 ≤ (atTick (linkAt 0 l) 8000).time.fclk ∧ (atTick (linkAt 0 l) 8000).time.fclk < l.since + limitMost 1 l.rate)
    ∧ (linkAt 0 { state := 2 }).time.fclk < ({ state := 2 } : Link).since + limitMost 2 0
    ∧ (let l : Link := { state := 3, rxLanes := 15, rx := Vector.replicate 4 { blocks := [(5, 0)] } }
       (linkAt 0 l).time.fclk < l.since + limitMost 3 l.rate ∧ l.entryLanes l.attempt ≤ (l.alignedOf [0, 1, 2, 3]).length)
    ∧ ({ state := 4 } : Link).since + 1600000 ≤ (atTick (linkAt 0 { state := 4 }) 1600000).time.fclk
    ∧ blockGood goodBlock = true ∧ (goodBlock.extractLsb' 24 8).toNat ≤ ({ state := 2 } : Link).attempt
    ∧ (let l : Link := { state := 5, rxLanes := 1, partnerOk := true, okSent := true, rx := Vector.replicate 4 { good := 65536 } }
       l.ownOk = false ∧ l.okSent = true ∧ l.partnerOk = true ∧ (linkAt 0 l).time.fclk < l.since + limitMost 5 l.rate
        ∧ l.verified.length = (lanesOf l.rxLanes).length)
    ∧ (let l : Link := { state := 6, capWord := 0x0F, capCount := 16, capSent := 16 }
       16 ≤ l.capCount ∧ 16 ≤ l.capSent ∧ (linkAt 0 l).time.fclk < l.since + limitMost 6 l.rate ∧ (l.capWord.extractLsb' 0 8).toNat < 0x10)
    ∧ (let l : Link := { state := 6, capWord := 0x20, capCount := 16, capSent := 16 }
       16 ≤ l.capCount ∧ 0x10 ≤ (l.capWord.extractLsb' 0 8).toNat)
    ∧ ({ state := 6 } : Link).since + limitTicks 6 0 ≤ (atTick (linkAt 0 { state := 6 }) 80000).time.fclk
    ∧ (let l : Link := { state := 5, stepped := true, ownOk := true, partnerOk := true, lastSeen := true }
       l.state = 5 ∧ (l.retrain = true ∨ l.stepped = true) ∧ l.ownOk = true ∧ l.partnerOk = true ∧ l.lastSeen = true)
    ∧ ({ state := 10 } : Link).next ≤ (linkAt 0 { state := 10 }).time.fclk := by decide +kernel

/-- `Obligations.LinkTestsComplete`. -/
theorem test_meets_LinkTestsComplete :
    4096 ≤ (⟨1, 10, 0, 0, 7⟩ : EyeScan).pointsAt 0 600000
    ∧ (let l : Link := { state := 11, rxLanes := 15, test := some { pattern := 0, raw := false, lanes := 15, user := 0 } }
       l.test.any (fun t => bitOf l.rxLanes 2 && bitOf t.lanes 2 && !(vget t.check 2).locked
         && decide (64 ≤ bitsIn (8 - (vget t.check 2).from_) l.rate)) = true)
    ∧ (let c : Checker := { locked := true, from_ := 0, seen := 1 }
       c.locked = true ∧ 16 ≤ c.seen + 15 ∧ 64 ≤ bitsIn (8 - c.from_) 0) := by decide +kernel

/-! ### Pictures, composition and swap -/

/-- A line of source 0: 2 pixels of the format 0 at the left edge. -/
def line0 : LineMsg := ⟨0, 0, 0, 0, 2, 0, List.replicate 5 0⟩

/-- `Obligations.PicturesComplete`. -/
theorem test_meets_PicturesComplete :
    (run.up = true ∧ (run.prodAt 0).isSome = true ∧ (prod0.source 1).isSome = true ∧ isMark (50, 1) 0 = true)
    ∧ (let m : LineMsg := ⟨0, 0, 0, 0, 0, 0, []⟩
       let s := msgAt run 1 2 0x20 ((lineMsgBytes m).take 8)
       s.hasMsg 1 2 0x20 (lineMsgBytes m) (reserved [(11, 5)]) = false ∧ s.hasShort 1 2 0x20 (lineMsgBytes m) (reserved [(11, 5)]) = true)
    ∧ run.lineSource ⟨400, 0, 0, 0, 0, 0, []⟩ = none
    ∧ (let s := msgAt run 1 2 0x20 (lineMsgBytes line0)
       s.hasMsg 1 2 0x20 (lineMsgBytes line0) (reserved [(11, 5)]) = true ∧ (s.lineSource line0).any (fun q => q.rejects 1 line0 == none) = true
        ∧ (s.lineFrame line0).isSome = true)
    ∧ (let s := msgAt run 0 2 0x20 (lineMsgBytes line0)
       s.hasMsg 0 2 0x20 (lineMsgBytes line0) (reserved [(11, 5)]) = true ∧ (s.lineSource line0).map (fun q => q.rejects 0 line0) = some (some 1))
    ∧ ((atTick run 8000000).closing 0 0 0).isSome = true
    ∧ (run.startsNow 0).isSome = true
    ∧ (let b := leBytes 2 0 ++ [0, 0] ++ leBytes 4 0 ++ [1, 2, 3, 4]
       let s := msgAt { run with pairs := [(0, { front := 1 })] } 5 5 0x51 b
       s.hasMsg 5 5 0x51 b (reserved [(2, 2)]) = true ∧ prod0.pairs[0]?.isSome = true ∧ (cget {} s.pairs 0).backFree = true
        ∧ s.ddr.hasRoom 21 4 = true ∧ prod0.pairs[9]? = none)
    ∧ (let b := leBytes 2 0 ++ List.replicate 6 0
       let s := msgAt run 5 5 0x52 b
       s.hasMsg 5 5 0x52 b (reserved [(2, 6)]) = true ∧ 0 < (s.running.map (fun p => p.pairs.length)).getD 0
        ∧ (cget {} s.pairs 0).backFree = true)
    ∧ (let s : State := { run with pairs := [(0, { front := 1, backFree := false })] }
       (cget {} s.pairs 0).backFree = false ∧ s.heldBy 2 0 0 = false)
    ∧ (finOf 12 ((prod0.sets.getD 0 {}).prevLink)).isSome = true ∧ (prod0.sets.getD 0 {}).preview = true := by decide +kernel

/-- The tick of the preview line 0 of frame 3. -/
theorem test_meets_PicturesComplete_preview :
    ((atTick run (prod0.previewTick ctx0 3 0)).previewFrame 0 0).isSome = true ∧ (atTick run (prod0.previewTick ctx0 3 0)).up = true := by
  decide +kernel

/-- `Obligations.FirstCopyStands`: a new line in an open window of frame 1, and its duplicate. -/
theorem test_meets_FirstCopyStands :
    line0.firstPixel + line0.pixelCount ≤ 8192 ∧ cwf {} run.pictures = true
    ∧ (prod0.openTiles ctx0 1 0 (atTick run 400000).cycle) = [0]
    ∧ (let s := (atTick run 400000).ctxLine prod0 ctx0 1 line0 true
       (cget {} s.pictures 1).has 1 0 = true ∧ ((s.ctxLine prod0 ctx0 1 line0 true).ctxSt 0).linesDup = 1
        ∧ cwf false (cget {} s.pictures 1).got = true ∧ cwf 0 (cget {} s.pictures 1).px = true)
    ∧ ctx0.height ≤ ({ line0 with line := 128 } : LineMsg).line := by decide +kernel

/-- `Obligations.SwapCompletes`: at the earliest instants of R55. -/
theorem test_meets_SwapCompletes :
    (let s := { greenAt 4 with green := { (greenAt 4).green with cuePoint := 200000 } }
     s.up = true ∧ s.green.state = 4 ∧ s.green.cuePoint ≤ s.now + 200000)
    ∧ (greenAt 5).green.prod = some { id := 9 } ∧ (greenAt 5).up = true ∧ (greenAt 5).green.state = 5 ∧ (greenAt 5).green.cuePoint ≤ (greenAt 5).now := by
  decide +kernel

/-! ### Audio and DDR5 -/

/-- The production runs with an audio state. -/
def aud (a : Audio) : State := { run with audio := a }

/-- `Obligations.AudioCompletes`. -/
theorem test_meets_AudioCompletes :
    (let s := atTick (aud { groups := Vector.replicate 4 { running := true, index := 0 } }) 16667
     (vget s.audio.groups 0).running = true ∧ sampleAt (audioFs 0) s.time.tick = 1 ∧ (1 : Nat) = (vget s.audio.groups 0).index + 1
      ∧ onSampleEdge (audioFs 0) 1 s.time.tick = true ∧ (vget s.audio.groups 0).next = none ∧ (prod0.groups.getD 0 {}).enable = 0)
    ∧ (let m : AudioMsg := ⟨3, 1, 0, 0, [[5]]⟩
       (msgAt run 2 3 0x30 (audioBytes m)).hasMsg 2 3 0x30 (audioBytes m) (reserved [(4, 4)]) = true ∧ prod0.takesAudio 2 m = true)
    ∧ (let m : AudioMsg := ⟨3, 0, 0, 0, [[]]⟩; (msgAt run 2 3 0x30 (audioBytes m)).hasMsg 2 3 0x30 (audioBytes m) (reserved [(4, 4)]) = true ∧ m.channelCount < 1)
    ∧ (let s := atTick (aud { groups := Vector.replicate 4 { running := true, index := 0, next := some (1, 0) } }) 16667
       (vget s.audio.groups 0).next = some (1, 0) ∧ onSampleEdge (audioFs 0) 1 s.time.tick = true)
    ∧ ((prod0.channels.find? (fun c => c.channel == 3)).isSome = true
      ∧ run.time.tick ≤ sampleTick (audioFs 0) 0 + tickOf (prod0.chanLag 3) + 800000 ∧ run.linkDue prod0 0 3 0 = true)
    ∧ (vget (aud { ports := vset ({} : Audio).ports 7 { nonpcm := true, quiet := 8192 } }).audio.ports 7).nonpcm = true
    ∧ 8193 ≤ cget 0 (aud { chanNonpcm := [(1, 8193)] }).audio.chanNonpcm 1
    ∧ (run.routeAt 0).isSome = true ∧ (cget {} (aud { routes := [(0, { pending := some (some 0x2000, none), crossing := some 4 })] }).audio.routes 0).crossing = some 4
    ∧ (let s := atTick (aud { routes := [(0, { pending := some (some 0x2000, none) })] }) 8000000
       (cget {} s.audio.routes 0).pending.isSome = true ∧ (cget {} s.audio.routes 0).crossing = none
        ∧ (s.routeAt 0).all (fun y => decide (y.2.srcKind = 0 ∧ sampleTick (audioFs (y.1.srcRate y.2))
            (ceilDiv ((cget {} s.audio.routes 0).close * audioFs (y.1.srcRate y.2)) 800000000) ≤ s.time.tick)) = true)
    ∧ (vget (aud { ports := vset ({} : Audio).ports 7 { settle := 1, cause := some 2 } }).audio.ports 7).settle = 1
    ∧ (vget (aud { ports := vset ({} : Audio).ports 7 { settle := 1 } }).audio.ports 7).cause = none
    ∧ (vget (aud { groups := Vector.replicate 4 { stopAt := some 0 } }).audio.groups 3).stopAt = some 0 := by decide +kernel

/-- DDR5 runs at 6400 MT/s with one subchannel. -/
def dram (f : Ddr → Ddr) : State := { run with ddr := f { run.ddr with state := 1, ranks := 1, subs := vset run.ddr.subs 0 { state := 1, caParity := true } } }

/-- `Obligations.DramCompletes`. -/
theorem test_meets_DramCompletes :
    (dram id).ddr.state = 1 ∧ (dram id).ddr.windows = 0
    ∧ (let s := atTick (dram (fun d => { d with windows := 1 })) 3120
       s.ddr.windows ≠ 0 ∧ (s.time.fclk - s.ddr.window) / s.ddr.tRefi = 1)
    ∧ (let s := atTick (dram (fun d => { d with windows := 9, window := 102400000 })) 102400000
       s.ddr.refreshing s.time.fclk = true ∧ s.ddr.lastZq + 102400000 ≤ s.time.fclk)
    ∧ (let s := atTick (dram (fun d => { d with windows := 1, mr4At := [(0, 1)] })) 25599600
       (vget s.ddr.subs 0).state = 1 ∧ 0 < s.ddr.ranks ∧ s.ddr.refreshing s.time.fclk = true ∧ cget 0 s.ddr.mr4At 1 = 0)
    ∧ (let s := dram (fun d => { d with subs := vset d.subs 0 { vget d.subs 0 with queue := [(4, 0, .read, 0, 0)] } })
       let d := s.ddr.roll s.time.fclk
       d.state = 1 ∧ (vget d.subs 0).state = 1 ∧ d.refreshing s.time.fclk = false ∧ (vget d.subs 0).picked ≤ s.time.fclk
        ∧ (d.pick (vget d.subs 0) s.time.fclk).isSome = true)
    ∧ (dram id).ddr.hasRoom 19 16384 = true
    ∧ (let s := dram (fun d => { d with subs := vset d.subs 0 { vget d.subs 0 with issued := [(4, 0, .read, 0, 0)] } })
       ((vget s.ddr.subs 0).issued.find? (fun r => decide (r.1 = 4))).isSome = true ∧ s.ddr.refreshing s.time.fclk = false
        ∧ s.ddr.servesOf 4 = .other)
    ∧ ((dram (fun d => { d with reads := [(4, .scrub 7 ⟨[], []⟩)] })).ddr.servesOf 4 = .scrub 7 ⟨[], []⟩)
    ∧ (let s := atTick (dram id) (dram id).ddr.scrubInterval
       s.ddr.scrubInterval ≤ s.time.fclk - (vget s.ddr.subs 0).scrubAt)
    ∧ (vget (dram id).ddr.subs 0).caParity = true ∧ (vget (dram id).ddr.subs 0).run < 4 := by decide +kernel

/-! ### Time, events, references and pins -/

/-- `Obligations.TimeAndEventsComplete`. -/
theorem test_meets_TimeAndEventsComplete :
    (let s : State := { up with time := { up.time with setAtEdge := some 5 } }
     s.time.setAtEdge = some 5 ∧ s.busyWithProduction = false)
    ∧ up.edgeSets = none
    ∧ (let s : State := { up with time := { up.time with tod := some 7, valid := false, setAtEdge := none } }
       s.time.setAtEdge = none ∧ s.time.valid = false ∧ s.time.tod = some 7 ∧ s.busyWithProduction = false)
    ∧ (let s : State := { up with time := { up.time with tod := some 7, valid := true, setAtEdge := none, prevSecond := some 6 } }
       s.edgeSets = none ∧ s.time.tod = some 7 ∧ s.time.prevSecond = some (7 - 1) ∧ 0 < 7)
    ∧ up.time.ppsLost = false ∧ (atTick up 1200000000).time.lastPpsAt + 1200000000 ≤ (atTick up 1200000000).time.fclk
    ∧ (let b := leBytes 8 77 ++ leBytes 4 1 ++ [0, 0, 0, 0]
       let s := msgAt (linkAt 9 { role := 3, tod := true }) 9 1 0x10 b
       s.hasMsg 9 1 0x10 b todReserved = true ∧ (s.headMsg 9 1).role = 3 ∧ (s.headMsg 9 1).tod = true)
    ∧ (let s : State := { up with evt := { up.evt with wr := 1 } }
       s.evt.wr ≠ s.evt.rd ∧ s.evt.notified = false) := by decide +kernel

/-- A candidate with a nominal frequency. -/
def cand (f : Candidate → Candidate) : State :=
  { run with cands := vset run.cands 2 (f { cfg := ⟨3, 50, 100000000, 100, 50, 60⟩, actOk := true }) }

/-- `Obligations.ReferencesComplete`. -/
theorem test_meets_ReferencesComplete :
    (vget (cand id).cands 2).actOk = true
    ∧ (let s := cand (fun x => { x with actOk := false })
       (vget s.cands 2).actOk = false ∧ (vget s.cands 2).cfg.nominal ≠ 0 ∧ s.canBeActive 2 = true)
    ∧ (let s := atTick (cand id) 80000000
       (vget s.cands 2).actOk = true ∧ (vget s.cands 2).cfg.nominal ≠ 0 ∧ (vget s.cands 2).gateFrom + gateTicks (vget s.cands 2).cfg ≤ s.time.fclk
        ∧ ((vget s.cands 2).cfg.window : Int) * 1000000 < |50000001| ∧ |50000000| ≤ ((vget s.cands 2).cfg.window : Int) * 1000000)
    ∧ (let s := cand (fun x => { x with state := 1 })
       (vget s.cands 2).state = 1 ∧ (vget s.cands 2).wtrEnd ≤ s.time.fclk)
    ∧ (vget (cand id).cands 2).phases.length < 16 ∧ (cand id).dpll.active ≠ some 2
    ∧ (let x := vget (cand (fun x => { x with phases := List.replicate 16 0 })).cands 2
       x.actOk = true ∧ x.phases.length = 16 ∧ 40000 * (x.cfg.phaseHit : Int) < |hitDeviation40 x.phases 1000000|)
    ∧ (let s : State := { cand id with dpll := { ({} : Dpll) with switching := some (some 2) } }
       s.dpll.switching = some (some 2) ∧ s.dpll.switchEnd ≤ s.time.fclk)
    ∧ (let s := atTick { cand id with dpll := { ({} : Dpll) with state := 1, active := some 2, lockFrom := some 0 } } 8000000000000
       s.ck.settle.dpll.lockFrom = some 0 ∧ s.ck.settle.dpll.state = 1 ∧ s.ck.settle.dpll.align = 0
        ∧ 0 + 800000000000 / 10 ^ s.ck.settle.code ≤ s.time.fclk)
    ∧ (let d : Dpll := { ({} : Dpll) with state := 2, secMean := some 5, lastY := some 4 }
       d.secMean = some 5 ∧ d.lastY = some 4 ∧ ({} : Dpll).lastY = none)
    ∧ (let s := atTick run 8000
       ¬ (s.dpll.refsel = 1 ∧ s.dpll.forceN = true) ∧ s.dpll.pinsAt + 8000 ≤ s.time.fclk)
    ∧ (let x := vget (cand id).cands 2
       (cand id).canBeActive 2 = true ∧ x.cmpAt = none ∧ (cand id).dpll.nextCand = []
        ∧ trimmed 50000001 (cand id).dpll.cfg.xoTrim = 50000001) := by decide +kernel

/-- A CUE output with its settings. -/
def outPin (mode level : Nat) (active : Bool) : CuePin := { cfg := ⟨2, 1, mode, 0, 0⟩, level := active, out := some ⟨level, 0, 200000, 100, 1000, 0⟩ }

/-- `Obligations.CuePinsComplete`. -/
theorem test_meets_CuePinsComplete :
    (let p : CuePin := { cfg := ⟨1, 1, 0, 100, 5⟩ }
     p.cfg.direction = 1 ∧ p.level ≠ true ∧ p.isActive true = true ∧ p.holdEnd ≤ (pinWith p).edgeNow)
    ∧ (pinWith { cfg := ⟨1, 1, 0, 100, 5⟩, holdEnd := 1 }).edgeNow < 1
    ∧ (let p : CuePin := { cfg := ⟨1, 1, 0, 100, 5⟩, level := true }
       p.cfg.direction = 1 ∧ p.level ≠ false ∧ p.isActive false = false ∧ p.stuckNow = false)
    ∧ (let p : CuePin := { cfg := ⟨1, 1, 0, 100, 5⟩, level := true }
       p.isActive p.level = true ∧ p.cfg.stuck ≠ 0 ∧ p.lastEdge + 1000000 * p.cfg.stuck ≤ (atTick (pinWith p) 4000000).now)
    ∧ ({ cfg := ⟨1, 1, 0, 100, 5⟩, stuckNow := true } : CuePin).stuckNow = true
    ∧ ((outPin 0 1 false).cfg.direction = 2 ∧ (outPin 0 1 false).cfg.mode = 0 ∧ up.twin.role ≠ 2)
    ∧ (let p := outPin 1 0 false
       let s := atTick (pinWith p) 160000
       p.isActive true = true ∧ s.outAbsent p ⟨0, 0, 200000, 100, 1000, 0⟩ = false ∧ s.nextPulse p = some (200000, 1) ∧ p.accepted + 100000 ≤ 200000
        ∧ 200000 ≤ s.now ∧ s.boot.phase = .running)
    ∧ (let p := outPin 3 0 false
       p.isActive true = true ∧ (pinWith p).outAbsent p ⟨0, 0, 200000, 100, 1000, 0⟩ = true ∧ p.missed = false)
    ∧ ((outPin 2 0 true).cfg.mode ≠ 0 ∧ (outPin 2 0 true).isActive (outPin 2 0 true).level = true
        ∧ (outPin 2 0 true).isActive false = false ∧ (outPin 2 0 true).pulseEnd ≤ up.now) := by decide +kernel

/-! ### The twin -/

/-- The pair with its twin changed. -/
def duoWith (f : Twin → Twin) : State := { duo with twin := f duo.twin }

/-- A BEAT of the lead of an exact pair. -/
def beat0 : BeatMsg := ⟨1, 0, 1, 4, 9, 100, 0, 0⟩

/-- A HEALTH. -/
def health0 : HealthMsg := ⟨2, 0, false, 0, 0, 0, 0, 0, List.replicate 32 0, 0⟩

/-- `Obligations.TwinBeatsComplete`. -/
theorem test_meets_TwinBeatsComplete :
    (let s := atTick (duoWith (fun w => { w with hbDead := false })) 400000
     s.up = true ∧ s.twin.hbDead = false ∧ s.twin.hbAt + 400000 ≤ s.time.fclk)
    ∧ (let s := duoWith (fun w => { w with role := 2 })
       s.twin.cast = false ∧ s.twinMode ≠ 0 ∧ s.twin.role = 2)
    ∧ (let s := duoWith (fun w => { w with cast := true, role := 2 })
       s.up = true ∧ s.twin.cast = true ∧ s.twinMode ≠ 0 ∧ s.twin.role ≠ 1)
    ∧ up.twin.cast = false ∧ up.twinMode = 0
    ∧ (let s : State := { up with twin := { up.twin with cast := true } }
       s.twin.cast = true ∧ s.twinMode = 0)
    ∧ (let s := duoWith (fun w => { w with cast := true })
       s.up = true ∧ s.twin.cast = true ∧ s.twinMode ≠ 0 ∧ s.twin.role = 1)
    ∧ duo.twinned = true ∧ (atTick duo 8000).twin.lastBeat + 8000 ≤ (atTick duo 8000).time.fclk
    ∧ ((msgAt duo 11 1 0x18 (beatBytes beat0)).hasMsg 11 1 0x18 (beatBytes beat0) beatReserved = true ∧ duo.twin.lost = false)
    ∧ (atTick duo 80000).twin.beatAt + 80000 ≤ (atTick duo 80000).time.fclk
    ∧ (let s := atTick (duoWith (fun w => { w with lost := true })) 4080000
       s.up = true ∧ s.lostLong = true ∧ s.twin.cast = false)
    ∧ (atTick duo 800000000).twin.lastHealth + 800000000 ≤ (atTick duo 800000000).time.fclk
    ∧ (msgAt duo 11 1 0x19 (healthBytes health0)).hasMsg 11 1 0x19 (healthBytes health0) healthReserved = true
    ∧ (atTick duo 80000000).twin.lastHello + 80000000 ≤ (atTick duo 80000000).time.fclk
    ∧ (msgAt duo 11 1 0x1A (helloBytes peer0)).hasMsg 11 1 0x1A (helloBytes peer0) helloReserved = true ∧ duo.twin.expected = none
    ∧ slice (List.replicate 32 (9 : Byte)) 0 32 ≠ slice peer0.fingerprint 0 32 := by decide +kernel

/-- The understudy of the pair. -/
def second : State := duoWith (fun w => { w with role := 2 })

/-- Records of frame 0. -/
def rec0 : FrameRec := ⟨0, 2, 0, 9, [], ⟨[], 0, 0, 0, 0, false, 0, [], [], 0, 0, 0, 0, 0, 0, none⟩, [], [], [], 0, 0, []⟩

/-- The record of row 1 of frame 0. -/
def rowRec0 : RowRec := ⟨0, 1, 0, 0, 0, 0, 0, false⟩

/-- A CTU in CRF. -/
def crf0 : CtuCrf := { CtuCrf.none_ with units := [1], raw := [false] }

/-- The understudy holds row 0 of frame 0 in buffer 0, with room in the port. -/
def holds : State := { second with ddr := { (dram id).ddr with refs := [(refKey 0 0 0 0, crf0)] } }

/-- `Obligations.TwinRecordsComplete`. -/
theorem test_meets_TwinRecordsComplete :
    (let s := atTick duo 16000
     s.twinned = true ∧ s.twin.role = 1 ∧ s.twin.lastPos + 16000 ≤ s.time.fclk
      ∧ s.flow.queues.filter (fun y => (y.2.next, y.2.released, y.2.acked) != y.2.reported) = [])
    ∧ (let s := atTick { duo with flow := { duo.flow with queues := [(5, { next := 3 })] } } 16000
       s.flow.queues.filter (fun y => (y.2.next, y.2.released, y.2.acked) != y.2.reported) = [(5, { next := 3 })])
    ∧ (msgAt second 11 6 0x62 (posBytes [⟨5, 3, 2, 1⟩])).hasMsg 11 6 0x62 (posBytes [⟨5, 3, 2, 1⟩]) (posReserved [⟨5, 3, 2, 1⟩]) = true ∧ second.twin.role = 2
    ∧ (duoWith (fun w => { w with role := 2, mode := 2 })).freesByAck = false
    ∧ (msgAt second 11 6 0x60 (recBytes rec0)).hasMsg 11 6 0x60 (recBytes rec0) recReserved = true ∧ second.exact = true
    ∧ (msgAt second 11 6 0x61 (rowRecBytes rowRec0)).hasMsg 11 6 0x61 (rowRecBytes rowRec0) rowRecReserved = true
    ∧ (second.ctxSt 0).rows.find? (fun y => y.2.closed && y.1 % 128 == 1 && y.1 / 128 % 2 ^ 32 == 0) = none
    ∧ (let s : State := { second with ctxs := [(0, { ({} : CtxState) with rows := [(1, { closed := true })] })] }
       (s.ctxSt 0).rows.find? (fun y => y.2.closed && y.1 % 128 == 1 && y.1 / 128 % 2 ^ 32 == 0) = some (1, { closed := true })
        ∧ (s.prods.findSome? (fun z => (z.1.ctx 0).filter (fun c => inRange z (c.markTick 0)))).orElse
          (fun _ => s.prods.findSome? (fun z => z.1.ctx 0)) = some ctx0)
    ∧ (let s := msgAt { duo with flow := { duo.flow with queues := [(5, { next := 3 })] } } 11 6 0x63 (confirmBytes 5 2)
       s.hasMsg 11 6 0x63 (confirmBytes 5 2) (reserved [(2, 2)]) = true ∧ seqBefore (s.queue 5).confirmed 2 = true ∧ seqBefore (s.queue 5).next 2 = false)
    ∧ (msgAt duo 11 7 0x70 (itemAskBytes 5 1 2)).hasMsg 11 7 0x70 (itemAskBytes 5 1 2) (reserved [(2, 2)]) = true ∧ duo.exact = true
    ∧ (msgAt second 11 7 0x71 (itemBytes_ 512 (item0 1 0) 0)).hasMsg 11 7 0x71 (itemBytes_ 512 (item0 1 0) 0) itemReserved = true
    ∧ (let a : ItemAsk := ⟨5, 1, 2, 0, []⟩
       U32.dist (item0 1 0).seq a.first < a.count ∧ (a.got.filter (fun i => i.seq != (item0 1 0).seq)).length + 1 < a.count ∧ 5 < 512)
    ∧ (msgAt duo 11 7 0x72 (rowAskBytes 0 0 1)).hasMsg 11 7 0x72 (rowAskBytes 0 0 1) (reserved [(2, 2), (10, 2)]) = true
    ∧ duo.running.bind (fun p => p.ctx 0) = some ctx0 ∧ duo.heldBuffer ctx0 0 1 = none
    ∧ (prod0.ctx 0 = some ctx0 ∧ holds.heldBuffer ctx0 0 0 = some 0 ∧ holds.ddr.hasRoom 18 (crfBytes crf0) = true ∧ holds.twin.role = 2)
    ∧ (let s := { duo with ddr := { duo.ddr with recs := [(0, some { production := 9, ref0 := 0, ref1 := 1, write := 1, backdrop := 2, spare := 3, box := {} })] } }
       (msgAt s 11 7 0x74 (blockAsk 0 3)).hasMsg 11 7 0x74 (blockAsk 0 3) = true ∧ (s.recordOf ctx0 0).isSome = true)
    ∧ (msgAt second 11 7 0x75 (blockBytes 0 3 [])).hasMsg 11 7 0x75 (blockBytes 0 3 []) = true := by decide +kernel

/-- The understudy finds a ROW_DATA, whatever its bytes. -/
theorem test_meets_TwinRecordsComplete_row (body : List Byte) :
    (msgAt holds 11 7 0x73 body).hasMsg 11 7 0x73 body rowDataReserved = true := test_message holds 11 7 0x73 body rowDataReserved

/-! ### Monitors and the whole block -/

/-- `Obligations.MonitorsComplete`: the sensors around the trip and release levels. -/
theorem test_meets_MonitorsComplete :
    2528 ≤ 2528 ∧ (∀ i : Fin 4, vget (vset State.reset.mon.temp 1 (2399 : Int)) i < 2400)
    ∧ (∀ i : Fin 4, vget (vset State.reset.mon.temp 1 (2527 : Int)) i < 2528) ∧ (∃ i : Fin 4, 2400 ≤ vget (vset State.reset.mon.temp 1 (2527 : Int)) i)
    ∧ up.up = true := by decide +kernel

/-- `Obligations.StepKeepsRingsAndBoard` and `Obligations.CompletionInRing`. -/
theorem test_meets_StepKeepsRingsAndBoard :
    RingsFit up ∧ cwf 0 up.host.board = true ∧ (∃ t, step { up with pending := [.evtRdWrite 0] } = .next t)
    ∧ entriesOf (16 + (replyResult (.accept [1] false)).length) ≤ (vget up.host.mbs 1).depth := by
  refine ⟨?_, by decide +kernel, ⟨_, rfl⟩, by decide +kernel⟩
  unfold RingsFit
  decide +kernel

/-- A fuse voltage in range, a running firmware of rollback index 3, and the device of serial 5. -/
def fused : State :=
  { up with
    boot := { up.boot with fw := { up.boot.fw with rollback := 3 } }
    sec := { up.sec with otp := { up.sec.otp with serial := 5, rollback := 1 } }
    mon := { up.mon with supply := #v[900, 1800] } }

/-- A request of FUSE_PROGRAM that raises the rollback counter to 2. -/
def fuseReq : List Byte := [4, 0, 0, 0] ++ leBytes 4 2 ++ leBytes 8 5 ++ fingerprint ++ List.replicate 16 0

/-- The fingerprint takes 32 bytes. -/
theorem fingerprint_length : fingerprint.length = 32 := by
  simp [fingerprint, keyHash, sha256_length]

/-- The request's length. -/
theorem fuseReq_length : fuseReq.length = 64 := by simp [fuseReq, leBytes_length, fingerprint_length]

/-- The request's fields before its fingerprint. -/
theorem fuseReq_field (o n : Nat) (h : o + n ≤ 16) : field fuseReq o n = field ([4, 0, 0, 0] ++ leBytes 4 2 ++ leBytes 8 5) o n := by
  have l : ([4, 0, 0, 0] ++ leBytes 4 2 ++ leBytes 8 5 : List Byte).length = 16 := by decide
  simp only [field, slice, fuseReq]
  rw [List.append_assoc _ fingerprint, List.drop_append_of_le_length (by omega),
    List.take_append_of_le_length (by rw [List.length_drop]; omega)]

/-- The request has the form that FUSE_PROGRAM takes from the device of serial 5. -/
theorem fuseReq_form (s : State) (h : s.sec.otp.serial = 5) : s.fuseForm fuseReq = true := by
  have e := fingerprint_length
  have g : slice fuseReq 0x10 32 = fingerprint := by
    simp [slice, fuseReq, leBytes, e]
  unfold State.fuseForm
  rw [g, fuseReq_length, h, fuseReq_field 0 1 (by omega), fuseReq_field 1 1 (by omega),
    fuseReq_field 4 4 (by omega), fuseReq_field 8 8 (by omega)]
  simp
  decide

/-- The request stands in the bulk area once its command has begun. -/
theorem takeCmd_bulk (s : State) (h : cwf 0 s.host.board = true) :
    (State.takeCmd (s.setBulk 0 fuseReq) (hd 7 8)).bulk 0 64 = some fuseReq := by
  have r := readBytes_writeBytes fuseReq s.host.board 0 h
  rw [fuseReq_length] at r
  simp [State.bulk, State.takeCmd, State.setBulk, r]

/-- The device passes the request's checks. -/
theorem fuseReq_check : (State.takeCmd (fused.setBulk 0 fuseReq) (hd 7 8)).fuseCheck 0 64
    = .ok (fuseReq, { fused.sec.otp with rollback := 2 }) := by
  have hb := takeCmd_bulk fused (by rfl)
  have hf := fuseReq_form (State.takeCmd (fused.setBulk 0 fuseReq) (hd 7 8)) (by rfl)
  unfold State.fuseCheck
  rw [if_neg (by decide +kernel), hb]
  dsimp only
  rw [if_neg (by simp [hf])]
  have hs : (State.takeCmd (fused.setBulk 0 fuseReq) (hd 7 8)).fuseSigned fuseReq = true := by
    unfold State.fuseSigned
    rw [fuseReq_field 0 1 (by omega)]
    rfl
  have ha : (State.takeCmd (fused.setBulk 0 fuseReq) (hd 7 8)).fuseApply fuseReq = some { fused.sec.otp with rollback := 2 } := by
    unfold State.fuseApply
    rw [fuseReq_field 0 1 (by omega), fuseReq_field 4 4 (by omega)]
    rfl
  rw [if_neg (by simp [hs]), ha]

/-- The command executes, whatever the bulk area holds. -/
theorem fuse_executes (b : Memory) : Executes Cmd.fuseProgram (hd 7 8) { fused with host := { fused.host with board := b } } := by
  have m : State.mayBegin { fused with host := { fused.host with board := b } } Cmd.fuseProgram (hd 7 8) false
      = State.mayBegin fused Cmd.fuseProgram (hd 7 8) false := by simp [State.mayBegin, State.up]
  have p : State.precheck { fused with host := { fused.host with board := b } } Cmd.fuseProgram (hd 7 8)
      = State.precheck fused Cmd.fuseProgram (hd 7 8) := by simp [State.precheck]
  refine ⟨m.trans (by decide +kernel), by decide, p.trans (by decide +kernel)⟩

/-- A completion leaves OTP, the owner key and access. -/
theorem complete_sec (s : State) (mb i a b c d j r) : (s.complete mb i a b c d j r).sec = s.sec :=
  congrArg (fun x => x.2.2.1) (State.complete_calm s mb i a b c d j r)

/-- So does an event. -/
theorem raise_sec (s : State) (v : Ev) : (s.raise v).sec = s.sec := congrArg (fun x => x.2.2.1) (State.raise_calm s v)

/-- A request that passes its checks leaves OTP as they say. -/
theorem fuse_otp (s : State) (q : List Byte) (o : Otp) (hx : Executes Cmd.fuseProgram (hd 7 8) s)
    (hc : (s.takeCmd (hd 7 8)).fuseCheck 0 64 = .ok (q, o)) :
    ∃ t, exec (.fuseProgram (hd 7 8) 0 64) s = .next t ∧ t.sec.otp = o := by
  refine ⟨_, rfl, ?_⟩
  rw [runCmd_executes _ hx, answered, complete_sec]
  simp only [hc, raise_sec]

/-- `Obligations.OtpOnlyByFuse`: the request raises the counter from 1 to 2. -/
theorem test_meets_OtpOnlyByFuse : ∃ t, exec (.fuseProgram (hd 7 8) 0 64) (fused.setBulk 0 fuseReq) = .next t
    ∧ t.sec.otp ≠ (fused.setBulk 0 fuseReq).sec.otp := by
  obtain ⟨t, ht, ho⟩ := fuse_otp (fused.setBulk 0 fuseReq) _ _ (fuse_executes (writeBytes fused.host.board 0 fuseReq)) fuseReq_check
  refine ⟨t, ht, fun h => ?_⟩
  have h1 : (2 : Nat) = 1 := by simpa [State.setBulk, fused] using congrArg Otp.rollback (ho.symm.trans h)
  omega

/-- `Obligations.MailboxDiscipline`: a command that waits, one that is too long, and one that each status refuses. -/
theorem test_meets_MailboxDiscipline :
    up.green.request = none ∧ State.reset.mayBegin Cmd.identify (hd 1 0) false = false
    ∧ (let s : State := { up with host := { up.host with mbs := Vector.replicate 8 { cmdWr := 128 } } }
       s.mayBegin Cmd.identify (hd 1 4096) false = true ∧ 16 < entriesOf (hd 1 4096).length ∧ entriesOf 4080 = 16)
    ∧ (up.mayBegin Cmd.identify (hd 1 0) false = true ∧ up.precheck Cmd.identify { hd 1 0 with major := 2 } = some 0x0003
        ∧ up.precheck Cmd.identify (hd 1 4) = some 0x0002 ∧ up.precheck Cmd.fuseProgram (hd 1 8) = some 0x0005
        ∧ up.precheck Cmd.curtainInstall (hd 1 0) = some 0x0406) := by decide +kernel

/-- A source with an outstanding record, a masked one and one without either. -/
def sources0 : State :=
  { up with evt := { up.evt with wr := 1, sources := [(798, { outstanding := some (0, ⟨5, 798, 0x0118, false, false, 1, []⟩) }), (799, { masked := true })] } }

/-- `Obligations.EventRecords`. -/
theorem test_meets_EventRecords :
    sources0.boot.evOpen = true ∧ cwf {} sources0.evt.sources = true ∧ cwf 0 sources0.host.board = true
    ∧ (cget {} sources0.evt.sources 798).outstanding = some (0, ⟨5, 798, 0x0118, false, false, 1, []⟩)
    ∧ (cget {} sources0.evt.sources 799).masked = true
    ∧ ((cget {} sources0.evt.sources 789).outstanding = none ∧ (cget {} sources0.evt.sources 789).masked = false
        ∧ (cget {} sources0.evt.sources 789).tripEnd ≤ sources0.time.fclk ∧ evMinor 789 0x0820 ≤ sources0.host.sess.getD 2) := by
  decide +kernel

/-- `Obligations.ReferencesThroughResets` and `Obligations.ColdInstead`. -/
theorem test_meets_ReferencesThroughResets :
    (∃ t, exec .powerOnReset run = .next t ∧ t.boot.phase = .held)
    ∧ (∃ t, exec (.coldReset (.resetN 10000)) run = .next t ∧ t.boot.phase = .held ∧ run.boot.phase ≠ .held)
    ∧ (let s : State := { run with ddr := { run.ddr with ran := true, state := 1 } }
       ∃ t, exec .warmResetEntry s = .next t ∧ t.boot.phase ≠ .held)
    ∧ up.boot.phase = .running ∧ up.ddr.ran = false ∧ up.boot.firmware = true := by
  refine ⟨⟨_, rfl, ?_⟩, ⟨_, rfl, ?_, ?_⟩, ⟨_, rfl, ?_⟩, ?_⟩ <;> decide +kernel

/-- `Obligations.EachKindHasItsCommands`: a command that owns no kind of state, and one that owns one. -/
theorem test_meets_EachKindHasItsCommands :
    (∃ t, exec (.evtRdWrite 0) up = .next t) ∧ isReset (.evtRdWrite 0) = false ∧ Part.owner .curtain (.evtRdWrite 0) = false
    ∧ Part.owner .curtain (.curtainNEdge true) = true := ⟨⟨_, rfl⟩, rfl, rfl, rfl⟩

end Sys2Proof.Tests
end

section
/-! PROOFS. The swap (R50, R54, R55, R58): what SWAPPING and SWAP do at their instants, and that the production that SWAP is
given is the one that runs afterwards. -/

namespace Sys2Proof.Machine

open Sys2Proof

/-! ### The running production under the last steps of a swap -/

/-- The running production belongs to the calm part: what keeps that part keeps the production. -/
theorem running_of_calm {s t : State} (h : t.calm = s.calm) : t.running = s.running := by
  simp only [State.calm, Prod.mk.injEq] at h
  obtain ⟨-, -, -, -, -, -, -, hrunning, -⟩ := h
  exact hrunning

@[simp] theorem State.review_running (s : State) : s.review.running = s.running :=
  running_of_calm s.review_calm

@[simp] theorem State.holdLinks_running (s : State) : s.holdLinks.running = s.running :=
  running_of_calm s.holdLinks_calm

@[simp] theorem State.loadRecords_running (p : Production) (s : State) : (s.loadRecords p).running = s.running :=
  running_of_calm (State.loadRecords_calm p s)

/-- After the tables have taken effect (R55), only the load of records after a warm reset, the held links and the twin's review
follow, and these keep the running production. -/
@[simp] theorem State.swapTo_running (s : State) (p : Production) (cue : Nat) : (s.swapTo p cue).running = some p := by
  unfold State.swapTo
  simp only [State.review_running, State.holdLinks_running]
  split
  case isTrue => rw [State.loadRecords_running]
  case isFalse => rfl

/-! ### The two happenings at their instants -/

/-- SWAPPING where R54 moves the CUED green room on: from 200 µs before the cue point. -/
theorem execSwapping_due {s : State} (hup : s.up = true) (hcued : s.green.state = 4)
    (hdue : s.green.cuePoint ≤ s.now + 200000) : execSwapping s = .next (s.greenTo { s.green with state := 5 }) := by
  unfold execSwapping
  rw [if_pos ⟨hup, hcued, hdue⟩]

/-- SWAP from the cue point of a SWAPPING green room on (R55, R58). -/
theorem execSwap_due {s : State} {p : Production} (hprod : s.green.prod = some p) (hup : s.up = true)
    (hswapping : s.green.state = 5) (hdue : s.green.cuePoint ≤ s.now) :
    execSwap s = .next (((s.swapTo p s.green.cuePoint).greenTo { detail := s.green.detail }).raise
      ⟨825, 0x0224, s.green.cuePoint, evData [(4, (s.running.map (·.id)).getD 0), (4, p.id)]⟩) := by
  have hmay : ¬ (s.up = false ∨ s.green.state ≠ 5 ∨ s.now < s.green.cuePoint) := by
    simp [hup, hswapping, hdue]
  unfold execSwap
  simp only [hprod, if_neg hmay]

theorem exec_swapping (s : State) : exec .swapping s = execSwapping s := rfl

theorem exec_swap (s : State) : exec .swap s = execSwap s := rfl

/-- Settles O38: each happening's guard holds at its instant, and `State.swapTo` makes the given production the running one. -/
theorem swapCompletes : Obligations.SwapCompletes := by
  unfold Obligations.SwapCompletes
  intro s
  constructor
  · intro hup hcued hdue
    rw [exec_swapping, execSwapping_due hup hcued hdue]
  · intro p hprod hup hswapping hdue
    rw [exec_swap, execSwap_due hprod hup hswapping hdue]
    exact ⟨rfl, s.swapTo_running p s.green.cuePoint⟩

end Sys2Proof.Machine
end

section
/-! PROOFS. Floor blocks (R83): the reading rules of what a late tag's substitution, a consumer and a preview change, and that an
operation of a floor block issues at once, with its late tags substituted, and freezes nothing. -/

namespace Sys2Proof.Machine

open Sys2Proof

/-! ### Tables, engines and contexts -/

theorem cwf_cmod {α : Type} [DecidableEq α] (d : α) {m : Cells α} (hm : cwf d m = true) (i : Nat) (f : α → α) :
    cwf d (cmod d m i f) = true :=
  cwf_cset d m i _ hm

theorem cget_cmod {α : Type} [DecidableEq α] (d : α) {m : Cells α} (hm : cwf d m = true) (i k : Nat) (f : α → α) :
    cget d (cmod d m i f) k = if i = k then f (cget d m i) else cget d m k :=
  cget_cset d m i k _ hm

/-- A change that is the same once or several times, made at listed numbers of a table: what each number then reads as. -/
theorem cget_foldl_cmod {α : Type} [DecidableEq α] {d : α} {f : α → α} (hf : ∀ x, f (f x) = f x) (ks : List Nat)
    {m : Cells α} (hm : cwf d m = true) (k : Nat) :
    cget d (ks.foldl (fun m i => cmod d m i f) m) k = if k ∈ ks then f (cget d m k) else cget d m k := by
  induction ks generalizing m with
  | nil => simp
  | cons i ks ih =>
    rw [List.foldl_cons, ih (cwf_cmod d hm i f), cget_cmod d hm]
    by_cases hik : i = k
    · subst hik
      simp [hf]
    · simp [hik, Ne.symm hik]

@[simp] theorem vset_vset {α : Type} {n : Nat} (v : Vector α n) (i : Fin n) (x y : α) : vset (vset v i x) i y = vset v i y := by
  simp [vset]

@[simp] theorem State.setEngine_engine (s : State) (e : Fin 16) (g : Engine) : vget (s.setEngine e g).engines e = g :=
  vget_vset_self s.engines e g

@[simp] theorem State.setEngine_setEngine (s : State) (e : Fin 16) (g k : Engine) :
    (s.setEngine e g).setEngine e k = s.setEngine e k := by
  simp [State.setEngine]

@[simp] theorem State.setEngine_ctxSt (s : State) (e : Fin 16) (g : Engine) (k : Nat) : (s.setEngine e g).ctxSt k = s.ctxSt k := rfl

theorem State.setEngine_setCtx (s : State) (e : Fin 16) (g : Engine) (c : Nat) (x : CtxState) :
    (s.setEngine e g).setCtx c x = (s.setCtx c x).setEngine e g := rfl

theorem State.setCtx_ctxSt {s : State} (hc : cwf {} s.ctxs = true) (c : Nat) (x : CtxState) (k : Nat) :
    (s.setCtx c x).ctxSt k = if c = k then x else s.ctxSt k :=
  cget_cset ({} : CtxState) s.ctxs c k x hc

theorem State.setCtx_wf {s : State} (hc : cwf {} s.ctxs = true) (c : Nat) (x : CtxState) :
    cwf {} (s.setCtx c x).ctxs = true :=
  cwf_cset {} s.ctxs c x hc

@[simp] theorem State.raise_ctxSt (s : State) (v : Ev) (k : Nat) : (s.raise v).ctxSt k = s.ctxSt k := by
  simp [State.ctxSt]

@[simp] theorem State.raiseAll_ctxSt (s : State) (vs : List Ev) (k : Nat) : (s.raiseAll vs).ctxSt k = s.ctxSt k := by
  simp [State.ctxSt]

/-- The event unit does not look at the engines. -/
theorem State.setEngine_raise (s : State) (e : Fin 16) (g : Engine) (v : Ev) :
    (s.setEngine e g).raise v = (s.raise v).setEngine e g := by
  unfold State.raise
  rw [State.setEngine_boot]
  cases s.boot.evOpen <;> rfl

/-! ### Substitution and LATE_READ (R81, R83) -/

/-- The tags of a unit operation that have not arrived. -/
def Engine.lateOf (g : Engine) (d : UnitDesc) : List Nat := d.tags.filter (fun t => !(cget {} g.tags t).arrived)

theorem Engine.lateOf_def (g : Engine) (d : UnitDesc) : g.lateOf d = d.tags.filter (fun t => !(cget {} g.tags t).arrived) := rfl

theorem Engine.mem_lateOf {g : Engine} {d : UnitDesc} {k : Nat} :
    k ∈ g.lateOf d ↔ d.tags.contains k = true ∧ (cget {} g.tags k).arrived = false := by
  simp [Engine.lateOf]

/-- What a tag reads as when it has been substituted. -/
def Tag.lost (x : Tag) : Tag := { x with arrived := true, valid := false }

/-- Lost reads change the search caches only. -/
theorem Engine.foldl_readDone_eq (k : Engine) (ts : List Nat) (no : Engine → Nat → Nat) :
    ∃ w l, ts.foldl (fun (g : Engine) t => g.readDone (no g t) false) k = { k with windows := w, slots := l } := by
  induction ts generalizing k with
  | nil => exact ⟨_, _, rfl⟩
  | cons t ts ih => exact ih (k.readDone (no k t) false)

/-- Substitution changes the tags, their count and the search caches. -/
theorem Engine.substitute_eq (g : Engine) (ts : List Nat) :
    ∃ w l, g.substitute ts = { g with
      tags := ts.foldl (fun m t => cmod {} m t Tag.lost) g.tags
      n := { g.n with substs := satAdd 32 g.n.substs ts.length }
      windows := w, slots := l } :=
  Engine.foldl_readDone_eq _ ts (fun k t => readNo t (cget ({} : Tag) k.tags t).gen)

/-- The tags behind a substitution. -/
theorem Engine.substitute_tag {g : Engine} (hg : cwf {} g.tags = true) (ts : List Nat) (k : Nat) :
    cget {} (g.substitute ts).tags k = if k ∈ ts then (cget {} g.tags k).lost else cget {} g.tags k := by
  obtain ⟨w, l, heq⟩ := g.substitute_eq ts
  rw [heq]
  exact cget_foldl_cmod (f := Tag.lost) (fun _ => rfl) ts hg k

theorem Engine.substitute_class {g : Engine} (hg : cwf {} g.tags = true) (ts : List Nat) (k : Nat) :
    (cget {} (g.substitute ts).tags k).desc.cls = (cget {} g.tags k).desc.cls := by
  rw [Engine.substitute_tag hg]
  split <;> rfl

@[simp] theorem State.lateRead_engines (s : State) (e : Fin 16) (ts : List Nat) : (s.lateRead e ts).engines = s.engines := by
  simp [State.lateRead]

theorem State.lateRead_wf {s : State} (hc : cwf {} s.ctxs = true) (e : Fin 16) (ts : List Nat) :
    cwf {} (s.lateRead e ts).ctxs = true := by
  rw [State.lateRead, State.raise_ctxs]
  exact State.setCtx_wf hc _ _

theorem State.lateRead_counts {s : State} (hc : cwf {} s.ctxs = true) (e : Fin 16) (ts : List Nat) :
    ((s.lateRead e ts).ctxSt (vget s.engines e).q.context).lateReads
      = satAdd 32 (s.ctxSt (vget s.engines e).q.context).lateReads 1 := by
  rw [State.lateRead, State.raise_ctxSt, State.setCtx_ctxSt hc, if_pos rfl]

/-- A slot of the word at which the sequencer stands has issued. -/
def Engine.didSlot (g : Engine) (slot : Nat) : Engine := { g with q := { g.q with did := slot :: g.q.did } }

@[simp] theorem Engine.didSlot_c (g : Engine) (slot : Nat) : (g.didSlot slot).c = g.c := rfl

/-- LATE_READ does not look at the slots that have issued. -/
theorem State.lateRead_didSlot (s : State) (e : Fin 16) (slot : Nat) (ts : List Nat) :
    (s.setEngine e ((vget s.engines e).didSlot slot)).lateRead e ts
      = (s.lateRead e ts).setEngine e ((vget s.engines e).didSlot slot) := by
  simp only [State.lateRead, State.setEngine_engine, State.setEngine_setCtx, State.setEngine_raise]
  rfl

/-! ### Consumers of invalid tags (R82) -/

/-- A consumer changes the CTU in work, and only a tag of class 3 makes a layer lost. -/
theorem Engine.consume_one (g : Engine) (t quad : Nat) :
    ∃ c, g.consume [t] quad = { g with c := c } ∧ ((cget {} g.tags t).desc.cls ≠ 3 → c.badLayers = g.c.badLayers) := by
  simp only [Engine.consume, List.foldl_cons, List.foldl_nil]
  split
  case isTrue => exact ⟨g.c, rfl, fun _ => rfl⟩
  case isFalse =>
    split
    case h_1 => split <;> exact ⟨_, rfl, fun _ => rfl⟩
    case h_2 => split <;> exact ⟨_, rfl, fun _ => rfl⟩
    case h_3 => exact ⟨_, rfl, fun _ => rfl⟩
    case h_4 hcls => exact ⟨_, rfl, fun hne => absurd hcls hne⟩
    case h_5 => exact ⟨g.c, rfl, fun _ => rfl⟩

theorem Engine.consume_cons (g : Engine) (t : Nat) (ts : List Nat) (quad : Nat) :
    g.consume (t :: ts) quad = (g.consume [t] quad).consume ts quad := rfl

theorem Engine.consume_eq (g : Engine) (ts : List Nat) (quad : Nat) :
    ∃ c, g.consume ts quad = { g with c := c }
      ∧ ((∀ t ∈ ts, (cget {} g.tags t).desc.cls ≠ 3) → c.badLayers = g.c.badLayers) := by
  induction ts generalizing g with
  | nil => exact ⟨g.c, rfl, fun _ => rfl⟩
  | cons t ts ih =>
    obtain ⟨c, hone, hlayers⟩ := g.consume_one t quad
    obtain ⟨c', hrest, hlayers'⟩ := ih { g with c := c }
    refine ⟨c', by rw [Engine.consume_cons, hone, hrest], fun hcls => ?_⟩
    rw [hlayers' (fun x hx => hcls x (List.mem_cons_of_mem t hx)), hlayers (hcls t List.mem_cons_self)]

/-! ### A composed CTU enters the preview ring again (R207, R211) -/

/-- `t` is `s` but for pictures, DDR5 and what contexts hold beside their late reads. -/
structure State.SameCues (s t : State) : Prop where
  engines : t.engines = s.engines
  wf : cwf {} t.ctxs = true
  lateReads : ∀ k, (t.ctxSt k).lateReads = (s.ctxSt k).lateReads

theorem State.SameCues.refl {s : State} (hc : cwf {} s.ctxs = true) : s.SameCues s := ⟨rfl, hc, fun _ => rfl⟩

theorem State.SameCues.trans {s t u : State} (h : s.SameCues t) (k : t.SameCues u) : s.SameCues u :=
  ⟨k.engines.trans h.engines, k.wf, fun c => (k.lateReads c).trans (h.lateReads c)⟩

theorem State.keepPreview_sameCues {s : State} (hc : cwf {} s.ctxs = true) (c : Ctx) (frame qy : Nat) (p : Picture) :
    s.SameCues (s.keepPreview c frame qy p) := by
  refine ⟨rfl, State.setCtx_wf hc _ _, fun k => ?_⟩
  rw [State.keepPreview, State.setCtx_ctxSt hc]
  split
  case isTrue hk => rw [hk]
  case isFalse => rfl

theorem State.previewQuad_sameCues {s : State} (hc : cwf {} s.ctxs = true) (j : Job) (frame qx qy : Nat) (samples : List Nat) :
    s.SameCues (s.previewQuad j frame qx qy samples) := by
  unfold State.previewQuad
  dsimp only
  split
  case isTrue =>
    split
    case isTrue =>
      obtain ⟨hengines, hwf, hlate⟩ := State.keepPreview_sameCues (s := { s with pictures := _, ddr := _ }) hc j.ctx frame qy _
      exact ⟨hengines, hwf, hlate⟩
    case isFalse => exact ⟨rfl, hc, fun _ => rfl⟩
  case isFalse => exact .refl hc

theorem State.previewCtu_sameCues {s : State} (hc : cwf {} s.ctxs = true) (e : Fin 16) (j : Job) (qs : List Nat) :
    s.SameCues (s.previewCtu e j qs) :=
  List.foldlRecOn qs _ (State.SameCues.refl hc) (fun _ h _ _ => h.trans (State.previewQuad_sameCues h.wf _ _ _ _ _))

/-- Composing the CTU again changes the CTU in work of its engine. -/
theorem State.recompose_sameCues {s : State} (hc : cwf {} s.ctxs = true) (e : Fin 16) (j : Job) :
    ∃ c, (s.setEngine e { vget s.engines e with c := c }).SameCues (s.recompose e j) :=
  ⟨_, State.previewCtu_sameCues (s := s.setEngine e _) hc e j _⟩

theorem State.recompose_engine {s : State} (hc : cwf {} s.ctxs = true) (e : Fin 16) (j : Job) :
    ∃ c, vget (s.recompose e j).engines e = { vget s.engines e with c := c } := by
  obtain ⟨c, hsame⟩ := State.recompose_sameCues hc e j
  exact ⟨c, by rw [hsame.engines, State.setEngine_engine]⟩

theorem State.recompose_lateReads {s : State} (hc : cwf {} s.ctxs = true) (e : Fin 16) (j : Job) (k : Nat) :
    ((s.recompose e j).ctxSt k).lateReads = (s.ctxSt k).lateReads := by
  obtain ⟨c, hsame⟩ := State.recompose_sameCues hc e j
  rw [hsame.lateReads, State.setEngine_ctxSt]

/-! ### An operation of a floor block issues -/

/-- The word at which the sequencer stands is the first that is due, and no tag freezes it. -/
theorem reach_here {t : EngineTab} {late : List Nat → Bool} {want : Nat → CueWord → Bool} {cycle n a due : Nat} {issued : Bool}
    {w : CueWord} (hw : t.words[a]? = some w) (hdue : due ≤ cycle) (hlate : late (t.consumed w) = false) (hwant : want a w = true) :
    reach t late want cycle (n + 1) a due issued = some ⟨a, due, w, false⟩ := by
  simp [reach, hw, Nat.not_lt.mpr hdue, hlate, hwant]

/-- In a block that cannot freeze, an operation of the due word that has not issued issues. -/
theorem State.reachWord_steady {s : State} {e : Fin 16} {t : EngineTab} {slot : Nat} {want : Nat → CueWord → Bool} {w : CueWord}
    (hissues : (vget s.engines e).issues = true) (hsteady : (vget s.engines e).steady = true)
    (hw : t.words[(vget s.engines e).q.pc]? = some w) (hdue : (vget s.engines e).q.due ≤ s.cycle)
    (hwant : want (vget s.engines e).q.pc w = true) (hdid : (vget s.engines e).q.did.contains slot = false) :
    s.reachWord e t slot want
      = (s, some ((vget s.engines e).didSlot slot, ⟨(vget s.engines e).q.pc, (vget s.engines e).q.due, w, false⟩)) := by
  unfold State.reachWord
  simp only [hissues, hsteady, Bool.not_true, Bool.false_and]
  rw [reach_here hw hdue rfl (by rw [hwant, hdid, Bool.and_false]; rfl)]
  simp [Engine.didSlot]

/-- The tags of a unit operation that count for its CTU as it issues: the coarse search keeps the validity of its columns
(R163). -/
def Engine.effective (g : Engine) (u : Nat) (d : UnitDesc) : List Nat :=
  if u = 2 then d.tags.filter (fun t => decide (2 ≤ (cget {} g.tags t).desc.cls)) else d.tags

theorem Engine.effective_def (g : Engine) (u : Nat) (d : UnitDesc) :
    g.effective u d = if u = 2 then d.tags.filter (fun t => decide (2 ≤ (cget {} g.tags t).desc.cls)) else d.tags := rfl

/-- The engine behind a unit operation that issues. -/
def Engine.issued (g : Engine) (u : Nat) (d : UnitDesc) : Engine := (g.substitute (g.lateOf d)).consume (g.effective u d) d.quad

theorem Engine.issued_def (g : Engine) (u : Nat) (d : UnitDesc) :
    g.issued u d = (g.substitute (g.lateOf d)).consume (g.effective u d) d.quad := rfl

/-- An engine that has issued differs in its tags and their substitutions, its search caches and its CTU in work; only a tag of
class 3 makes a layer lost. -/
theorem Engine.issued_eq {g : Engine} (hg : cwf {} g.tags = true) (u : Nat) (d : UnitDesc) :
    ∃ c w l, g.issued u d = { g with
        tags := (g.lateOf d).foldl (fun m t => cmod {} m t Tag.lost) g.tags
        n := { g.n with substs := satAdd 32 g.n.substs (g.lateOf d).length }
        windows := w, slots := l, c := c }
      ∧ ((∀ k ∈ d.tags, (cget {} g.tags k).desc.cls ≠ 3) → c.badLayers = g.c.badLayers) := by
  obtain ⟨w, l, hsub⟩ := g.substitute_eq (g.lateOf d)
  obtain ⟨c, hcons, hlayers⟩ := (g.substitute (g.lateOf d)).consume_eq (g.effective u d) d.quad
  refine ⟨c, w, l, by rw [Engine.issued, hcons, hsub], fun hcls => ?_⟩
  rw [hlayers, hsub]
  intro k hk
  rw [Engine.substitute_class hg]
  refine hcls k ?_
  unfold Engine.effective at hk
  split at hk
  case isTrue => exact List.mem_of_mem_filter hk
  case isFalse => exact hk

/-- The tags behind an operation: the late ones read as substituted. -/
theorem Engine.issued_tag {g : Engine} (hg : cwf {} g.tags = true) (u : Nat) (d : UnitDesc) (k : Nat) :
    cget {} (g.issued u d).tags k
      = if d.tags.contains k = true ∧ (cget {} g.tags k).arrived = false then (cget {} g.tags k).lost else cget {} g.tags k := by
  obtain ⟨c, hcons, -⟩ := (g.substitute (g.lateOf d)).consume_eq (g.effective u d) d.quad
  rw [Engine.issued_def, hcons]
  simp only [Engine.substitute_tag hg, Engine.mem_lateOf]

/-- LATE_READ, when a tag is late. -/
def State.reportLate (s : State) (e : Fin 16) (ts : List Nat) : State := if ts = [] then s else s.lateRead e ts

theorem State.reportLate_of_ne {ts : List Nat} (hts : ts ≠ []) (s : State) (e : Fin 16) : s.reportLate e ts = s.lateRead e ts :=
  if_neg hts

theorem State.reportLate_wf {s : State} (hc : cwf {} s.ctxs = true) (e : Fin 16) (ts : List Nat) :
    cwf {} (s.reportLate e ts).ctxs = true := by
  unfold State.reportLate
  split
  case isTrue => exact hc
  case isFalse => exact State.lateRead_wf hc e ts

/-- A CTU in a floor block is a floor CTU: R82 makes no other of it. -/
theorem State.refloor_inFloor {s : State} {e : Fin 16} (hfloor : (vget s.engines e).inFloor = true) (j : Job) : s.refloor e j = s := by
  unfold State.refloor
  dsimp only
  split
  case h_1 => rw [if_pos (.inl hfloor)]
  case h_2 => rfl

/-- A unit operation in a floor block, at the word that the sequencer stands at and whose cycle has come; it is not the first of its
slot. -/
structure State.FloorDue (s : State) (e : Fin 16) (u op desc : Nat) (j : Job) (w : CueWord) (d : UnitDesc) : Prop where
  floor : (vget s.engines e).q.floor = true
  block : (vget s.engines e).q.inBlock = true
  started : (vget s.engines e).q.startDue = false
  tags : cwf {} (vget s.engines e).tags = true
  ctxs : cwf {} s.ctxs = true
  job : s.job e = some j
  unitDesc : j.tab.unitDesc u desc = some d
  issues : (vget s.engines e).issues = true
  word : j.tab.words[(vget s.engines e).q.pc]? = some w
  due : (vget s.engines e).q.due ≤ s.cycle
  op : w.op u = (op, desc)
  did : (vget s.engines e).q.did.contains u = false

section
variable {s : State} {e : Fin 16} {u op desc : Nat} {j : Job} {w : CueWord} {d : UnitDesc}

theorem State.FloorDue.reachWord (h : s.FloorDue e u op desc j w d) :
    s.reachWord e j.tab u (fun _ w => w.op u == (op, desc))
      = (s, some ((vget s.engines e).didSlot u, ⟨(vget s.engines e).q.pc, (vget s.engines e).q.due, w, false⟩)) :=
  State.reachWord_steady h.issues (by simp [Engine.steady, h.floor, h.block]) h.word h.due (by simp [h.op]) h.did

/-- LATE_READ, then the engine as issued. -/
theorem State.reportLate_didSlot (s : State) (e : Fin 16) (u : Nat) (ts : List Nat) (g : Engine) :
    (if ts = [] then s.setEngine e ((vget s.engines e).didSlot u)
      else (s.setEngine e ((vget s.engines e).didSlot u)).lateRead e ts).setEngine e g = (s.reportLate e ts).setEngine e g := by
  unfold State.reportLate
  split
  case isTrue => exact State.setEngine_setEngine ..
  case isFalse => rw [State.lateRead_didSlot, State.setEngine_setEngine]

/-- The state behind a due operation of a floor block, before any lost layer has the CTU composed again: LATE_READ for the late
tags, the engine as issued, and the events of lost layers. -/
def State.floorIssued (s : State) (e : Fin 16) (u : Nat) (d : UnitDesc) (evs : List Ev) : State :=
  State.raiseAll ((s.reportLate e ((vget s.engines e).lateOf d)).setEngine e (((vget s.engines e).didSlot u).issued u d)) evs

@[simp] theorem State.floorIssued_engine (s : State) (e : Fin 16) (u : Nat) (d : UnitDesc) (evs : List Ev) :
    vget (s.floorIssued e u d evs).engines e = ((vget s.engines e).didSlot u).issued u d := by
  simp [State.floorIssued]

theorem State.floorIssued_wf {s : State} (hc : cwf {} s.ctxs = true) (e : Fin 16) (u : Nat) (d : UnitDesc) (evs : List Ev) :
    cwf {} (s.floorIssued e u d evs).ctxs = true := by
  rw [State.floorIssued, State.raiseAll_ctxs]
  exact State.reportLate_wf hc e _

@[simp] theorem State.floorIssued_ctxSt (s : State) (e : Fin 16) (u : Nat) (d : UnitDesc) (evs : List Ev) (k : Nat) :
    (s.floorIssued e u d evs).ctxSt k = (s.reportLate e ((vget s.engines e).lateOf d)).ctxSt k := by
  simp [State.floorIssued]

theorem State.FloorDue.issued_startDue (h : s.FloorDue e u op desc j w d) :
    (((vget s.engines e).didSlot u).issued u d).q.startDue = false := by
  obtain ⟨c, windows, slots, hissued, -⟩ := Engine.issued_eq (g := (vget s.engines e).didSlot u) h.tags u d
  rw [hissued]
  exact h.started

theorem State.FloorDue.issued_inFloor (h : s.FloorDue e u op desc j w d) :
    (((vget s.engines e).didSlot u).issued u d).inFloor = true := by
  obtain ⟨c, windows, slots, hissued, -⟩ := Engine.issued_eq (g := (vget s.engines e).didSlot u) h.tags u d
  rw [hissued]
  simp [Engine.inFloor, Engine.didSlot, h.floor, h.block]

theorem State.FloorDue.floorIssued_refloor (h : s.FloorDue e u op desc j w d) (evs : List Ev) :
    (s.floorIssued e u d evs).refloor e j = s.floorIssued e u d evs :=
  State.refloor_inFloor (by rw [State.floorIssued_engine, h.issued_inFloor]) j

theorem State.FloorDue.recompose_refloor (h : s.FloorDue e u op desc j w d) (evs : List Ev) :
    ((s.floorIssued e u d evs).recompose e j).refloor e j = (s.floorIssued e u d evs).recompose e j := by
  obtain ⟨c, hengine⟩ := State.recompose_engine (State.floorIssued_wf h.ctxs e u d evs) e j
  refine State.refloor_inFloor ?_ j
  rw [hengine, State.floorIssued_engine]
  exact h.issued_inFloor

/-- A due operation of a floor block issues; only a lost layer has its CTU composed again. -/
theorem State.FloorDue.of_issue (h : s.FloorDue e u op desc j w d) {t : State} {r : Option (Job × UnitDesc)}
    (hissue : s.issue e u op desc = (t, r)) :
    r = some (j, d) ∧ ∃ evs, t = s.floorIssued e u d evs
      ∨ (((vget s.engines e).didSlot u).issued u d).c.badLayers ≠ (vget s.engines e).c.badLayers
        ∧ t = (s.floorIssued e u d evs).recompose e j := by
  unfold State.issue at hissue
  simp only [h.job, h.unitDesc, h.reachWord] at hissue
  rw [← Engine.lateOf_def, ← Engine.effective_def, ← Engine.issued_def] at hissue
  simp only [h.issued_startDue, State.reportLate_didSlot, Bool.false_eq_true, false_and, if_false] at hissue
  obtain ⟨ht, hr⟩ := Prod.mk.inj hissue
  refine ⟨hr.symm, ?_⟩
  clear hissue
  split at ht
  case isTrue => exact ⟨_, .inl (ht.symm.trans (h.floorIssued_refloor _))⟩
  case isFalse hlost =>
    exact ⟨_, .inr ⟨fun heq => hlost (by simp [heq]), ht.symm.trans (h.recompose_refloor _)⟩⟩

/-- The engine behind the operation: it has issued, and only its CTU in work may have changed further. -/
theorem State.FloorDue.engine_of_issue (h : s.FloorDue e u op desc j w d) {t : State} {r : Option (Job × UnitDesc)}
    (hissue : s.issue e u op desc = (t, r)) :
    ∃ c, vget t.engines e = { ((vget s.engines e).didSlot u).issued u d with c := c } := by
  obtain ⟨-, evs, rfl | ⟨-, rfl⟩⟩ := h.of_issue hissue
  · exact ⟨_, State.floorIssued_engine s e u d evs⟩
  · rw [← State.floorIssued_engine s e u d evs]
    exact State.recompose_engine (State.floorIssued_wf h.ctxs e u d evs) e j

/-- LATE_READ counts once for the context of a late operation. -/
theorem State.FloorDue.lateReads_of_issue (h : s.FloorDue e u op desc j w d) {t : State} {r : Option (Job × UnitDesc)}
    (hissue : s.issue e u op desc = (t, r)) (hlate : (vget s.engines e).lateOf d ≠ []) :
    (t.ctxSt (vget s.engines e).q.context).lateReads = satAdd 32 (s.ctxSt (vget s.engines e).q.context).lateReads 1 := by
  rw [← State.lateRead_counts h.ctxs e ((vget s.engines e).lateOf d), ← State.reportLate_of_ne hlate]
  obtain ⟨-, evs, rfl | ⟨-, rfl⟩⟩ := h.of_issue hissue
  · rw [State.floorIssued_ctxSt]
  · rw [State.recompose_lateReads (State.floorIssued_wf h.ctxs e u d evs), State.floorIssued_ctxSt]

/-- Where no tag of the operation is a layer's (class 3), no layer is lost, and nothing is composed again. -/
theorem State.FloorDue.eq_floorIssued (h : s.FloorDue e u op desc j w d) {t : State} {r : Option (Job × UnitDesc)}
    (hissue : s.issue e u op desc = (t, r)) (hcls : ∀ k ∈ d.tags, (cget {} (vget s.engines e).tags k).desc.cls ≠ 3) :
    ∃ evs, t = s.floorIssued e u d evs := by
  obtain ⟨-, evs, ht | ⟨hlost, -⟩⟩ := h.of_issue hissue
  · exact ⟨evs, ht⟩
  · obtain ⟨c, windows, slots, hissued, hlayers⟩ := Engine.issued_eq (g := (vget s.engines e).didSlot u) h.tags u d
    exact absurd (by rw [hissued]; exact hlayers hcls) hlost

end

/-- Settles O57: the operation issues, so that nothing freezes; its engine's tags are those of a substitution of the late ones, and
LATE_READ is raised before the engine goes on. -/
theorem floorNeverFreezes : Obligations.FloorNeverFreezes := by
  unfold Obligations.FloorNeverFreezes
  rintro s t e u op desc g j w d r rfl hfloor hblock hstarted htags hctxs hjob hdesc hissues hw hdue hop hdid hissue
  have h : s.FloorDue e u op desc j w d := ⟨hfloor, hblock, hstarted, htags, hctxs, hjob, hdesc, hissues, hw, hdue, hop, hdid⟩
  obtain ⟨c, hengine⟩ := h.engine_of_issue hissue
  obtain ⟨c', windows, slots, hissued, -⟩ := Engine.issued_eq (g := (vget s.engines e).didSlot u) htags u d
  refine ⟨(h.of_issue hissue).1, ?state, ?frozenAt, ?lateness, ?frz, ?freezes, fun k => ?tags, fun late hlates hlate => ?lateRead⟩
  case tags =>
    rw [hengine]
    exact Engine.issued_tag (g := (vget s.engines e).didSlot u) htags u d k
  case lateRead =>
    rw [← Engine.lateOf_def] at hlates
    subst hlates
    refine ⟨h.lateReads_of_issue hissue hlate, fun hcls => ?_⟩
    obtain ⟨evs, rfl⟩ := h.eq_floorIssued hissue hcls
    exact ⟨evs, by rw [State.floorIssued_engine, State.floorIssued, State.reportLate_of_ne hlate]⟩
  all_goals rw [hengine, hissued]; rfl

end Sys2Proof.Machine
end

section
/-! PROOFS. The egress selection (R275, R277, R497): the heads that may leave are ordered by class, then by start tag or release
stamp, then by queue number, and the selection is the first of them in this order. -/

namespace Sys2Proof.Machine

open Sys2Proof

/-! ### The order of the selection -/

/-- What orders two heads of one class (R275, R277): the start tag S in the weighted group, the release stamp in a strict class. -/
def State.orderTag (s : State) (h : Head) : Nat := if h.cls = 8 then (s.queue h.q).s else h.item.release

/-- The place of a head in the order of R275 and R277. -/
def State.rank (s : State) (h : Head) : ℕ ×ₗ ℕ ×ₗ ℕ := toLex (h.cls, toLex (s.orderTag h, h.q))

theorem State.orderTag_weighted (s : State) {h : Head} (hcls : h.cls = 8) : s.orderTag h = (s.queue h.q).s := if_pos hcls

theorem State.rank_lt_iff (s : State) (a b : Head) :
    s.rank a < s.rank b ↔
      a.cls < b.cls ∨ a.cls = b.cls ∧ (s.orderTag a < s.orderTag b ∨ s.orderTag a = s.orderTag b ∧ a.q < b.q) := by
  simp only [State.rank, Prod.Lex.toLex_lt_toLex]

theorem State.goesBefore_iff (s : State) (a b : Head) : s.goesBefore a b = true ↔ s.rank a < s.rank b := by
  rw [State.rank_lt_iff]
  unfold State.goesBefore
  split
  case isTrue hne => simp [hne]
  case isFalse heq => simp [not_not.mp heq, State.orderTag]

/-- Of two weighted heads, the one that is not behind has the lesser S, or the same S and no greater queue number. -/
theorem State.weighted_of_rank_le (s : State) {a b : Head} (ha : a.cls = 8) (hb : b.cls = 8) (hle : s.rank a ≤ s.rank b) :
    (s.queue a.q).s ≤ (s.queue b.q).s ∧ ((s.queue a.q).s = (s.queue b.q).s → a.q ≤ b.q) := by
  have hnot := not_lt.mpr hle
  rw [State.rank_lt_iff, s.orderTag_weighted ha, s.orderTag_weighted hb] at hnot
  omega

/-! ### The heads that may leave -/

/-- A head may leave: it is eligible (R274), and confirmed where the gate of R497 is in force. -/
def State.mayLeave (s : State) (h : Head) : Bool := s.eligible h && (!s.gated || (s.queue h.q).hasConfirmed h.item.seq)

theorem State.mayLeave_iff (s : State) (h : Head) :
    s.mayLeave h = true ↔ s.eligible h = true ∧ (s.gated = false ∨ (s.queue h.q).hasConfirmed h.item.seq = true) := by
  simp [State.mayLeave]

/-- The selection is the first, in the order of R275 and R277, of the heads that may leave. -/
theorem State.select_eq_argmin (s : State) : s.select = (s.heads.filter s.mayLeave).argmin s.rank := by
  unfold State.select List.argmin
  refine congrArg (fun f => List.foldl f none (s.heads.filter s.mayLeave)) (funext₂ fun best h => ?_)
  cases best with
  | none => rfl
  | some x => simp only [List.argAux, State.goesBefore_iff]

theorem State.mem_of_select {s : State} {h : Head} (hsel : s.select = some h) : h ∈ s.heads ∧ s.mayLeave h = true := by
  rw [State.select_eq_argmin] at hsel
  exact List.mem_filter.mp (List.argmin_mem hsel)

theorem State.rank_le_of_select {s : State} {h k : Head} (hsel : s.select = some h) (hk : k ∈ s.heads) (hleave : s.mayLeave k = true) :
    s.rank h ≤ s.rank k := by
  rw [State.select_eq_argmin] at hsel
  exact List.le_of_mem_argmin (List.mem_filter.mpr ⟨hk, hleave⟩) hsel

/-- Settles O56: the selected head may leave, and no weighted head that may leave stands before it in the order of R277. -/
theorem weightedChoice : Obligations.WeightedChoice := by
  unfold Obligations.WeightedChoice
  intro s h hsel hcls
  obtain ⟨hmem, hleave⟩ := State.mem_of_select hsel
  refine ⟨hmem, ((s.mayLeave_iff h).mp hleave).1, fun k hk hkcls heligible hgate => ?_⟩
  have hle : s.rank h ≤ s.rank k := State.rank_le_of_select hsel hk ((s.mayLeave_iff k).mpr ⟨heligible, hgate⟩)
  exact s.weighted_of_rank_le hcls hkcls hle

end Sys2Proof.Machine
end

section
/-! PROOFS. The references through resets (R382): a cold or power-on reset restores the defaults of R364 and R368; a warm entry, its
save and the boot behind it keep references and house time, and none of them ends with the block held in reset. -/

namespace Sys2Proof.Machine

open Sys2Proof

/-! ### References and house time -/

/-- What R382 carries through a warm reset: the candidates, the DPLL and house time. -/
def State.clockState (s : State) : Vector Candidate 16 × Dpll × HouseTime := (s.cands, s.dpll, s.time)

theorem State.clockState_eq_iff {s t : State} :
    t.clockState = s.clockState ↔ t.cands = s.cands ∧ t.dpll = s.dpll ∧ t.time = s.time := by
  simp [State.clockState]

/-- They belong to the calm part: what keeps that part keeps them. -/
theorem clockState_of_calm {s t : State} (h : t.calm = s.calm) : t.clockState = s.clockState := by
  simp only [State.calm, Prod.mk.injEq] at h
  obtain ⟨htime, -, -, -, -, -, -, -, -, -, -, -, -, -, -, hcands, hdpll⟩ := h
  exact State.clockState_eq_iff.mpr ⟨hcands, hdpll, htime⟩

@[simp] theorem State.raise_clockState (s : State) (e : Ev) : (s.raise e).clockState = s.clockState :=
  clockState_of_calm (s.raise_calm e)

/-- The defaults of R364 and R368, with the DPLL in FREERUN, every candidate DISQUALIFIED, no history and nothing sticky (R382). -/
theorem State.coldHeld_references (s : State) (cause : Nat) :
    (s.coldHeld cause).dpll = {} ∧ (s.coldHeld cause).dpll.state = 0 ∧ (s.coldHeld cause).dpll.sticky = 0
    ∧ (s.coldHeld cause).dpll.samples = 0
    ∧ ∀ i : Fin 16, vget (s.coldHeld cause).cands i = { cfg := ⟨0, 50, if i.val < 4 then 0 else 100000000, 100, 50, 60⟩ }
      ∧ (vget (s.coldHeld cause).cands i).state = 0 ∧ (vget (s.coldHeld cause).cands i).sticky = 0 := by
  refine ⟨rfl, rfl, rfl, rfl, fun i => ?_⟩
  have hcand : vget (s.coldHeld cause).cands i = { cfg := ⟨0, 50, if i.val < 4 then 0 else 100000000, 100, 50, 60⟩ } := by
    simp only [State.coldHeld, State.reset, vget_ofFn]
    split <;> rfl
  simp [hcand]

/-! ### The warm entry and its save -/

theorem State.enterWarm_clockState (s : State) (cause : Nat) (hardware : Bool) :
    (s.enterWarm cause hardware).clockState = s.clockState := by
  refine Eq.trans ?_ (clockState_of_calm s.closeAll_calm)
  unfold State.enterWarm
  cases hardware <;> rfl

@[simp] theorem State.moveCurtain_clockState (s : State) (k : Curtain) (cause : Nat) :
    (s.moveCurtain k cause).clockState = s.clockState := by
  unfold State.moveCurtain
  split
  case isTrue => rfl
  case isFalse => exact State.raise_clockState _ _

theorem State.entryWrites_clockState (s : State) : s.entryWrites.clockState = s.clockState :=
  clockState_of_calm s.entryWrites_calm

/-! ### The boot -/

@[simp] theorem State.review_boot (s : State) : s.review.boot = s.boot := State.raiseAll_boot _ _

@[simp] theorem State.retrain9_clockState (s : State) : s.retrain9.clockState = s.clockState := by
  unfold State.retrain9
  split <;> rfl

@[simp] theorem State.retrain9_boot (s : State) : s.retrain9.boot = s.boot := by
  unfold State.retrain9
  split <;> rfl

@[simp] theorem State.trained_calm (s : State) (f : DdrFound) : (s.trained f).1.calm = s.calm :=
  foldl_calm (fun t (m : Fin 12 × Nat × Nat) => t.markComp m.1 m.2.1 m.2.2 2)
    (fun t m => t.markComp_calm m.1 m.2.1 m.2.2 2) (trainMarks f) _

@[simp] theorem State.selftest_clockState (s : State) (b : BootInputs) : (s.selftest b).1.clockState = s.clockState :=
  clockState_of_calm (s.selftest_calm b)

@[simp] theorem State.bootError_clockState (s : State) (code : Nat) : (s.bootError code).clockState = s.clockState := rfl

@[simp] theorem State.withBoot_clockState (s : State) (o : Boot) : ({ s with boot := o } : State).clockState = s.clockState := rfl

@[simp] theorem State.romLink_clockState (s : State) : s.romLink.clockState = s.clockState := rfl

/-- READY writes its reading of VCORE into the calm part, but no reference and no house time. -/
theorem State.ready_clockState (s : State) (b : BootInputs) (es : List Ev) : (s.ready b es).clockState = s.clockState := by
  unfold State.ready
  dsimp only
  rw [clockState_of_calm (State.review_calm _), clockState_of_calm (State.raiseAll_calm _ _)]
  exact State.retrain9_clockState _

theorem State.ready_phase (s : State) (b : BootInputs) (es : List Ev) : (s.ready b es).boot.phase = .running := by
  simp [State.ready]

theorem State.startFirmware_clockState (s : State) (b : BootInputs) (f : Firmware) (slot : Nat) :
    (s.startFirmware b f slot).clockState = s.clockState := by
  unfold State.startFirmware
  dsimp only
  split
  case isTrue => rfl
  case isFalse =>
    split
    case isTrue => exact (State.ready_clockState _ _ _).trans (clockState_of_calm (State.replay_calm _ _))
    case isFalse => exact (State.ready_clockState _ _ _).trans (clockState_of_calm (State.trained_calm _ _))

theorem State.startFirmware_phase (s : State) (b : BootInputs) (f : Firmware) (slot : Nat) :
    (s.startFirmware b f slot).boot.phase = .running := by
  unfold State.startFirmware
  dsimp only
  split
  case isTrue => rfl
  case isFalse => split <;> exact State.ready_phase _ _ _

theorem State.flashBoot_clockState (s : State) (b : BootInputs) : (s.flashBoot b).clockState = s.clockState := by
  unfold State.flashBoot
  split
  case h_1 => exact State.startFirmware_clockState _ _ _ _
  case h_2 =>
    dsimp only
    split
    case h_1 => exact State.startFirmware_clockState _ _ _ _
    case h_2 => rfl

theorem State.flashBoot_phase (s : State) (b : BootInputs) : (s.flashBoot b).boot.phase = .running := by
  unfold State.flashBoot
  split
  case h_1 => exact State.startFirmware_phase _ _ _ _
  case h_2 =>
    dsimp only
    split
    case h_1 => exact State.startFirmware_phase _ _ _ _
    case h_2 => rfl

/-- No boot touches references or house time, however it ends (R382). -/
theorem State.rom_clockState (s : State) (b : BootInputs) : (s.rom b).clockState = s.clockState := by
  unfold State.rom
  dsimp only
  split
  case isTrue => simp
  case isFalse =>
    split
    case isTrue => simp
    case isFalse =>
      split
      case h_1 => simp [State.flashBoot_clockState]
      all_goals simp

/-- The boot ROM leaves the block running, or waiting for a host load (R456, R457): no reset is held. -/
theorem State.rom_phase (s : State) (b : BootInputs) : (s.rom b).boot.phase = .running ∨ (s.rom b).boot.phase = .waitHost := by
  unfold State.rom
  dsimp only
  split
  case isTrue => exact .inl rfl
  case isFalse =>
    split
    case isTrue => exact .inl rfl
    case isFalse =>
      split
      case h_1 => exact .inl (State.flashBoot_phase _ _)
      case h_2 | h_3 => exact .inr rfl
      case h_4 | h_5 => exact .inl rfl

theorem State.rom_released (s : State) (b : BootInputs) : (s.rom b).boot.phase ≠ .held := by
  obtain h | h := s.rom_phase b <;> simp [h]

/-! ### What a reset makes of the references -/

/-- The two ways in which a reset, a warm save or a warm boot can leave the references: the block enters a cold or power-on reset, or
references and house time stand and no held reset begins. -/
inductive State.ReferencesAfter (s : State) : State → Prop
  | cold (u : State) (cause : Nat) : s.ReferencesAfter (u.coldHeld cause)
  | kept {t : State} (clocks : t.clockState = s.clockState) (held : t.boot.phase = .held → s.boot.phase = .held) :
      s.ReferencesAfter t

theorem State.ReferencesAfter.refl (s : State) : s.ReferencesAfter s := .kept rfl id

theorem State.ReferencesAfter.eq_coldHeld {s t : State} (h : s.ReferencesAfter t) (hs : s.boot.phase ≠ .held)
    (ht : t.boot.phase = .held) : ∃ u cause, t = State.coldHeld u cause := by
  cases h with
  | cold u cause => exact ⟨u, cause, rfl⟩
  | kept _ held => exact absurd (held ht) hs

theorem State.ReferencesAfter.clockState_eq {s t : State} (h : s.ReferencesAfter t) (ht : t.boot.phase ≠ .held) :
    t.clockState = s.clockState := by
  cases h with
  | cold u cause => exact absurd rfl ht
  | kept clocks _ => exact clocks

theorem execColdReset_references {s t : State} {cause : ColdCause} (h : execColdReset cause s = .next t) :
    s.ReferencesAfter t := by
  obtain rfl := Host.Outcome.next.inj h
  split
  case isTrue => exact .refl s
  case isFalse =>
    cases cause with
    | resetN low =>
      dsimp only
      split
      case isTrue => exact .cold s 1
      case isFalse =>
        split
        case isTrue => exact .cold s.fresh 1
        case isFalse => exact .kept rfl id
    | supply mV =>
      dsimp only
      split
      case isTrue => exact .cold s 2
      case isFalse => exact .refl s

/-- A warm reset is a cold one with WARM_N reported, an entry into the warm reset, or none (R448, R450). -/
theorem State.warmReset_references (s : State) (cause : Nat) (hardware : Bool) :
    s.ReferencesAfter (s.warmReset cause hardware) := by
  unfold State.warmReset
  split
  case h_1 | h_2 | h_3 => exact .refl s
  all_goals
    split
    case isTrue => exact .cold s 3
    case isFalse =>
      split
      case isTrue => exact .kept rfl nofun
      case isFalse => exact .kept (s.enterWarm_clockState cause hardware) nofun

/-- A hardware-driven warm reset, which happens while firmware runs (R449). -/
theorem State.warmReset_of_firmware_references (s : State) (cause : Nat) :
    s.ReferencesAfter (if s.boot.firmware then s.warmReset cause true else s) := by
  split
  case isTrue => exact s.warmReset_references cause true
  case isFalse => exact .refl s

theorem execWarmEntrySave_references {s t : State} (h : execWarmEntrySave s = .next t) : s.ReferencesAfter t := by
  obtain rfl := Host.Outcome.next.inj h
  split
  case isTrue => exact .refl s
  case isFalse =>
    dsimp only
    split
    case isTrue => exact .refl s
    case isFalse =>
      exact .kept ((State.moveCurtain_clockState _ s.curtain.cleared 1).trans s.entryWrites_clockState) nofun

theorem execWarmBoot_references {s t : State} {b : BootInputs} (h : execWarmBoot b s = .next t) : s.ReferencesAfter t := by
  obtain rfl := Host.Outcome.next.inj h
  split
  case isTrue => exact .refl s
  case isFalse =>
    exact .kept (s.warmCleared.rom_clockState b) (fun hheld => absurd hheld (s.warmCleared.rom_released b))

/-- Every reset happening, the warm save and the warm boot leave the references in one of the two ways. -/
theorem exec_references {s t : State} {cause : ColdCause} {b : BootInputs} {c : Instr}
    (hc : c ∈ [Instr.powerOnReset, .coldReset cause, .warmResetEntry, .watchdogExpiry, .lockstepMismatch, .warmEntrySave,
      .warmBoot b])
    (hexec : exec c s = .next t) : s.ReferencesAfter t := by
  simp only [List.mem_cons, List.not_mem_nil, or_false] at hc
  obtain rfl | rfl | rfl | rfl | rfl | rfl | rfl := hc
  · exact Host.Outcome.next.inj hexec ▸ .cold s 0
  · exact execColdReset_references hexec
  · exact Host.Outcome.next.inj hexec ▸ s.warmReset_references 3 false
  · exact Host.Outcome.next.inj hexec ▸ s.warmReset_of_firmware_references 4
  · exact Host.Outcome.next.inj hexec ▸ s.warmReset_of_firmware_references 5
  · exact execWarmEntrySave_references hexec
  · exact execWarmBoot_references hexec

/-- Settles O58: a reset that ends with the block held is a cold one, since no other starts a held reset; one that does not keeps
references and house time. -/
theorem referencesThroughResets : Obligations.ReferencesThroughResets := by
  unfold Obligations.ReferencesThroughResets
  intro s t cause b c hc hexec
  have hafter : s.ReferencesAfter t := exec_references hc hexec
  refine ⟨fun hcold hheld => ?_, fun hup => State.clockState_eq_iff.mp (hafter.clockState_eq hup)⟩
  obtain ⟨u, n, rfl⟩ : ∃ u n, t = State.coldHeld u n := by
    obtain rfl | hs := hcold
    · exact ⟨s, 0, (Host.Outcome.next.inj hexec).symm⟩
    · exact hafter.eq_coldHeld hs hheld
  exact u.coldHeld_references n

end Sys2Proof.Machine
end

section

/-! PROOFS. The CUE pins (R409 to R412): what each branch of an input's happenings and of an output edge answers, and that these
branches are the obligation's clauses. -/

namespace Sys2Proof.Machine

open Sys2Proof

/-! ### Inputs -/

section Inputs

variable {s : State} {pin : Fin 16} {level : Bool} {p : CuePin} (hp : p = vget s.cues pin)

include hp

/-- An active edge (R409, R410): the running holdoff alone decides whether it is held back or raises CUE_EDGE. -/
theorem execCueEdge_active (hinput : p.cfg.direction = 1) (hchange : p.level ≠ level) (hactive : p.isActive level = true) :
    execCueEdge pin level s = .next (
      if s.edgeNow < p.holdEnd then
        s.setPin pin { p with
          level := level, lastEdge := s.edgeNow, edges := satAdd 32 p.edges 1, suppressed := satAdd 32 p.suppressed 1
          heldEdges := p.heldEdges + 1 }
      else
        State.raise (s.setPin pin { p with
            level := level, lastEdge := s.edgeNow, edges := satAdd 32 p.edges 1, holdEnd := s.edgeNow + 1000 * p.cfg.holdoff
            heldEdges := 0 })
          { s.ev (804 + pin.val) 0x0B01 [(1, boolNat level), (4, p.heldEdges)] with stamp := s.edgeNow }) := by
  subst hp
  have hobserved : ¬ ((vget s.cues pin).cfg.direction ≠ 1 ∨ (vget s.cues pin).level = level
      ∨ ((vget s.cues pin).stuckNow ∧ (vget s.cues pin).isActive level = false)) := by
    simp [hinput, hchange, hactive]
  have hnotInactive := ne_false_of_eq_true hactive
  simp only [execCueEdge, if_neg hobserved, if_neg hnotInactive]

/-- A change back to inactive of an input that is not stuck raises nothing (R409). -/
theorem execCueEdge_inactive (hinput : p.cfg.direction = 1) (hchange : p.level ≠ level) (hinactive : p.isActive level = false)
    (harmed : p.stuckNow = false) :
    execCueEdge pin level s = .next (s.setPin pin { p with level := level }) := by
  subst hp
  have hobserved : ¬ ((vget s.cues pin).cfg.direction ≠ 1 ∨ (vget s.cues pin).level = level
      ∨ ((vget s.cues pin).stuckNow ∧ (vget s.cues pin).isActive level = false)) := by
    simp [hinput, hchange, harmed]
  simp only [execCueEdge, if_neg hobserved, if_pos hinactive]

/-- An input that has been active for its whole stuck time sets STUCK and raises CUE_STUCK once (R411). -/
theorem execCueStuck_due (hinput : p.cfg.direction = 1) (hactive : p.isActive p.level = true) (hon : p.cfg.stuck ≠ 0)
    (harmed : p.stuckNow = false) (hdue : p.lastEdge + 1000000 * p.cfg.stuck ≤ s.now) :
    execCueStuck pin s = .next ((s.setPin pin { p with stuck := true, stuckNow := true }).raise
      (s.ev (804 + pin.val) 0x0B02 [(4, p.cfg.stuck)])) := by
  subst hp
  exact congrArg Host.Outcome.next (if_pos ⟨hinput, hactive, hon, harmed, hdue⟩)

/-- A stuck input's return to inactive re-arms it and raises CUE_RELEASED (R411). -/
theorem execCueReleased_stuck (hstuck : p.stuckNow = true) :
    execCueReleased pin s = .next ((s.setPin pin { p with level := !p.level, stuckNow := false }).raise
      { s.ev (804 + pin.val) 0x0B03 [(4, ((s.edgeNow - p.lastEdge) / 1000000 : Nat))] with stamp := s.edgeNow }) := by
  subst hp
  exact congrArg Host.Outcome.next (if_pos hstuck)

end Inputs

/-! ### Outputs -/

section Outputs

variable {s : State} {pin : Fin 16} {level : Bool} {p : CuePin} {o : CueOut}
  (hp : p = vget s.cues pin) (hset : p.out = some o) (houtput : p.cfg.direction = 2)

include hp hset houtput

/-- A level-mode output drives the level last set, except on an understudy (R412). -/
theorem execCueOutputEdge_level (hmode : p.cfg.mode = 0) (hdrives : s.twin.role ≠ 2) (hlevel : level = decide (o.level = 1)) :
    execCueOutputEdge pin level s = .next (s.setPin pin { p with level := level }) := by
  subst hp
  have hlead : (s.twin.role != 2) = true := bne_iff_ne.mpr hdrives
  simp only [execCueOutputEdge, hset, if_neg (not_not.mpr houtput), if_pos hmode, if_pos (And.intro hlead hlevel)]

/-- The end of a pulse (R412): a driven active level falls once the pulse's width has passed. -/
theorem execCueOutputEdge_pulseEnd (hmode : p.cfg.mode ≠ 0) (hdriven : p.isActive p.level = true)
    (hinactive : p.isActive level = false) (hend : p.pulseEnd ≤ s.now) :
    execCueOutputEdge pin level s = .next (s.setPin pin { p with level := level }) := by
  subst hp
  simp only [execCueOutputEdge, hset, if_neg (not_not.mpr houtput), if_neg hmode,
    if_pos (And.intro hdriven hinactive), if_pos hend]

/-- A frame-mode output whose context is absent reports the first pulse missed, once per absence (R412). -/
theorem execCueOutputEdge_absent (hmode : p.cfg.mode ≠ 0) (hactive : p.isActive level = true)
    (habsent : s.outAbsent p o = true) (hunreported : p.missed = false) :
    execCueOutputEdge pin level s = .next ((s.setPin pin { p with missed := true }).raise
      (s.ev (804 + pin.val) 0x0B04 [(8, s.missedStart p o)])) := by
  subst hp
  have hnotInactive := ne_false_of_eq_true hactive
  simp only [execCueOutputEdge, hset, if_neg (not_not.mpr houtput), if_neg hmode, if_neg (mt And.right hnotInactive),
    if_neg hnotInactive, if_pos (And.intro habsent hunreported)]

/-- The start of a pulse that is due (R412): firmware runs and the start lies 100 us or more behind the acceptance, so it is not
skipped; an understudy counts it without driving the pin. -/
theorem execCueOutputEdge_pulseStart {t n : Nat} (hmode : p.cfg.mode ≠ 0) (hactive : p.isActive level = true)
    (hpresent : s.outAbsent p o = false) (hnext : s.nextPulse p = some (t, n))
    (hafter : p.accepted + 100000 ≤ t) (hdue : t ≤ s.now) (hrunning : s.boot.phase = .running) :
    execCueOutputEdge pin level s = .next (s.setPin pin { p with
      level := if s.twin.role = 2 then p.level else level, nextPulse := n, pulseEnd := t + o.width, missed := false }) := by
  subst hp
  have hnotInactive := ne_false_of_eq_true hactive
  have hnotAbsent : ¬ (s.outAbsent (vget s.cues pin) o = true ∧ (vget s.cues pin).missed = false) := by simp [hpresent]
  have hnotSkipped : ¬ (t < (vget s.cues pin).accepted + 100000
      ∨ decide (s.boot.phase = .warmEntry ∨ s.boot.phase = .warmSaved) = true) := by
    simp [hrunning, hafter]
  have hdrives : (if (s.twin.role != 2) = true then level else (vget s.cues pin).level)
      = if s.twin.role = 2 then (vget s.cues pin).level else level := by
    simp
  simp only [execCueOutputEdge, hset, if_neg (not_not.mpr houtput), if_neg hmode, if_neg (mt And.right hnotInactive),
    if_neg hnotInactive, if_neg hnotAbsent, hnext, if_neg hnotSkipped, if_pos hdue, hdrives]

end Outputs

/-- Settles O43: each clause is one branch of a pin's happening; the two for an active edge differ in the holdoff only. -/
theorem cuePinsComplete : Obligations.CuePinsComplete := by
  unfold Obligations.CuePinsComplete
  intro s pin p hp
  refine ⟨fun level hinput hchange hactive hpassed => ?_, fun level hinput hchange hactive hrunning => ?_,
    fun level => execCueEdge_inactive hp, execCueStuck_due hp, execCueReleased_stuck hp,
    fun o level => execCueOutputEdge_level hp,
    fun o level t n hset houtput => execCueOutputEdge_pulseStart hp hset houtput,
    fun o level hset houtput hframe => execCueOutputEdge_absent hp hset houtput (by simp [hframe]),
    fun o level => execCueOutputEdge_pulseEnd hp⟩
  · exact (execCueEdge_active hp hinput hchange hactive).trans
      (congrArg Host.Outcome.next (if_neg (Nat.not_lt.mpr hpassed)))
  · exact (execCueEdge_active hp hinput hchange hactive).trans (congrArg Host.Outcome.next (if_pos hrunning))

end Sys2Proof.Machine
end

section

/-! PROOFS. The cold reset in a warm one's place (R448): with nothing to keep in DDR5, a warm reset of any cause is the cold reset
that reports WARM_N, and each happening that asks for one answers it. -/

namespace Sys2Proof.Machine

open Sys2Proof

/-! ### What the block in a cold reset reports (R459) -/

@[simp] theorem State.coldHeld_phase (s : State) (cause : Nat) : (s.coldHeld cause).boot.phase = .held := rfl

@[simp] theorem State.coldHeld_cause (s : State) (cause : Nat) : (s.coldHeld cause).boot.cause = cause := rfl

@[simp] theorem State.coldHeld_warm (s : State) (cause : Nat) : (s.coldHeld cause).boot.warm = false := rfl

/-! ### A warm reset without DDR5 contents -/

/-- Whatever asks for the warm reset, WARM_N, the watchdog or the lockstep cores, the cold reset reports WARM_N (R448). -/
theorem State.warmReset_of_ddr_lost {s : State} (hphase : s.boot.phase = .running ∨ s.boot.phase = .waitHost)
    (hlost : s.ddr.ran = false ∨ s.ddr.state = 3) (cause : Nat) (hardware : Bool) :
    s.warmReset cause hardware = s.coldHeld 3 := by
  unfold State.warmReset
  obtain hrunning | hwaiting := hphase
  · simp only [hrunning, if_pos hlost]
  · simp only [hwaiting, if_pos hlost]

theorem exec_warmResetEntry (s : State) : exec .warmResetEntry s = .next (s.warmReset 3 false) := rfl

/-- The watchdog is firmware's own (R449). -/
theorem exec_watchdogExpiry_of_firmware {s : State} (hfirmware : s.boot.firmware = true) :
    exec .watchdogExpiry s = .next (s.warmReset 4 true) :=
  congrArg Host.Outcome.next (if_pos hfirmware)

/-- The lockstep cores are compared while firmware runs on them (R449). -/
theorem exec_lockstepMismatch_of_firmware {s : State} (hfirmware : s.boot.firmware = true) :
    exec .lockstepMismatch s = .next (s.warmReset 5 true) :=
  congrArg Host.Outcome.next (if_pos hfirmware)

/-- Settles O59: each of the three happenings asks for the same warm reset, which is the cold one here. -/
theorem coldInstead : Obligations.ColdInstead := by
  unfold Obligations.ColdInstead
  intro s hphase hlost
  have hcold := State.warmReset_of_ddr_lost hphase hlost
  refine ⟨?_, fun hfirmware => ⟨?_, ?_⟩, s.coldHeld_phase 3, s.coldHeld_cause 3, s.coldHeld_warm 3⟩
  · rw [exec_warmResetEntry, hcold]
  · rw [exec_watchdogExpiry_of_firmware hfirmware, hcold]
  · rw [exec_lockstepMismatch_of_firmware hfirmware, hcold]

end Sys2Proof.Machine
end

section
/-! PROOFS. What commands keep: each family of commands keeps the queue, OTP, the depths of the rings and the canonical call board,
but for resets, FUSE_PROGRAM and MB_CONFIG. -/

namespace Sys2Proof.Machine

open Sys2Proof Sys2Proof.Safety

/-- The state that a command leads to. -/
def State.after (s : State) (c : Instr) : State :=
  match exec c s with
  | .next t => t
  | .fault _ | .refused _ => s

theorem exec_eq_after (c : Instr) (s : State) : exec c s = .next (s.after c) := by
  cases c <;> rfl

/-- The parts of the block that commands belong to. -/
inductive Family where
  | boot | picture | unit | sequencer | flow | flit | link | audio | dram | clock | pin | twin | host | mailbox

/-- The family of a command. -/
def family : Instr → Family
  | .powerOnReset .. | .coldReset .. | .warmResetEntry .. | .watchdogExpiry .. | .lockstepMismatch .. | .warmEntrySave ..
  | .resetRelease .. | .warmBoot .. | .firmwareInitTimeout .. | .bootLoad .. => .boot
  | .frameMark .. | .line .. | .windowClose .. | .ancillary .. | .graphicWrite .. | .graphicCommitPacket .. | .contentLatch ..
  | .graphicReleased .. | .previewLineSend .. | .curtainNEdge .. | .curtainCopy .. | .swapping .. | .swap .. => .picture
  | .inRdq .. | .inFsq .. | .inFlr .. | .svLvl .. | .svExp .. | .mcCrs .. | .mfQrf .. | .ipEst .. | .mdSel .. | .mdFlr ..
  | .tqFwd .. | .tqFlr .. | .iqRec .. | .iqFlr .. | .lfDbk .. | .lfSao .. | .alAlf .. | .alDer .. | .bnBin .. | .bnSlh ..
  | .bnFlr .. | .bnEos .. | .rwCrf .. => .unit
  | .slotStart .. | .sqCall .. | .sqRet .. | .sqLoop .. | .sqEndloop .. | .sqMark .. | .markTargetReached .. | .sqChg ..
  | .sqLate .. | .sqEnd .. | .derComplete .. | .drRd .. | .dwWr .. | .substitution .. | .cueEccFault .. => .sequencer
  | .segmentOpen .. | .segmentClose .. | .taskDispatch .. | .affinityWaitExpiry .. | .eventTask .. | .packetCommit ..
  | .gapMarkerCommit .. | .ladleFault .. | .stockpotMove .. | .stockpotRefillLand .. | .egressSelect .. | .shaperRefill ..
  | .gateEntryChange .. | .egressAck .. => .flow
  | .flitReceive .. | .flitSend .. | .replayTimeout .. | .creditStarved .. | .ckLost .. | .trainingBlock .. => .flit
  | .partnerCkDetect .. | .clockLock .. | .deskew .. | .adaptEnd .. | .verifyPass .. | .capability .. | .trainingLimitExpiry ..
  | .linkActive .. | .darkRetry .. | .eyeDone .. | .patternLock .. | .patternLockLost .. => .link
  | .audio .. | .audioFrame .. | .audioPcmResumed .. | .audioChangeApply .. | .audioChangeTimeout ..
  | .linkSampleWindowClose .. | .audioRestarted .. | .audioClockStop .. => .audio
  | .refreshWindow .. | .zqCalibration .. | .mr4Read .. | .ddrSchedule .. | .ddrWriteRequest .. | .ddrReadReturn ..
  | .patrolScrub .. | .ddrAlert .. => .dram
  | .timeOfDay .. | .ppsEdge .. | .ppsLost .. | .rootUnlock .. | .activityLoss .. | .gateEnd .. | .phaseComparison ..
  | .waitToRestore .. | .switchEnd .. | .lockAcquired .. | .historySample .. | .refPins .. | .rootLock ..
  | .candidateActivityReturn .. => .clock
  | .eventNotify .. | .evtRdWrite .. | .cueEdge .. | .cueStuck .. | .cueReleased .. | .cueOutputEdge .. | .thermalSample ..
  | .supplySample .. | .testLogicReset .. | .idcode .. | .samplePreload .. | .extest .. | .highz .. | .clamp ..
  | .extestPulse .. | .extestTrain .. | .bypass .. => .pin
  | .arbHbToggle .. | .heartbeatServiceTimeout .. | .takeover .. | .demotion .. | .beatSend .. | .beat ..
  | .twinHeartbeatLost .. | .orphanTimeout .. | .healthSend .. | .health .. | .twinHelloSend .. | .twinHello ..
  | .positionsSend .. | .positions .. | .ackHoldExpiry .. | .frameRecord .. | .rowRecord .. | .confirm .. | .itemRequest ..
  | .item .. | .rowRequest .. | .rowData .. | .blockRequest .. | .blockData .. => .twin
  | .regRead .. | .regWrite .. | .journalHeadWrite .. | .doorbell .. | .cplRdWrite .. | .mailboxReset .. | .intStatusWrite ..
  | .hostWindowWrite .. | .spiTransaction .. | .spiStatus .. => .host
  | _ => .mailbox


/-- The commands that remake what `State.held` names: resets, a fuse request, and MB_CONFIG. -/
def remakes : Instr → Bool
  | .powerOnReset | .coldReset _ | .warmResetEntry | .watchdogExpiry | .lockstepMismatch | .fuseProgram _ _ _
      | .mbConfig _ _ => true
  | _ => false

/-- `t` has the queue, OTP and the ring depths of `s`, and a canonical call board if `s` has one. -/
structure State.Keeps (s t : State) : Prop where
  held : t.held = s.held
  board : s.boardOk = true → t.boardOk = true

theorem State.Keeps.refl (s : State) : s.Keeps s := ⟨rfl, id⟩

theorem State.Keeps.trans {s t u : State} (h : s.Keeps t) (k : t.Keeps u) : s.Keeps u :=
  ⟨k.held.trans h.held, fun hb => k.board (h.board hb)⟩

theorem State.after_of_next {s t : State} {c : Instr} (h : exec c s = .next t) : s.after c = t := by
  rw [exec_eq_after] at h
  exact Host.Outcome.next.inj h

/-- What a command's meaning answers keeps, the command keeps. -/
theorem State.Keeps.of_exec {s t : State} {c : Instr} (h : exec c s = .next t) (k : s.Keeps t) : s.Keeps (s.after c) := by
  rwa [State.after_of_next h]

theorem runCmd_keeps (c : Spec) (h : Hdr) (body : State → State × Reply) (s : State) (pass : Bool)
    (hb : ∀ t : State, t.Keeps (body t).1) : s.Keeps (runCmd c h body s pass) :=
  ⟨runCmd_held c h body s pass ((hb _).held.trans (s.takeCmd_held h)),
    fun hs => runCmd_board c h body s pass hs (hb _).board⟩

theorem runLong_keeps (c : Spec) (h : Hdr) (body : State → State × Option Reply) (s : State)
    (hb : ∀ t : State, t.Keeps (body t).1) : s.Keeps (runLong c h body s) :=
  ⟨runLong_held c h body s ((hb _).held.trans (s.takeCmd_held h)), fun hs => runLong_board c h body s hs (hb _).board⟩

theorem State.unit_keeps (s : State) (e : Fin 16) (u op desc : Nat) (f : State → Job → UnitDesc → State)
    (hf : ∀ (t : State) j d, t.Keeps (f t j d)) : s.Keeps (s.unit e u op desc f) :=
  ⟨s.unit_held e u op desc f fun t j d => (hf t j d).held,
    fun hb => s.unit_board e u op desc f (fun t j d => (hf t j d).board) hb⟩

theorem State.control_keeps {s t : State} {e : Fin 16} {op addr : Nat} {desc : Option Nat} {r : Option (Job × Engine)}
    (h : s.control e op addr desc = (t, r)) : s.Keeps t := by
  have k : s.Keeps (s.control e op addr desc).1 := ⟨s.control_held e op addr desc, s.control_board e op addr desc⟩
  rwa [h] at k

@[simp] theorem State.sayMark_held (s : State) (q : Source) (source n : Nat) : (s.sayMark q source n).held = s.held := by
  unfold State.sayMark
  exact foldl_held _ (fun t l => by split <;> simp) _ _

@[simp] theorem State.sayMark_board (s : State) (q : Source) (source n : Nat) (hb : s.boardOk = true) :
    (s.sayMark q source n).boardOk = true := by
  unfold State.sayMark
  exact foldl_board _ (fun t l ht => by split <;> simp [ht]) _ _ hb

@[simp] theorem State.castTo_held (s : State) (level : Bool) : (s.castTo level).held = s.held := by
  simp [State.castTo]

@[simp] theorem State.castTo_board (s : State) (level : Bool) (hb : s.boardOk = true) :
    (s.castTo level).boardOk = true := by
  simp [State.castTo, hb]

@[simp] theorem State.dropWrite_held (s : State) (e : Fin 16) (bytes : Nat) : (s.dropWrite e bytes).held = s.held := by
  simp [State.dropWrite]

@[simp] theorem State.dropWrite_board (s : State) (e : Fin 16) (bytes : Nat) (hb : s.boardOk = true) :
    (s.dropWrite e bytes).boardOk = true := by
  simp [State.dropWrite, hb]

@[simp] theorem State.edgeError_held (s : State) (capturePs : Int) (sec : Nat) :
    (s.edgeError capturePs sec).held = s.held := by
  simp [State.edgeError]

@[simp] theorem State.edgeError_board (s : State) (capturePs : Int) (sec : Nat) (hb : s.boardOk = true) :
    (s.edgeError capturePs sec).boardOk = true := by
  simp [State.edgeError, hb]

@[simp] theorem State.rowFailed_held (s : State) (m : RowDataMsg) : (s.rowFailed m).held = s.held := by
  simp [State.rowFailed]

@[simp] theorem State.rowFailed_board (s : State) (m : RowDataMsg) (hb : s.boardOk = true) :
    (s.rowFailed m).boardOk = true := by
  simp (maxDischargeDepth := 4) [State.rowFailed, hb]

@[simp] theorem State.landCtu_held (s : State) (p : Production) (c : Ctx) (b : Nat) (m : RowDataMsg) (k : CtuCrf) (valid : Bool) :
    (s.landCtu p c b m k valid).held = s.held := by
  simp [State.landCtu]

@[simp] theorem State.landCtu_board (s : State) (p : Production) (c : Ctx) (b : Nat) (m : RowDataMsg) (k : CtuCrf)
    (valid : Bool) (hb : s.boardOk = true) :
    (s.landCtu p c b m k valid).boardOk = true := by
  simp [State.landCtu, hb]

@[simp] theorem State.rowLanded_held (s : State) (c : Ctx) (b : Nat) (m : RowDataMsg) :
    (s.rowLanded c b m).held = s.held := by
  simp [State.rowLanded]

@[simp] theorem State.rowLanded_board (s : State) (c : Ctx) (b : Nat) (m : RowDataMsg) (hb : s.boardOk = true) :
    (s.rowLanded c b m).boardOk = true := by
  simp (maxDischargeDepth := 4) [State.rowLanded, hb]

@[simp] theorem State.verifyError_held (s : State) (i : Fin 12) (lane : Fin 4) :
    (s.verifyError i lane).held = s.held := by
  unfold State.verifyError
  dsimp only
  split <;> simp

@[simp] theorem State.verifyError_board (s : State) (i : Fin 12) (lane : Fin 4) (hb : s.boardOk = true) :
    (s.verifyError i lane).boardOk = true := by
  unfold State.verifyError
  dsimp only
  split <;> simp [hb]

@[simp] theorem State.followAttempt_held (s : State) (i : Fin 12) (attempt : Nat) :
    (s.followAttempt i attempt).held = s.held := by
  simp [State.followAttempt]

@[simp] theorem State.followAttempt_board (s : State) (i : Fin 12) (attempt : Nat) (hb : s.boardOk = true) :
    (s.followAttempt i attempt).boardOk = true := by
  simp [State.followAttempt, hb]

@[simp] theorem State.scrubbed_held (s : State) (sub : Fin 12) (k : Nat) : (s.scrubbed sub k).held = s.held := by
  unfold State.scrubbed
  dsimp only
  split <;> simp

@[simp] theorem State.scrubbed_board (s : State) (sub : Fin 12) (k : Nat) (hb : s.boardOk = true) :
    (s.scrubbed sub k).boardOk = true := by
  unfold State.scrubbed
  dsimp only
  split <;> simp [hb]

/-- A message handled as at its delivery keeps what its handler keeps (R326). -/
theorem State.atDelivery_keeps (s : State) (link : Fin 12) (vc : Fin 8) (f : State → State) (hf : ∀ t : State, t.Keeps (f t)) :
    s.Keeps (s.atDelivery link vc f) :=
  ⟨(hf { s with time := { s.time with tick := (s.headMsg link vc).at_ } }).held,
    (hf { s with time := { s.time with tick := (s.headMsg link vc).at_ } }).board⟩

theorem State.lineComes_keeps (s : State) (link : Fin 12) (m : LineMsg) (short : Bool) :
    s.Keeps (s.lineComes link m short) := by
  unfold State.lineComes
  repeat' split
  all_goals first
    | with_reducible exact .refl _
    | exact ⟨by simp, fun hb => by simp [hb]⟩

theorem State.audioComes_keeps (s : State) (link : Fin 12) (m : AudioMsg) (broken : Bool) :
    s.Keeps (s.audioComes link m broken) := by
  unfold State.audioComes
  dsimp only
  repeat' split
  all_goals first
    | with_reducible exact .refl _
    | exact ⟨by simp, fun hb => by simp (maxDischargeDepth := 9) +contextual [hb]⟩

theorem State.issueDma_keeps {s t : State} {e : Fin 16} {u desc : Nat} {r : Option (Job × DrDesc)}
    (h : s.issueDma e u desc = (t, r)) : s.Keeps t := by
  have k : s.Keeps (s.issueDma e u desc).1 := ⟨s.issueDma_held e u desc, s.issueDma_board e u desc⟩
  rwa [h] at k

theorem State.popInbox_keeps (s : State) (i : Fin 12) (vc : Fin 8) : s.Keeps (s.popInbox i vc) :=
  ⟨by simp, fun hb => by simp [hb]⟩

/-- A comparison that counts changes the references and reports; one that does not changes nothing. -/
theorem State.phaseComparison_cases (s : State) (c : Fin 16) (ps ask : Int) :
    s.after (.phaseComparison c ps ask) = s ∨ ∃ k, s.after (.phaseComparison c ps ask) = s.putCk k := by
  have e : ∃ k, exec (.phaseComparison c ps ask) s = .next s ∨ exec (.phaseComparison c ps ask) s = .next (s.putCk k) := by
    simp only [exec]
    unfold execPhaseComparison
    extract_lets x
    split
    · exact ⟨s.ck, .inl rfl⟩
    · exact ⟨_, .inr rfl⟩
  obtain ⟨k, e | e⟩ := e
  · exact .inl (State.after_of_next e)
  · exact .inr ⟨k, State.after_of_next e⟩

theorem State.putCk_keeps (s : State) (k : Ck) : s.Keeps (s.putCk k) :=
  ⟨by simp, fun hb => by simp [hb]⟩

theorem State.eventTask_keeps (s : State) : s.Keeps (s.after .eventTask) := by
  refine .of_exec rfl ?_
  dsimp only
  split
  · exact .refl _
  split
  · exact .refl _
  refine ⟨(foldl_held _ (fun t y => ?_) _ _).trans rfl, fun hb => foldl_board _ (fun t y ht => ?_) _ _ hb⟩
  · split <;> simp
  · split <;> simp [ht]

theorem State.commitPair_keeps (s : State) (pair : Nat) : s.Keeps ((s.commitPair pair).getD s) := by
  cases h : s.commitPair pair with
  | none => exact .refl s
  | some t => exact ⟨State.commitPair_held h, State.commitPair_board h⟩

theorem State.runPending_keeps (s : State) : s.Keeps s.runPending :=
  ⟨by simp, fun hb => by simp [hb]⟩

/-- PRODUCTION_CUE and the cue that it leaves pending. -/
theorem State.productionCue_keeps (s : State) (h : Hdr) (request : Nat) :
    s.Keeps (s.after (.productionCue h request)) := by
  have hcmd : ∀ go : State → State × Reply, (∀ t : State, t.Keeps (go t).1) →
      s.Keeps (if (runCmd Cmd.productionCue h go s).green.state = 2 then (runCmd Cmd.productionCue h go s).runPending
        else runCmd Cmd.productionCue h go s) := fun go hgo => by
    have k := runCmd_keeps Cmd.productionCue h go s false hgo
    split
    · exact k.trans (State.runPending_keeps _)
    · exact k
  refine .of_exec rfl (hcmd _ ?_)
  intro t
  dsimp only
  repeat' split
  all_goals first
    | with_reducible exact .refl _
    | exact ⟨by simp, fun hb => by simp [hb]⟩

theorem State.graphicCommit_keeps (s : State) (h : Hdr) (pair : Nat) : s.Keeps (s.after (.graphicCommit h pair)) := by
  refine .of_exec rfl (runCmd_keeps _ _ _ s _ fun t => ?_)
  split
  case h_1 u hu => exact ⟨State.commitPair_held hu, State.commitPair_board hu⟩
  case h_2 => exact .refl t

/-- The link, what its lanes report, and the steps of its running adaptation; a bad run, or a replay too many, retrains. -/
theorem State.flitReceive_keeps (s : State) (link : Fin 12) (flit : BitVec 512) (violations : List (Fin 4 × Nat))
    (adapt : List AdaptStep) : s.Keeps (s.after (.flitReceive link flit violations adapt)) := by
  have hretrain : ∀ (t : State) (cause : Nat), t.Keeps (t.retrain link cause) :=
    fun t cause => ⟨by simp, fun hb => by simp [hb]⟩
  have hnext : ∃ t, exec (.flitReceive link flit violations adapt) s = .next t ∧ s.Keeps t := by
    simp only [exec]
    unfold execFlitReceive
    extract_lets l0
    refine ⟨_, rfl, ?_⟩
    by_cases hinactive : l0.state ≠ 8 ∧ l0.state ≠ 9
    · rw [if_pos hinactive]
      exact .refl s
    rw [if_neg hinactive]
    rename_i d f l bad r vc s1 s2
    have h1 : s.Keeps s1 := ⟨by simp [s1], fun hb => by simp [s1, hb]⟩
    have h2 : s.Keeps s2 := h1.trans
      ⟨foldl_held _ (fun t a => by simp) _ _, fun hb => foldl_board _ (fun t a ht => by simp [ht]) _ _ hb⟩
    split
    · exact h2.trans (hretrain s2 1)
    split
    · exact h2.trans (hretrain s2 2)
    · exact h2
  obtain ⟨t, hexec, hkeeps⟩ := hnext
  exact .of_exec hexec hkeeps

theorem State.after_keeps_boot (s : State) {c : Instr} (hc : family c = .boot) (h : remakes c = false) :
    s.Keeps (s.after c) := by
  cases c with
  | powerOnReset | coldReset | warmResetEntry | watchdogExpiry | lockstepMismatch => cases h
  | warmEntrySave | resetRelease | warmBoot | firmwareInitTimeout | bootLoad =>
    refine .of_exec rfl ?_
    try dsimp only
    repeat' split
    all_goals exact ⟨by simp, fun hb => by simp (maxDischargeDepth := 9) +contextual [hb]⟩
  | _ => cases hc

theorem State.after_keeps_picture (s : State) {c : Instr} (hc : family c = .picture) (h : remakes c = false) :
    s.Keeps (s.after c) := by
  cases c with
  | frameMark | windowClose | ancillary | graphicWrite | contentLatch | graphicReleased | previewLineSend | curtainNEdge
  | curtainCopy | swapping | swap =>
    refine .of_exec rfl ?_
    try dsimp only
    repeat' split
    all_goals exact ⟨by simp, fun hb => by simp (maxDischargeDepth := 9) +contextual [hb]⟩
  | line link m =>
    refine .of_exec rfl ?_
    dsimp only
    split
    · exact (State.atDelivery_keeps s link 2 _ fun t => t.lineComes_keeps link m _).trans (State.popInbox_keeps _ _ _)
    · exact .refl s
  | graphicCommitPacket link pair =>
    refine .of_exec rfl ?_
    dsimp only
    split
    · exact .refl s
    · exact (s.popInbox_keeps link 5).trans (State.commitPair_keeps _ pair)
  | _ => cases hc

theorem State.after_keeps_unit (s : State) {c : Instr} (hc : family c = .unit) (h : remakes c = false) :
    s.Keeps (s.after c) := by
  cases c with
  | inRdq e desc | inFsq e desc | inFlr e desc | svLvl e desc | svExp e desc | mcCrs e desc | mfQrf e desc | ipEst e desc
  | mdSel e desc | mdFlr e desc | tqFwd e desc | tqFlr e desc | iqRec e desc | iqFlr e desc | lfDbk e desc | lfSao e desc
  | alAlf e desc | alDer e desc | bnBin e desc | bnSlh e desc | bnFlr e desc | bnEos e desc | rwCrf e desc =>
    refine .of_exec rfl (s.unit_keeps e _ _ desc _ fun t j d => ?_)
    try dsimp only
    repeat' split
    all_goals exact ⟨by simp, fun hb => by simp (maxDischargeDepth := 9) +contextual [hb]⟩
  | _ => cases hc

theorem State.after_keeps_sequencer (s : State) {c : Instr} (hc : family c = .sequencer) (h : remakes c = false) :
    s.Keeps (s.after c) := by
  cases c with
  | sqCall e | sqRet e | sqLoop e | sqEndloop e | sqMark e | sqChg e | sqLate e | sqEnd e =>
    refine .of_exec rfl ?_
    try dsimp only
    repeat' split
    all_goals
      have k := State.control_keeps ‹State.control s e _ _ _ = _›
      exact k.trans ⟨by simp, fun hb => by simp (maxDischargeDepth := 9) +contextual [hb]⟩
  | drRd e | dwWr e =>
    refine .of_exec rfl ?_
    try dsimp only
    repeat' split
    all_goals
      have k := State.issueDma_keeps ‹State.issueDma s e _ _ = _›
      exact k.trans ⟨by simp, fun hb => by simp (maxDischargeDepth := 9) +contextual [hb]⟩
  | slotStart | markTargetReached | derComplete | substitution | cueEccFault =>
    refine .of_exec rfl ?_
    try dsimp only
    repeat' split
    all_goals exact ⟨by simp, fun hb => by simp (maxDischargeDepth := 9) +contextual [hb]⟩
  | _ => cases hc

theorem State.after_keeps_flow (s : State) {c : Instr} (hc : family c = .flow) (h : remakes c = false) :
    s.Keeps (s.after c) := by
  cases c with
  | segmentOpen | segmentClose | taskDispatch | affinityWaitExpiry | packetCommit | gapMarkerCommit | ladleFault | stockpotMove
  | stockpotRefillLand | egressSelect | shaperRefill | gateEntryChange | egressAck =>
    refine .of_exec rfl ?_
    try dsimp only
    repeat' split
    all_goals exact ⟨by simp, fun hb => by simp (maxDischargeDepth := 9) +contextual [hb]⟩
  | eventTask => exact s.eventTask_keeps
  | _ => cases hc

theorem State.after_keeps_flit (s : State) {c : Instr} (hc : family c = .flit) (h : remakes c = false) :
    s.Keeps (s.after c) := by
  cases c with
  | flitSend | replayTimeout | creditStarved | ckLost | trainingBlock =>
    refine .of_exec rfl ?_
    try dsimp only
    repeat' split
    all_goals exact ⟨by simp, fun hb => by simp (maxDischargeDepth := 9) +contextual [hb]⟩
  | flitReceive link flit violations adapt => exact s.flitReceive_keeps link flit violations adapt
  | _ => cases hc

theorem State.after_keeps_link (s : State) {c : Instr} (hc : family c = .link) (h : remakes c = false) :
    s.Keeps (s.after c) := by
  cases c with
  | partnerCkDetect | clockLock | deskew | adaptEnd | verifyPass | capability | trainingLimitExpiry | linkActive | darkRetry
  | eyeDone | patternLock | patternLockLost =>
    refine .of_exec rfl ?_
    try dsimp only
    repeat' split
    all_goals exact ⟨by simp, fun hb => by simp (maxDischargeDepth := 9) +contextual [hb]⟩
  | _ => cases hc

theorem State.after_keeps_audio (s : State) {c : Instr} (hc : family c = .audio) (h : remakes c = false) :
    s.Keeps (s.after c) := by
  cases c with
  | audioFrame | audioPcmResumed | audioChangeApply | audioChangeTimeout | linkSampleWindowClose | audioRestarted
  | audioClockStop =>
    refine .of_exec rfl ?_
    try dsimp only
    repeat' split
    all_goals exact ⟨by simp, fun hb => by simp (maxDischargeDepth := 9) +contextual [hb]⟩
  | audio link m =>
    refine .of_exec rfl ?_
    dsimp only
    split
    · exact (State.atDelivery_keeps s link 3 _ fun t => t.audioComes_keeps link m _).trans (State.popInbox_keeps _ _ _)
    · exact .refl s
  | _ => cases hc

theorem State.after_keeps_dram (s : State) {c : Instr} (hc : family c = .dram) (h : remakes c = false) :
    s.Keeps (s.after c) := by
  cases c with
  | refreshWindow | zqCalibration | mr4Read | ddrSchedule | ddrWriteRequest | ddrReadReturn | patrolScrub | ddrAlert =>
    refine .of_exec rfl ?_
    try dsimp only
    repeat' split
    all_goals exact ⟨by simp, fun hb => by simp (maxDischargeDepth := 9) +contextual [hb]⟩
  | _ => cases hc

theorem State.after_keeps_clock (s : State) {c : Instr} (hc : family c = .clock) (h : remakes c = false) :
    s.Keeps (s.after c) := by
  cases c with
  | timeOfDay | ppsEdge | ppsLost | rootUnlock | activityLoss | gateEnd | waitToRestore | switchEnd | lockAcquired
  | historySample | refPins | rootLock | candidateActivityReturn =>
    refine .of_exec rfl ?_
    try dsimp only
    repeat' split
    all_goals exact ⟨by simp, fun hb => by simp (maxDischargeDepth := 9) +contextual [hb]⟩
  | phaseComparison c ps ask =>
    obtain e | ⟨k, e⟩ := s.phaseComparison_cases c ps ask <;> rw [e]
    · exact .refl s
    · exact s.putCk_keeps k
  | _ => cases hc

theorem State.after_keeps_pin (s : State) {c : Instr} (hc : family c = .pin) (h : remakes c = false) :
    s.Keeps (s.after c) := by
  cases c with
  | eventNotify | evtRdWrite | cueEdge | cueStuck | cueReleased | cueOutputEdge | thermalSample | supplySample | testLogicReset
  | idcode | samplePreload | extest | highz | clamp | extestPulse | extestTrain | bypass =>
    refine .of_exec rfl ?_
    try dsimp only
    repeat' split
    all_goals exact ⟨by simp, fun hb => by simp (maxDischargeDepth := 9) +contextual [hb]⟩
  | _ => cases hc

theorem State.after_keeps_twin (s : State) {c : Instr} (hc : family c = .twin) (h : remakes c = false) :
    s.Keeps (s.after c) := by
  cases c with
  | arbHbToggle | heartbeatServiceTimeout | takeover | demotion | beatSend | beat | twinHeartbeatLost | orphanTimeout
  | healthSend | health | twinHelloSend | twinHello | positionsSend | positions | ackHoldExpiry | frameRecord | rowRecord
  | confirm | itemRequest | item | rowRequest | rowData | blockRequest | blockData =>
    refine .of_exec rfl ?_
    try dsimp only
    repeat' split
    all_goals exact ⟨by simp, fun hb => by simp (maxDischargeDepth := 9) +contextual [hb]⟩
  | _ => cases hc

theorem State.after_keeps_host (s : State) {c : Instr} (hc : family c = .host) (h : remakes c = false) :
    s.Keeps (s.after c) := by
  cases c with
  | regRead | regWrite | journalHeadWrite | doorbell | cplRdWrite | mailboxReset | intStatusWrite | hostWindowWrite
  | spiTransaction | spiStatus =>
    refine .of_exec rfl ?_
    try dsimp only
    repeat' split
    all_goals exact ⟨by simp, fun hb => by simp (maxDischargeDepth := 9) +contextual [hb]⟩
  | _ => cases hc

theorem State.after_keeps_mailbox (s : State) {c : Instr} (hc : family c = .mailbox) (h : remakes c = false) :
    s.Keeps (s.after c) := by
  cases c with
  | mbConfig | fuseProgram => cases h
  | hello | goodbye | echo | identify | certRead | attest | ownerKeyLoad | debugToken | productionLoad | productionCheck
  | productionAbort | productionStatus | contextRateSet | contextQpLimitsSet | layerGeometrySet | layerOpacitySet | layerStatus
  | curtainStage | curtainDrop | curtainRaise | curtainStatus | audioGainSet | audioMuteSet | audioPortRestart | audioStatus
  | egressShaperSet | linkStatus | linkRetrain | linkTxSet | linkGuardSet | patternStart | patternRead | patternInject
  | patternStop | linkProtocol | clockStatus | candidateStatus | candidateSet | dpllSet | dpllSoftware | dpllNudge | dpllClose
  | clockHistoryClear | houseTimeStatus | houseTimeSet | houseTimeAlarmSet | ddrStatus | ddrSubchannelStatus | ddrPortStatus
  | ddrErrorLog | ddrMark | ddrScrubSet | ddrChecksEnable | twinStatus | twinPair | twinUnpair | engineStatus | queueStatus
  | contextStatus | telemetry | eventMaskSet | eventSourceStatus | cueConfig | cueOutput | cueStatus | cuConfig | cuFeed
  | cuRead | cuWrite | selftestReport =>
    refine .of_exec rfl (runCmd_keeps _ _ _ s _ fun t => ?_)
    try dsimp only [withUnit, withLink]
    repeat' split
    all_goals exact ⟨by simp, fun hb => by simp (maxDischargeDepth := 9) +contextual [hb]⟩
  | curtainInstall | eyeScan =>
    refine .of_exec rfl (runLong_keeps _ _ _ s fun t => ?_)
    try dsimp only
    repeat' split
    all_goals exact ⟨by simp, fun hb => by simp (maxDischargeDepth := 9) +contextual [hb]⟩
  | productionCue k request => exact s.productionCue_keeps k request
  | graphicCommit k pair => exact s.graphicCommit_keeps k pair
  | _ => cases hc

end Sys2Proof.Machine
end

section
/-! PROOFS. OTP and the queue (R477, R513, R520): every command answers and keeps the queue, and OTP is FUSE_PROGRAM's. -/

namespace Sys2Proof.Machine

open Sys2Proof Sys2Proof.Safety

/-- A command that remakes nothing keeps the queue, OTP, the ring depths and the canonical call board. -/
theorem State.after_keeps (s : State) {c : Instr} (h : remakes c = false) : s.Keeps (s.after c) := by
  cases hf : family c with
  | boot => exact s.after_keeps_boot hf h
  | picture => exact s.after_keeps_picture hf h
  | unit => exact s.after_keeps_unit hf h
  | sequencer => exact s.after_keeps_sequencer hf h
  | flow => exact s.after_keeps_flow hf h
  | flit => exact s.after_keeps_flit hf h
  | link => exact s.after_keeps_link hf h
  | audio => exact s.after_keeps_audio hf h
  | dram => exact s.after_keeps_dram hf h
  | clock => exact s.after_keeps_clock hf h
  | pin => exact s.after_keeps_pin hf h
  | twin => exact s.after_keeps_twin hf h
  | host => exact s.after_keeps_host hf h
  | mailbox => exact s.after_keeps_mailbox hf h

/-- What only the held part decides holds after a mailbox command if its body leaves it so. -/
theorem runCmd_of_held {P : State → Prop} (hP : ∀ t u : State, u.held = t.held → P t → P u) (c : Spec) (h : Hdr)
    (body : State → State × Reply) (s : State) (pass : Bool) (hs : P s) (hb : P (body (s.takeCmd h)).1) :
    P (runCmd c h body s pass) := by
  obtain ⟨-, e⟩ | ⟨-, -, e⟩ | ⟨st, -, -, -, e⟩ | ⟨-, -, -, e⟩ := runCmd_cases c h body s pass <;> rw [e]
  · exact hs
  · exact hP s _ (by simp) hs
  · exact hP s _ (by split <;> simp) hs
  · exact hP _ _ (by simp) hb

theorem State.pending_of_held {t u : State} (h : u.held = t.held) : u.pending = t.pending := congrArg Prod.fst h

theorem State.otp_of_held {t u : State} (h : u.held = t.held) : u.sec.otp = t.sec.otp := congrArg (fun x => x.2.1) h

/-- OTP after a request that passes FUSE_PROGRAM's checks has the old rollback counter, or a higher one within the bound. -/
theorem State.fuseApply_rollback {s : State} {q : List Byte} {o : Otp} (h : s.fuseApply q = some o) :
    o.rollback = s.sec.otp.rollback ∨ s.sec.otp.rollback < o.rollback ∧ o.rollback ≤ s.boot.fw.rollback := by
  unfold State.fuseApply at h
  dsimp only at h
  split at h
  · split at h
    · cases h
    · split at h
      · cases h
      · cases h; exact .inl rfl
  · split at h
    · cases h
    · cases h; exact .inl rfl
  · split at h
    · cases h
    · cases h; exact .inl rfl
  · split at h
    · cases h
    · cases h
      exact .inr (by dsimp only; omega)

theorem State.fuseCheck_ok {s : State} {off len : Nat} {q : List Byte} {o : Otp} (h : s.fuseCheck off len = .ok (q, o)) :
    s.fuseApply q = some o := by
  unfold State.fuseCheck at h
  repeat' split at h
  all_goals cases h
  assumption

@[simp] theorem State.fuseRefused_held (s : State) (st : Nat) : (s.fuseRefused st).held = s.held := by
  unfold State.fuseRefused
  repeat' split
  · exact State.raise_held _ _
  · exact State.sigRefused_held s _ _ _
  · rfl

@[simp] theorem State.fuseRefused_board (s : State) (st : Nat) (hb : s.boardOk = true) :
    (s.fuseRefused st).boardOk = true := by
  unfold State.fuseRefused
  repeat' split
  · simp [hb]
  · exact State.sigRefused_board s _ _ _ hb
  · exact hb

/-- OTP as FUSE_PROGRAM may leave it. -/
def State.OtpBounded (s t : State) : Prop :=
  t.sec.otp.rollback = s.sec.otp.rollback
    ∨ s.sec.otp.rollback < t.sec.otp.rollback ∧ t.sec.otp.rollback ≤ s.boot.fw.rollback

theorem fuseProgram_otpBounded (h : Hdr) (off len : Nat) (s : State) :
    s.OtpBounded (s.after (.fuseProgram h off len)) := by
  rw [State.after_of_next (c := .fuseProgram h off len) rfl]
  refine runCmd_of_held (P := s.OtpBounded) (fun t u e => ?_) _ _ _ s _ (.inl rfl) ?_
  · unfold State.OtpBounded
    rw [State.otp_of_held e]
    exact id
  · dsimp only
    split
    case h_1 st _ => exact .inl (congrArg Otp.rollback (by simp [State.otp_of_held (State.fuseRefused_held _ st)]))
    case h_2 q o hok => simpa [State.OtpBounded] using State.fuseApply_rollback (State.fuseCheck_ok hok)

theorem fuseProgram_pending (h : Hdr) (off len : Nat) (s : State) :
    (s.after (.fuseProgram h off len)).pending = s.pending := by
  rw [State.after_of_next (c := .fuseProgram h off len) rfl]
  refine runCmd_of_held (P := fun t => t.pending = s.pending) (fun t u e => (State.pending_of_held e).trans) _ _ _ s _ rfl ?_
  dsimp only
  split
  · simp [State.pending_of_held (State.fuseRefused_held _ _)]
  · simp

/-- What MB_CONFIG leaves alone: all but the mailboxes and the journal. -/
theorem mbConfig_otp_pending (h : Hdr) (depths : List Nat) (s : State) :
    (s.after (.mbConfig h depths)).sec.otp = s.sec.otp ∧ (s.after (.mbConfig h depths)).pending = s.pending := by
  rw [State.after_of_next (c := .mbConfig h depths) rfl]
  refine runCmd_of_held (P := fun t => t.sec.otp = s.sec.otp ∧ t.pending = s.pending) (fun t u e ht => ?_) _ _ _ s _ ⟨rfl, rfl⟩ ?_
  · rw [State.otp_of_held e, State.pending_of_held e]
    exact ht
  · dsimp only
    repeat' split
    all_goals exact ⟨rfl, rfl⟩

theorem State.coldReset_eq (s : State) (cause : ColdCause) :
    (∃ (t : State) (n : Nat), t.held = s.held ∧ s.after (.coldReset cause) = t.coldHeld n)
      ∨ s.Keeps (s.after (.coldReset cause)) := by
  rw [State.after_of_next (c := .coldReset cause) rfl]
  split
  · exact .inr (.refl s)
  · cases cause with
    | resetN low =>
      dsimp only
      split
      · exact .inl ⟨s, 1, rfl, rfl⟩
      · split
        · exact .inl ⟨s.fresh, 1, rfl, rfl⟩
        · exact .inr ⟨rfl, id⟩
    | supply mV =>
      dsimp only
      split
      · exact .inl ⟨s, 2, rfl, rfl⟩
      · exact .inr (.refl s)

theorem State.after_otp_pending (s : State) (c : Instr) :
    (s.after c).pending = s.pending ∧ ((s.after c).sec.otp = s.sec.otp ∨ ∃ h off len, c = .fuseProgram h off len) := by
  cases hc : remakes c with
  | false =>
    have k := (s.after_keeps hc).held
    exact ⟨State.pending_of_held k, .inl (State.otp_of_held k)⟩
  | true =>
    cases c with
    | powerOnReset => exact ⟨rfl, .inl rfl⟩
    | coldReset cause =>
      obtain ⟨t, n, ht, e⟩ | k := s.coldReset_eq cause
      · rw [e]
        exact ⟨(State.pending_of_held ht :), .inl (State.otp_of_held ht :)⟩
      · exact ⟨State.pending_of_held k.held, .inl (State.otp_of_held k.held)⟩
    | warmResetEntry => exact ⟨s.warmReset_pending 3 false, .inl (s.warmReset_otp 3 false)⟩
    | watchdogExpiry =>
      rw [State.after_of_next (c := .watchdogExpiry) rfl]
      split
      · exact ⟨s.warmReset_pending 4 true, .inl (s.warmReset_otp 4 true)⟩
      · exact ⟨rfl, .inl rfl⟩
    | lockstepMismatch =>
      rw [State.after_of_next (c := .lockstepMismatch) rfl]
      split
      · exact ⟨s.warmReset_pending 5 true, .inl (s.warmReset_otp 5 true)⟩
      · exact ⟨rfl, .inl rfl⟩
    | fuseProgram h off len => exact ⟨fuseProgram_pending h off len s, .inr ⟨h, off, len, rfl⟩⟩
    | mbConfig h depths =>
      have k := mbConfig_otp_pending h depths s
      exact ⟨k.2, .inl k.1⟩
    | _ => cases hc

/-- Settles O48: every command answers, and its family's lemma keeps the queue. -/
theorem everyCommandAnswers : Obligations.EveryCommandAnswers :=
  fun c s => ⟨s.after c, exec_eq_after c s, (s.after_otp_pending c).1⟩

/-- Settles O51: every other command keeps OTP, and FUSE_PROGRAM's last check bounds the counter. -/
theorem otpOnlyByFuse : Obligations.OtpOnlyByFuse := by
  intro c s t hexec hchange
  obtain rfl := State.after_of_next hexec
  obtain hsame | ⟨h, off, len, rfl⟩ := (s.after_otp_pending c).2
  · exact absurd hsame hchange
  · exact ⟨⟨h, off, len, rfl⟩, fuseProgram_otpBounded h off len s⟩

end Sys2Proof.Machine
end

section
/-! PROOFS. The rings and the call board (R467): resets make them afresh, MB_CONFIG stays within the area, and an idle tick keeps them. -/

namespace Sys2Proof.Machine

open Sys2Proof Sys2Proof.Safety

theorem State.reset_ringsFit : RingsFit State.reset := by
  refine ⟨rfl, ?_, ?_⟩ <;> decide

theorem RingsFit.of_mbs {s t : State} (h : t.host.mbs = s.host.mbs) (hs : RingsFit s) : RingsFit t := by
  unfold RingsFit
  rw [h]
  exact hs

/-- Settles O50. -/
theorem resetRingsAndBoard : Obligations.ResetRingsAndBoard := ⟨State.reset_ringsFit, rfl⟩

theorem State.coldHeld_ringsFit (s : State) (n : Nat) : RingsFit (s.coldHeld n) := RingsFit.of_mbs rfl State.reset_ringsFit

theorem State.warmReset_ringsFit (s : State) (cause : Nat) (hw : Bool) (hs : RingsFit s) :
    RingsFit (s.warmReset cause hw) := by
  obtain h | h := s.warmReset_depths cause hw
  · exact RingsFit.of_held h hs
  · exact RingsFit.of_mbs h State.reset_ringsFit

/-- The depths MB_CONFIG asks for are depths of R467 where it asks for nothing outside 16 to 256. -/
theorem newDepth_mem {old code : Nat} (hold : old ∈ [16, 32, 64, 128, 256]) (hcode : ¬ (code ≠ 0 ∧ (code < 4 ∨ 8 < code))) :
    newDepth old code ∈ [16, 32, 64, 128, 256] := by
  unfold newDepth
  split
  · exact hold
  · obtain rfl | rfl | rfl | rfl | rfl : code = 4 ∨ code = 5 ∨ code = 6 ∨ code = 7 ∨ code = 8 := by omega
    all_goals decide

/-- Mailboxes whose depths are those asked for have fitting rings, if the codes are in range and the sum fits. -/
theorem RingsFit.of_asked {s t : State} {codes : List Nat} (hs : RingsFit s)
    (hdepth : ∀ n : Fin 8, (vget t.host.mbs n).depth = (askedDepths s.host.mbs codes).getD n 128)
    (hcodes : (codes.drop 1).any (fun d => decide (d ≠ 0 ∧ (d < 4 ∨ 8 < d))) = false)
    (hsum : (askedDepths s.host.mbs codes).sum ≤ 1280) : RingsFit t := by
  obtain ⟨hfirst, hall, -⟩ := hs
  have hask : ∀ n : Fin 8, (askedDepths s.host.mbs codes).getD n 128
      = if n = 0 then (vget s.host.mbs n).depth else newDepth (vget s.host.mbs n).depth (codes.getD n 0) := by
    intro n
    simp [askedDepths]
  have hlist : t.host.mbs.toList.map (·.depth) = askedDepths s.host.mbs codes := by
    refine List.ext_getElem (by simp [askedDepths]) fun i hi hi' => ?_
    have h8 : i < 8 := by simpa [askedDepths] using hi'
    have := hdepth ⟨i, h8⟩
    simpa [vget, hi'] using this
  refine ⟨?_, fun n => ?_, ?_⟩
  · rw [hdepth, hask, if_pos rfl]
    exact hfirst
  · rw [hdepth, hask]
    split
    · exact hall n
    case isFalse hn =>
      refine newDepth_mem (hall n) fun hbad => ?_
      have hmem : codes.getD n 0 ∈ codes.drop 1 := by
        have hlen : n.val < codes.length := by
          by_contra hge
          exact hbad.1 (List.getD_eq_default _ _ (by omega))
        have hpos : 0 < n.val := by
          have : n.val ≠ 0 := fun e => hn (Fin.ext e)
          omega
        rw [List.getD_eq_getElem _ _ hlen, List.mem_drop_iff_getElem]
        exact ⟨n.val - 1, by omega, by congr 1; omega⟩
      have := List.any_eq_false.mp hcodes _ hmem
      simp at this hbad
      omega
  · rw [hlist]
    exact hsum

theorem mbConfig_ringsFit (h : Hdr) (codes : List Nat) (s : State) (hs : RingsFit s) :
    RingsFit (s.after (.mbConfig h codes)) := by
  rw [State.after_of_next (c := .mbConfig h codes) rfl]
  have ht : RingsFit (s.takeCmd h) := RingsFit.of_held (s.takeCmd_held h) hs
  refine runCmd_of_held (P := RingsFit) (fun t u e => RingsFit.of_held e) _ _ _ s _ hs ?_
  dsimp only
  split
  · exact ht
  split
  · exact ht
  case isFalse hrange _ =>
    rw [not_or, Bool.not_eq_true] at hrange
    refine RingsFit.of_asked (codes := codes) ht (fun n => ?_) hrange.1 (Nat.le_of_not_lt hrange.2)
    simp only [vget, Vector.getElem_ofFn]
    split
    · rfl
    case isFalse hn =>
      by_cases h0 : n = 0
      · simp [askedDepths, h0]; rfl
      · have hc : codes.getD n 0 = 0 := by
          by_contra hne
          exact hn ⟨fun e => h0 (Fin.ext e), hne⟩
        rw [List.getD_eq_getElem?_getD] at hc
        simp [askedDepths, h0, newDepth, vget, hc]

theorem mbConfig_board (h : Hdr) (codes : List Nat) (s : State) (hb : s.boardOk = true) :
    (s.after (.mbConfig h codes)).boardOk = true := by
  rw [State.after_of_next (c := .mbConfig h codes) rfl]
  refine runCmd_board _ _ _ s _ hb fun ht => ?_
  dsimp only
  repeat' split
  all_goals exact ht

theorem fuseProgram_ringsFit (h : Hdr) (off len : Nat) (s : State) (hs : RingsFit s) :
    RingsFit (s.after (.fuseProgram h off len)) := by
  rw [State.after_of_next (c := .fuseProgram h off len) rfl]
  have ht : RingsFit (s.takeCmd h) := RingsFit.of_held (s.takeCmd_held h) hs
  refine runCmd_of_held (P := RingsFit) (fun t u e => RingsFit.of_held e) _ _ _ s _ hs ?_
  dsimp only
  split
  · exact RingsFit.of_held (by simp) ht
  · exact RingsFit.of_mbs (by simp) ht

theorem fuseProgram_board (h : Hdr) (off len : Nat) (s : State) (hb : s.boardOk = true) :
    (s.after (.fuseProgram h off len)).boardOk = true := by
  rw [State.after_of_next (c := .fuseProgram h off len) rfl]
  refine runCmd_board _ _ _ s _ hb fun ht => ?_
  dsimp only
  split
  · simp [State.fuseRefused_board _ _ ht]
  · exact State.raise_boardOk _ _ ht

/-- The rings fit and the call board is canonical after every command. -/
theorem State.after_rings_board (s : State) (c : Instr) (hs : RingsFit s) (hb : s.boardOk = true) :
    RingsFit (s.after c) ∧ (s.after c).boardOk = true := by
  have warm : ∀ cause hw, RingsFit (s.warmReset cause hw) ∧ (s.warmReset cause hw).boardOk = true :=
    fun cause hw => ⟨s.warmReset_ringsFit cause hw hs, s.warmReset_board cause hw hb⟩
  cases hc : remakes c with
  | false =>
    have k := s.after_keeps hc
    exact ⟨RingsFit.of_held k.held hs, k.board hb⟩
  | true =>
    cases c with
    | powerOnReset => exact ⟨s.coldHeld_ringsFit 0, rfl⟩
    | coldReset cause =>
      obtain ⟨t, n, -, e⟩ | k := s.coldReset_eq cause
      · rw [e]
        exact ⟨t.coldHeld_ringsFit n, rfl⟩
      · exact ⟨RingsFit.of_held k.held hs, k.board hb⟩
    | warmResetEntry => exact warm 3 false
    | watchdogExpiry =>
      rw [State.after_of_next (c := .watchdogExpiry) rfl]
      split
      · exact warm 4 true
      · exact ⟨hs, hb⟩
    | lockstepMismatch =>
      rw [State.after_of_next (c := .lockstepMismatch) rfl]
      split
      · exact warm 5 true
      · exact ⟨hs, hb⟩
    | fuseProgram h off len => exact ⟨fuseProgram_ringsFit h off len s hs, fuseProgram_board h off len s hb⟩
    | mbConfig h codes => exact ⟨mbConfig_ringsFit h codes s hs, mbConfig_board h codes s hb⟩
    | _ => cases hc

theorem tickPasses_keeps (s : State) : s.Keeps (tickPasses s) := by
  have hxo : s.Keeps s.xoEnds := by
    unfold State.xoEnds
    dsimp only
    split
    · exact .refl s
    · exact s.putCk_keeps _
  have hfourth : s.Keeps (if s.time.fclk % 4 = 3 then s.xoEnds else s) := by
    split
    · exact hxo
    · exact .refl s
  unfold tickPasses
  extract_lets s1 s2
  have h2 : s.Keeps s2 := hfourth.trans ⟨rfl, id⟩
  split
  · exact h2.trans ⟨rfl, id⟩
  · exact h2

/-- Settles O49: a command by `State.after_rings_board`, the idle tick because it keeps the rings and the board. -/
theorem stepKeepsRingsAndBoard : Obligations.StepKeepsRingsAndBoard := by
  intro s t hs hb hstep
  unfold step at hstep
  split at hstep
  · cases hstep
    have k := tickPasses_keeps s
    exact ⟨RingsFit.of_held k.held hs, k.board hb⟩
  case h_2 c rest _ =>
    obtain rfl := State.after_of_next hstep
    exact State.after_rings_board _ c hs hb

end Sys2Proof.Machine
end

section
/-! PROOFS. Commands that own no kind of state keep the calm part, family by family. -/

namespace Sys2Proof.Machine

open Sys2Proof Sys2Proof.Safety

/-! ### Further operations that leave the calm part alone -/

@[simp] theorem State.sayMark_calm (s : State) (q : Source) (source n : Nat) : (s.sayMark q source n).calm = s.calm := by
  unfold State.sayMark
  exact foldl_calm _ (fun t l => by split <;> simp) _ _

@[simp] theorem State.castTo_calm (s : State) (level : Bool) : (s.castTo level).calm = s.calm := by
  simp [State.castTo]

@[simp] theorem State.dropWrite_calm (s : State) (e : Fin 16) (bytes : Nat) : (s.dropWrite e bytes).calm = s.calm := by
  simp [State.dropWrite]

@[simp] theorem State.rowFailed_calm (s : State) (m : RowDataMsg) : (s.rowFailed m).calm = s.calm := by
  simp [State.rowFailed]

@[simp] theorem State.landCtu_calm (s : State) (p : Production) (c : Ctx) (b : Nat) (m : RowDataMsg) (k : CtuCrf) (valid : Bool) :
    (s.landCtu p c b m k valid).calm = s.calm := by
  simp [State.landCtu]

@[simp] theorem State.rowLanded_calm (s : State) (c : Ctx) (b : Nat) (m : RowDataMsg) :
    (s.rowLanded c b m).calm = s.calm := by
  simp [State.rowLanded]

@[simp] theorem State.verifyError_calm (s : State) (i : Fin 12) (lane : Fin 4) :
    (s.verifyError i lane).calm = s.calm := by
  unfold State.verifyError
  dsimp only
  split <;> simp

@[simp] theorem State.followAttempt_calm (s : State) (i : Fin 12) (attempt : Nat) :
    (s.followAttempt i attempt).calm = s.calm := by
  simp [State.followAttempt]

@[simp] theorem State.scrubbed_calm (s : State) (sub : Fin 12) (k : Nat) : (s.scrubbed sub k).calm = s.calm := by
  unfold State.scrubbed
  dsimp only
  split <;> simp

@[simp] theorem State.writeHead_calm (s : State) : s.writeHead.calm = s.calm := rfl

theorem State.after_calm_of_exec {s t : State} {c : Instr} (h : exec c s = .next t) (k : t.calm = s.calm) :
    (s.after c).calm = s.calm := by
  rwa [State.after_of_next h]

theorem runCmd_quiet (c : Spec) (h : Hdr) (body : State → State × Reply) (s : State) (pass : Bool)
    (hb : ∀ t : State, (body t).1.calm = t.calm) : (runCmd c h body s pass).calm = s.calm :=
  runCmd_calm c h body s pass ((hb _).trans (s.takeCmd_calm h))

theorem runLong_quiet (c : Spec) (h : Hdr) (body : State → State × Option Reply) (s : State)
    (hb : ∀ t : State, (body t).1.calm = t.calm) : (runLong c h body s).calm = s.calm :=
  runLong_calm c h body s ((hb _).trans (s.takeCmd_calm h))

theorem State.control_next_calm {s t : State} {e : Fin 16} {op addr : Nat} {desc : Option Nat} {r : Option (Job × Engine)}
    (h : s.control e op addr desc = (t, r)) : t.calm = s.calm := by
  have k := s.control_calm e op addr desc
  rwa [h] at k

theorem State.issueDma_next_calm {s t : State} {e : Fin 16} {u desc : Nat} {r : Option (Job × DrDesc)}
    (h : s.issueDma e u desc = (t, r)) : t.calm = s.calm := by
  have k := s.issueDma_calm e u desc
  rwa [h] at k

theorem State.eventTask_calm (s : State) : (s.after .eventTask).calm = s.calm := by
  refine State.after_calm_of_exec rfl ?_
  dsimp only
  split
  · rfl
  split
  · rfl
  exact (foldl_calm _ (fun t y => by split <;> simp) _ _).trans rfl

/-- The link, what its lanes report, and the steps of its running adaptation; a bad run, or a replay too many, retrains. -/
theorem State.flitReceive_calm (s : State) (link : Fin 12) (flit : BitVec 512) (violations : List (Fin 4 × Nat))
    (adapt : List AdaptStep) : (s.after (.flitReceive link flit violations adapt)).calm = s.calm := by
  have hnext : ∃ t, exec (.flitReceive link flit violations adapt) s = .next t ∧ t.calm = s.calm := by
    simp only [exec]
    unfold execFlitReceive
    extract_lets l0
    refine ⟨_, rfl, ?_⟩
    by_cases hinactive : l0.state ≠ 8 ∧ l0.state ≠ 9
    · rw [if_pos hinactive]
    rw [if_neg hinactive]
    rename_i d f l bad r vc s1 s2
    have h1 : s1.calm = s.calm := by simp [s1]
    have h2 : s2.calm = s.calm := (foldl_calm _ (fun t a => by simp) _ _).trans h1
    split
    · simp [h2]
    split
    · simp [h2]
    · exact h2
  obtain ⟨t, hexec, hkeeps⟩ := hnext
  exact State.after_calm_of_exec hexec hkeeps

/-- The kinds of state. -/
def allParts : List Part :=
  [.time, .cues, .sec, .cu, .tap, .mon, .green, .running, .before, .rings, .pairs, .curtain, .audio, .refs]

/-- The commands that own no kind of state, the resets and the boot apart. -/
def quiet (c : Instr) : Bool := !isReset c && allParts.all (fun p => !p.owner c)

theorem State.after_calm_boot (s : State) {c : Instr} (hc : family c = .boot) (h : quiet c = true) :
    (s.after c).calm = s.calm := by
  cases c with
  | powerOnReset | coldReset | warmResetEntry | watchdogExpiry | lockstepMismatch | warmEntrySave | resetRelease | warmBoot
  | bootLoad => cases h
  | firmwareInitTimeout =>
    refine State.after_calm_of_exec rfl ?_
    try dsimp only
    repeat' split
    all_goals simp
  | _ => cases hc

theorem State.after_calm_picture (s : State) {c : Instr} (hc : family c = .picture) (h : quiet c = true) :
    (s.after c).calm = s.calm := by
  cases c with
  | line | graphicWrite | graphicCommitPacket | graphicReleased | curtainNEdge | curtainCopy | swapping | swap => cases h
  | frameMark | windowClose | ancillary | contentLatch | previewLineSend =>
    refine State.after_calm_of_exec rfl ?_
    try dsimp only
    repeat' split
    all_goals simp
  | _ => cases hc

theorem State.after_calm_unit (s : State) {c : Instr} (hc : family c = .unit) (h : quiet c = true) :
    (s.after c).calm = s.calm := by
  cases c with
  | inRdq e desc | inFsq e desc | inFlr e desc | svLvl e desc | svExp e desc | mcCrs e desc | mfQrf e desc | ipEst e desc
  | mdSel e desc | mdFlr e desc | tqFwd e desc | tqFlr e desc | iqRec e desc | iqFlr e desc | lfDbk e desc | lfSao e desc
  | alAlf e desc | alDer e desc | bnBin e desc | bnSlh e desc | bnFlr e desc | bnEos e desc | rwCrf e desc =>
    refine State.after_calm_of_exec rfl (s.unit_calm e _ _ desc _ fun t j d => ?_)
    try dsimp only
    repeat' split
    all_goals simp
  | _ => cases hc

theorem State.after_calm_sequencer (s : State) {c : Instr} (hc : family c = .sequencer) (h : quiet c = true) :
    (s.after c).calm = s.calm := by
  cases c with
  | slotStart => cases h
  | sqCall e | sqRet e | sqLoop e | sqEndloop e | sqMark e | sqChg e | sqLate e | sqEnd e =>
    refine State.after_calm_of_exec rfl ?_
    try dsimp only
    repeat' split
    all_goals
      have k := State.control_next_calm ‹State.control s e _ _ _ = _›
      simp [k]
  | drRd e | dwWr e =>
    refine State.after_calm_of_exec rfl ?_
    try dsimp only
    repeat' split
    all_goals
      have k := State.issueDma_next_calm ‹State.issueDma s e _ _ = _›
      simp [k]
  | markTargetReached | derComplete | substitution | cueEccFault =>
    refine State.after_calm_of_exec rfl ?_
    try dsimp only
    repeat' split
    all_goals simp
  | _ => cases hc

theorem State.after_calm_flow (s : State) {c : Instr} (hc : family c = .flow) (h : quiet c = true) :
    (s.after c).calm = s.calm := by
  cases c with
  | segmentOpen | segmentClose | taskDispatch | affinityWaitExpiry | packetCommit | gapMarkerCommit | ladleFault | stockpotMove
  | stockpotRefillLand | egressSelect | shaperRefill | gateEntryChange | egressAck =>
    refine State.after_calm_of_exec rfl ?_
    try dsimp only
    repeat' split
    all_goals simp
  | eventTask => exact s.eventTask_calm
  | _ => cases hc

theorem State.after_calm_flit (s : State) {c : Instr} (hc : family c = .flit) (h : quiet c = true) :
    (s.after c).calm = s.calm := by
  cases c with
  | flitSend | replayTimeout | creditStarved | ckLost | trainingBlock =>
    refine State.after_calm_of_exec rfl ?_
    try dsimp only
    repeat' split
    all_goals simp
  | flitReceive link flit violations adapt => exact s.flitReceive_calm link flit violations adapt
  | _ => cases hc

theorem State.after_calm_link (s : State) {c : Instr} (hc : family c = .link) (h : quiet c = true) :
    (s.after c).calm = s.calm := by
  cases c with
  | partnerCkDetect | clockLock | deskew | adaptEnd | verifyPass | capability | trainingLimitExpiry | linkActive | darkRetry
  | eyeDone | patternLock | patternLockLost =>
    refine State.after_calm_of_exec rfl ?_
    try dsimp only
    repeat' split
    all_goals simp
  | _ => cases hc

theorem State.after_calm_audio (s : State) {c : Instr} (hc : family c = .audio) (h : quiet c = true) :
    (s.after c).calm = s.calm := by
  cases c with
  | audio | audioFrame | audioPcmResumed | audioChangeApply | audioChangeTimeout | linkSampleWindowClose | audioRestarted
  | audioClockStop => cases h
  | _ => cases hc

theorem State.after_calm_dram (s : State) {c : Instr} (hc : family c = .dram) (h : quiet c = true) :
    (s.after c).calm = s.calm := by
  cases c with
  | ddrReadReturn => cases h
  | refreshWindow | zqCalibration | mr4Read | ddrSchedule | ddrWriteRequest | patrolScrub | ddrAlert =>
    refine State.after_calm_of_exec rfl ?_
    try dsimp only
    repeat' split
    all_goals simp
  | _ => cases hc

theorem State.after_calm_clock (s : State) {c : Instr} (hc : family c = .clock) (h : quiet c = true) :
    (s.after c).calm = s.calm := by
  cases c with
  | timeOfDay | ppsEdge | ppsLost | rootUnlock | activityLoss | gateEnd | phaseComparison | waitToRestore | switchEnd
  | lockAcquired | historySample | refPins | rootLock | candidateActivityReturn => cases h
  | _ => cases hc

theorem State.after_calm_pin (s : State) {c : Instr} (hc : family c = .pin) (h : quiet c = true) :
    (s.after c).calm = s.calm := by
  cases c with
  | cueEdge | cueStuck | cueReleased | cueOutputEdge | thermalSample | supplySample | testLogicReset | idcode | samplePreload
  | extest | highz | clamp | extestPulse | extestTrain | bypass => cases h
  | eventNotify | evtRdWrite =>
    refine State.after_calm_of_exec rfl ?_
    try dsimp only
    repeat' split
    all_goals simp
  | _ => cases hc

theorem State.after_calm_twin (s : State) {c : Instr} (hc : family c = .twin) (h : quiet c = true) :
    (s.after c).calm = s.calm := by
  cases c with
  | demotion => cases h
  | arbHbToggle | heartbeatServiceTimeout | takeover | beat | twinHeartbeatLost | orphanTimeout | healthSend | health
  | twinHelloSend | twinHello | positionsSend | positions | ackHoldExpiry | frameRecord | rowRecord | confirm | itemRequest
  | item | rowRequest | rowData | blockRequest | blockData =>
    refine State.after_calm_of_exec rfl ?_
    try dsimp only
    repeat' split
    all_goals simp
  | beatSend =>
    refine State.after_calm_of_exec rfl ?_
    split
    · rfl
    · exact (State.send_calm ..).trans s.review_calm
  | _ => cases hc

theorem State.after_calm_host (s : State) {c : Instr} (hc : family c = .host) (h : quiet c = true) :
    (s.after c).calm = s.calm := by
  cases c with
  | regRead | regWrite | journalHeadWrite | doorbell | cplRdWrite | mailboxReset | intStatusWrite | hostWindowWrite
  | spiTransaction | spiStatus =>
    refine State.after_calm_of_exec rfl ?_
    try dsimp only
    repeat' split
    all_goals simp
  | _ => cases hc

theorem State.after_calm_mailbox (s : State) {c : Instr} (hc : family c = .mailbox) (h : quiet c = true) :
    (s.after c).calm = s.calm := by
  cases c with
  | ownerKeyLoad | debugToken | fuseProgram | productionLoad | productionCheck | productionCue | productionAbort
  | graphicCommit | curtainStage | curtainInstall | curtainDrop | curtainRaise | audioGainSet | audioMuteSet | audioPortRestart
  | clockStatus | candidateStatus | candidateSet | dpllSet | dpllSoftware | dpllNudge | dpllClose | clockHistoryClear
  | houseTimeStatus | houseTimeSet | houseTimeAlarmSet | cueConfig | cueOutput | cueStatus | cuConfig | cuFeed | cuRead
  | cuWrite => cases h
  | hello | goodbye | mbConfig | echo | identify | certRead | attest | productionStatus | contextRateSet | contextQpLimitsSet
  | layerGeometrySet | layerOpacitySet | layerStatus | curtainStatus | audioStatus | egressShaperSet | linkStatus | linkRetrain
  | linkTxSet | linkGuardSet | patternStart | patternRead | patternInject | patternStop | linkProtocol | ddrStatus
  | ddrSubchannelStatus | ddrPortStatus | ddrErrorLog | ddrMark | ddrScrubSet | ddrChecksEnable | twinStatus | twinPair
  | twinUnpair | engineStatus | queueStatus | contextStatus | telemetry | eventMaskSet | eventSourceStatus | selftestReport =>
    refine State.after_calm_of_exec rfl (runCmd_quiet _ _ _ s _ fun t => ?_)
    try dsimp only [withUnit, withLink]
    repeat' split
    all_goals simp
  | eyeScan =>
    refine State.after_calm_of_exec rfl (runLong_quiet _ _ _ s fun t => ?_)
    try dsimp only
    repeat' split
    all_goals simp
  | _ => cases hc

end Sys2Proof.Machine
end

section
/-! PROOFS. What operations spare of the calm part: each changes the kinds of state that it names, and no other. -/

namespace Sys2Proof.Machine

open Sys2Proof Sys2Proof.Safety

/-- The type of the calm part. -/
abbrev Calm := HouseTime × Vector CuePin 16 × Security × Vector CheckUnit 16 × Tap × Monitors × GreenRoom ×
  Option Production × Option Production × Cells Machine.Ring × Cells PairState × Cells Machine.Ring × Cells PairState ×
  Curtain × Audio × Vector Candidate 16 × Dpll

/-- A value, but for the kinds of state in `ps`. -/
def outside {α : Type} (ps : List Part) (p : Part) (x : α) : Option α := if ps.contains p then none else some x

/-- The calm part without the kinds of state in `ps`. What frames in composition keep of rings and pairs goes with them. -/
def without (ps : List Part) (x : Calm) :=
  let (time, cues, sec, cu, tap, mon, green, running, before, rings, pairs, wasRings, wasPairs, curtain, audio, cands, dpll) := x
  (outside ps .time time, outside ps .cues cues, outside ps .sec sec, outside ps .cu cu, outside ps .tap tap,
    outside ps .mon mon, outside ps .green green, outside ps .running running, outside ps .before before,
    outside ps .rings (rings, wasRings), outside ps .pairs (pairs, wasPairs), outside ps .curtain curtain,
    outside ps .audio audio, outside ps .refs (cands, dpll))

/-- `t` differs from `s` in the calm part only by the kinds of state in `ps`. -/
def State.Spares (ps : List Part) (s t : State) : Prop := without ps t.calm = without ps s.calm

theorem State.Spares.of_calm {ps : List Part} {s t : State} (h : t.calm = s.calm) : State.Spares ps s t :=
  congrArg (without ps) h

theorem State.Spares.trans {ps : List Part} {s t u : State} (h : State.Spares ps s t) (k : State.Spares ps t u) :
    State.Spares ps s u := Eq.trans k h

theorem State.Spares.of_exec {ps : List Part} {s t : State} {c : Instr} (h : exec c s = .next t) (k : State.Spares ps s t) :
    State.Spares ps s (s.after c) := by
  rwa [State.after_of_next h]

theorem runCmd_spares {ps : List Part} (c : Spec) (h : Hdr) (body : State → State × Reply) (s : State) (pass : Bool)
    (hb : ∀ t : State, State.Spares ps t (body t).1) : State.Spares ps s (runCmd c h body s pass) := by
  have hbody : State.Spares ps s (body (s.takeCmd h)).1 := (State.Spares.of_calm (s.takeCmd_calm h)).trans (hb _)
  obtain ⟨-, e⟩ | ⟨-, -, e⟩ | ⟨st, -, -, -, e⟩ | ⟨-, -, -, e⟩ := runCmd_cases c h body s pass <;> rw [e]
  · exact .of_calm rfl
  · exact .of_calm (by simp)
  · exact .of_calm (by split <;> simp)
  · exact hbody.trans (.of_calm (by simp))

/-- What a command spares is the same before and after it. -/
theorem State.Spares.kept {ps : List Part} {s t : State} (h : State.Spares ps s t) {p : Part} (hp : ps.contains p = false) :
    p.kept s t := by
  simp only [State.Spares, State.calm, without, Prod.mk.injEq] at h
  obtain ⟨htime, hcues, hsec, hcu, htap, hmon, hgreen, hrunning, hbefore, hrings, hpairs, hcurtain, haudio, hrefs⟩ := h
  have same {α : Type} {x y : α} (e : outside ps p x = outside ps p y) : x = y := by
    simp only [outside, hp, Bool.false_eq_true, if_false] at e
    exact Option.some.inj e
  cases p with
  | time => exact same htime
  | cues => exact same hcues
  | sec => exact same hsec
  | cu => exact same hcu
  | tap => exact same htap
  | mon => exact same hmon
  | green => exact same hgreen
  | running => exact same hrunning
  | before => exact same hbefore
  | rings => exact congrArg Prod.fst (same hrings)
  | pairs => exact congrArg Prod.fst (same hpairs)
  | curtain => exact same hcurtain
  | audio => exact same haudio
  | refs => exact Prod.mk.inj (same hrefs)

theorem State.Spares.foldl {ps : List Part} {α : Type} (f : State → α → State) (hf : ∀ t x, State.Spares ps t (f t x))
    (l : List α) (s : State) : State.Spares ps s (l.foldl f s) := by
  induction l generalizing s with
  | nil => exact .of_calm rfl
  | cons x l ih => exact (hf s x).trans (ih _)

theorem State.Spares.audio (s : State) (a : Audio) : State.Spares [.audio] s { s with audio := a } := by
  simp [State.Spares, without, outside, State.calm, -calm_eta]

theorem State.Spares.raiseAll {ps : List Part} {s t : State} (h : State.Spares ps s t) (es : List Ev) :
    State.Spares ps s (t.raiseAll es) := h.trans (.of_calm (State.raiseAll_calm t es))

theorem State.Spares.raise {ps : List Part} {s t : State} (h : State.Spares ps s t) (e : Ev) :
    State.Spares ps s (t.raise e) := h.trans (.of_calm (State.raise_calm t e))

/-! ### Operations that change one kind of state -/

@[simp] theorem State.putCk_calm (s : State) (k : Ck) :
    (s.putCk k).calm = State.calm { s with cands := k.cands, dpll := k.dpll } := by
  simp [State.putCk]

@[simp] theorem State.greenTo_calm (s : State) (g : GreenRoom) :
    (s.greenTo g).calm = State.calm { s with green := g } := by
  simp [State.greenTo]

@[simp] theorem State.cuFault_calm (s : State) (u : Fin 16) :
    (s.cuFault u).calm = State.calm { s with cu := (s.cuFault u).cu } := by
  simp [State.cuFault, State.setCu]

@[simp] theorem State.setTime_calm (s : State) (ns cause : Nat) :
    (s.setTime ns cause).calm = State.calm { s with time := { s.time with tick := tickOf ns, valid := true } } := by
  unfold State.setTime
  dsimp only
  split <;> simp

@[simp] theorem State.noteRefusal_calm (s : State) (opcode : Nat) (d : Detail) :
    (s.noteRefusal opcode d).calm = s.calm := by
  unfold State.noteRefusal
  split <;> simp

@[simp] theorem State.cancelCue_calm (s : State) (reason : Nat) :
    (s.cancelCue reason).calm = State.calm { s with green := { s.green with request := none } } := by
  simp [State.cancelCue]

@[simp] theorem State.edgeError_calm (s : State) (capturePs : Int) (sec : Nat) :
    (s.edgeError capturePs sec).calm
      = State.calm { s with time := (s.edgeError capturePs sec).time, dpll := (s.edgeError capturePs sec).dpll } := by
  simp [State.edgeError]

@[simp] theorem State.moveCurtain_calm (s : State) (k : Curtain) (cause : Nat) :
    (s.moveCurtain k cause).calm = State.calm { s with curtain := (s.moveCurtain k cause).curtain } := by
  unfold State.moveCurtain
  split <;> simp

@[simp] theorem State.tapSelect_calm (s : State) (want : TapInstr) :
    (s.tapSelect want).calm = State.calm { s with tap := (s.tapSelect want).tap } := by
  have htap : ∀ (f : State → Fin 12 → State), (∀ t i, (f t i).calm = t.calm) → ∀ t : State,
      ((List.finRange 12).foldl f t).tap = t.tap :=
    fun f hf t => congrArg (fun x => x.2.2.2.2.1) (foldl_calm f hf _ t)
  unfold State.tapSelect
  extract_lets i held tap s1
  split
  · rw [htap _ fun t i => t.linkUnderTest_calm i]
    simp [s1]
  split
  · rw [htap _ fun t i => t.linkAfterTest_calm i]
    simp [s1]
  · rfl

@[simp] theorem State.setRing_calm (s : State) (p : Production) (source : Nat) (r : Machine.Ring) :
    (s.setRing p source r).calm = State.calm { s with
      rings := (s.setRing p source r).rings, wasRings := (s.setRing p source r).wasRings } := by
  unfold State.setRing
  split <;> rfl

/-! ### Operations that change audio -/

theorem State.linkLate_spares (s : State) (c zeroed discarded : Nat) : State.Spares [.audio] s (s.linkLate c zeroed discarded) :=
  (State.Spares.audio s _).raise _

theorem State.setPort_spares (s : State) (i : Fin 32) (x : APortState) : State.Spares [.audio] s (s.setPort i x) :=
  State.Spares.audio s _

theorem State.flushPort_spares (s : State) (i : Fin 32) : State.Spares [.audio] s (s.flushPort i) := State.Spares.audio s _

theorem State.restartPort_spares (s : State) (e : APort) (i : Fin 32) (cause : Nat) :
    State.Spares [.audio] s (s.restartPort e i cause) := by
  unfold State.restartPort
  split
  · exact (s.flushPort_spares i).trans (State.setPort_spares _ i _)
  · exact s.setPort_spares i _

theorem State.drainPort_spares (s : State) (p : Production) (i : Fin 32) : State.Spares [.audio] s (s.drainPort p i) := by
  unfold State.drainPort
  extract_lets x room k a
  split
  · exact .of_calm rfl
  · exact State.Spares.audio s _

theorem State.detectPort_spares (s : State) (p : Production) (e : APort) (i : Fin 32) (n : Nat) (v w : Int) :
    State.Spares [.audio] s (s.detectPort p e i n v w) := by
  unfold State.detectPort
  extract_lets x s1
  have h1 : State.Spares [.audio] s s1 := s.setPort_spares i _
  repeat' split
  · exact .of_calm rfl
  · exact h1
  · exact (h1.trans (State.Spares.audio s1 _)).raise _
  · exact s.setPort_spares i _
  · exact .of_calm rfl

theorem State.inputFrame_spares (s : State) (p : Production) (e : APort) (framing : Nat) (i : Fin 32) (n : Nat) (w : U32 × U32) :
    State.Spares [.audio] s (s.inputFrame p e framing i n w) := by
  unfold State.inputFrame
  extract_lets s0 x r word s1 lost s2 s3
  have h0 : State.Spares [.audio] s s0 := by
    unfold s0
    split
    · exact s.flushPort_spares i
    · exact .of_calm rfl
  have h1 : State.Spares [.audio] s s1 := h0.trans (s0.setPort_spares i _)
  have h2 : State.Spares [.audio] s s2 := (h1.trans (State.Spares.audio s1 _)).trans (State.drainPort_spares _ p i)
  have h3 : State.Spares [.audio] s s3 := h2.trans (State.Spares.audio s2 _)
  exact (h3.trans (s3.detectPort_spares p e i n _ _)).raiseAll _

theorem State.askWords_spares (s : State) (p : Production) (i : Fin 32) (n : Nat) : State.Spares [.audio] s (s.askWords p i n) :=
  State.Spares.audio s _

theorem State.outputFrame_spares (s : State) (p : Production) (e : APort) (framing : Nat) (i : Fin 32) (n : Nat) :
    State.Spares [.audio] s (s.outputFrame p e framing i n) := by
  unfold State.outputFrame
  extract_lets x y a1 s1 r s2
  have h1 : State.Spares [.audio] s s1 := State.Spares.audio s _
  have h2 : State.Spares [.audio] s s2 := State.Spares.audio s _
  split
  · split
    · exact h1.trans (s1.askWords_spares p i n)
    · exact h1
  · exact (h2.trans (s2.askWords_spares p i n)).raiseAll _

theorem State.portFrame_spares (s : State) (p : Production) (framing n : Nat) (inputs : List PortIn) (i : Fin 32) :
    State.Spares [.audio] s (s.portFrame p framing n inputs i) := by
  unfold State.portFrame
  extract_lets e w
  split
  · exact s.inputFrame_spares p e framing i n w
  split
  · exact s.outputFrame_spares p e framing i n
  · exact .of_calm rfl

theorem State.audioPackets_spares (p : Production) (t : AStream) (i k : Nat) (s : State) :
    State.Spares [.audio] s (State.audioPackets p t i k s) := by
  induction k generalizing s with
  | zero => exact .of_calm rfl
  | succ k ih =>
    unfold State.audioPackets
    extract_lets fs
    split
    · exact .of_calm rfl
    · split
      · exact .of_calm rfl
      · refine State.Spares.trans (State.Spares.trans (.of_calm ?_) (State.Spares.audio _ _)) (ih _)
        exact State.newTask_calm _ _

theorem State.audioTasks_spares (s : State) (p : Production) : State.Spares [.audio] s (s.audioTasks p) := by
  refine State.Spares.foldl _ (fun t x => ?_) _ s
  split
  · exact State.audioPackets_spares p x _ 64 t
  · exact .of_calm rfl

theorem State.detectPair_spares (s : State) (p : Production) (pair n : Nat) :
    State.Spares [.audio] s (s.detectPair p pair n) := by
  unfold State.detectPair
  split
  · extract_lets q a s1
    have h1 : State.Spares [.audio] s s1 := State.Spares.audio s _
    split
    · split
      · exact h1
      · exact (h1.trans (State.Spares.audio s1 _)).raise _
    split
    · exact State.Spares.audio s _
    · exact .of_calm rfl
  · exact .of_calm rfl

theorem State.closeLink_spares (s : State) (p : Production) (rate c n : Nat) :
    State.Spares [.audio] s (s.closeLink p rate c n) := by
  unfold State.closeLink
  extract_lets shut mark a s1
  have h1 : State.Spares [.audio] s s1 := by
    unfold s1
    split
    · exact .of_calm rfl
    · exact (State.Spares.audio s _).trans (State.linkLate_spares _ _ _ _)
  split
  · exact h1
  · exact (h1.trans (State.Spares.audio s1 _)).trans (State.detectPair_spares _ _ _ _)

theorem State.linkSample_spares (s : State) (p : Production) (rate c n : Nat) (x : Int) :
    State.Spares [.audio] s (s.linkSample p rate c n x) := by
  unfold State.linkSample
  extract_lets s1
  have h1 : State.Spares [.audio] s s1 := s.closeLink_spares p rate c n
  split
  · exact h1.trans (s1.linkLate_spares _ _ _)
  · exact (h1.trans (State.Spares.audio s1 _)).trans (State.detectPair_spares _ _ _ _)

theorem State.audioComes_spares (s : State) (link : Fin 12) (m : AudioMsg) (broken : Bool) :
    State.Spares [.audio] s (s.audioComes link m broken) := by
  unfold State.audioComes
  extract_lets discard
  have hdiscard : State.Spares [.audio] s discard := s.linkLate_spares _ _ _
  split
  · exact .of_calm rfl
  split
  · exact hdiscard
  split
  · exact hdiscard
  · refine (State.Spares.foldl _ (fun t f => ?_) _ s).trans (State.audioTasks_spares _ _)
    exact State.Spares.foldl _ (fun u i => u.linkSample_spares _ _ _ _ _) _ t

end Sys2Proof.Machine
end

section
/-! PROOFS. What the commands that own a kind of state by steps of their own spare: the swap, lines, audio, the green room, OTP. -/

namespace Sys2Proof.Machine

open Sys2Proof Sys2Proof.Safety

theorem State.Spares.cues (s : State) (x : Vector CuePin 16) : State.Spares [.cues] s { s with cues := x } := by
  simp [State.Spares, without, outside, State.calm, -calm_eta]

theorem State.Spares.green (s : State) (x : GreenRoom) : State.Spares [.green] s { s with green := x } := by
  simp [State.Spares, without, outside, State.calm, -calm_eta]

theorem State.Spares.pairs (s : State) (x : Cells PairState) : State.Spares [.pairs] s { s with pairs := x } := by
  simp [State.Spares, without, outside, State.calm, -calm_eta]

theorem State.Spares.curtain (s : State) (x : Curtain) : State.Spares [.curtain] s { s with curtain := x } := by
  simp [State.Spares, without, outside, State.calm, -calm_eta]

theorem runLong_spares {ps : List Part} (c : Spec) (h : Hdr) (body : State → State × Option Reply) (s : State)
    (hb : ∀ t : State, State.Spares ps t (body t).1) : State.Spares ps s (runLong c h body s) := by
  have hbody : State.Spares ps s (body (s.takeCmd h)).1 := (State.Spares.of_calm (s.takeCmd_calm h)).trans (hb _)
  unfold runLong
  dsimp only
  split
  · exact .of_calm rfl
  split
  · exact .of_calm (by simp)
  split
  · exact .of_calm (by split <;> simp)
  split
  · exact hbody.trans (.of_calm (by simp))
  · exact hbody.trans (.of_calm (by simp))

/-- A message handled as at its delivery spares what its handler spares, and house time (R326). -/
theorem State.atDelivery_spares {ps : List Part} (s : State) (link : Fin 12) (vc : Fin 8) (f : State → State)
    (hf : ∀ t : State, State.Spares ps t (f t)) : State.Spares ps s (s.atDelivery link vc f) := by
  have h := hf { s with time := { s.time with tick := (s.headMsg link vc).at_ } }
  simp only [State.Spares, without, State.calm, Prod.mk.injEq] at h ⊢
  obtain ⟨-, h⟩ := h
  exact ⟨rfl, h⟩

theorem State.setRing_spares (s : State) (p : Production) (source : Nat) (r : Machine.Ring) :
    State.Spares [.rings] s (s.setRing p source r) := by
  unfold State.setRing
  split <;> simp [State.Spares, without, outside, State.calm, -calm_eta]

theorem State.moveCurtain_spares (s : State) (k : Curtain) (cause : Nat) :
    State.Spares [.curtain] s (s.moveCurtain k cause) := by
  unfold State.moveCurtain
  split
  · exact State.Spares.curtain s k
  · exact (State.Spares.curtain s _).raise _

theorem State.takeLine_spares (s : State) (p : Production) (q : Source) (n : Nat) (m : LineMsg) :
    State.Spares [.rings] s (s.takeLine p q n m) := by
  have hring : ∀ t : State, State.Spares [.rings] t (t.ringLine p q n m) := fun t => by
    unfold State.ringLine
    exact (t.setRing_spares p m.source _).raiseAll _
  unfold State.takeLine
  extract_lets cs bytes shared ring after stores room s1 s2
  have h1 : State.Spares [.rings] s s1 := .of_calm (foldl_calm _ (fun t c => State.ctxLine_calm t p c n m room) _ s)
  have h2 : State.Spares [.rings] s s2 := by
    unfold s2
    split
    · exact h1.trans (hring s1)
    · exact h1
  split
  · exact h2
  split
  · exact h2.trans (.of_calm rfl)
  · exact h2.trans (.of_calm (by simp))

theorem State.lineComes_spares (s : State) (link : Fin 12) (m : LineMsg) (short : Bool) :
    State.Spares [.rings] s (s.lineComes link m short) := by
  unfold State.lineComes
  split
  · exact .of_calm (by simp)
  split
  · exact .of_calm (by simp)
  split
  · split
    · exact s.takeLine_spares _ _ _ m
    · exact .of_calm rfl
  · exact .of_calm rfl

theorem State.commitPair_spares (s : State) (pair : Nat) : State.Spares [.pairs] s ((s.commitPair pair).getD s) := by
  unfold State.commitPair
  dsimp only
  split
  · exact State.Spares.pairs s _
  · exact .of_calm rfl

theorem State.setCue_spares (s : State) (p : Production) (point : Nat) (deferred : Bool) :
    State.Spares [.green] s (s.setCue p point deferred) := by
  unfold State.setCue
  refine State.Spares.raiseAll ?_ _
  exact (State.Spares.of_calm (s.cueDdr_calm p)).trans ((State.Spares.green _ _).trans (.of_calm (State.greenTo_calm _ _)))

theorem State.cancelCue_spares (s : State) (reason : Nat) : State.Spares [.green] s (s.cancelCue reason) :=
  (State.Spares.green s _).trans (.of_calm (s.cancelCue_calm reason))

theorem State.greenTo_spares (s : State) (g : GreenRoom) : State.Spares [.green] s (s.greenTo g) :=
  (State.Spares.green s g).trans (.of_calm (s.greenTo_calm g))

theorem State.admitted_spares (s : State) : State.Spares [.green] s s.admitted := s.greenTo_spares _

theorem State.runPending_spares (s : State) : State.Spares [.green] s s.runPending := by
  unfold State.runPending
  split
  · exact .of_calm rfl
  split
  · exact ((State.Spares.green s _).trans (.of_calm (State.noteRefusal_calm _ _ _))).trans (State.cancelCue_spares _ _)
  extract_lets s1 p
  have h1 : State.Spares [.green] s s1 := s.admitted_spares
  split
  · exact h1.trans (s1.cancelCue_spares _)
  split
  · exact h1.trans (s1.cancelCue_spares _)
  · exact h1.trans (s1.setCue_spares p _ _)

theorem State.loadChunk_spares (s : State) (offset : Nat) (chunk : List Byte) :
    State.Spares [.green] s (s.loadChunk offset chunk).1 := by
  unfold State.loadChunk
  extract_lets g staging size done st s1 s2
  have h1 : State.Spares [.green] s s1 := s.greenTo_spares _
  dsimp only [s2]
  split
  · exact (h1.trans (.of_calm (s1.writeHalves_calm staging))).trans (State.runPending_spares _)
  · exact h1

theorem State.signedMove_spares (s : State) (opcode : Nat) (down : Bool) (sequence : Nat) (print signature : List Byte) :
    State.Spares [.curtain] s (s.signedMove opcode down sequence print signature).1 := by
  unfold State.signedMove
  repeat' split
  case h_2.isFalse.isFalse.isFalse => exact s.moveCurtain_spares _ 1
  all_goals exact .of_calm (by simp)

theorem State.changeRoute_spares (s : State) (route : Nat) (g : Option Nat) (m : Option Bool) :
    State.Spares [.audio] s (s.changeRoute route g m).1 := by
  unfold State.changeRoute
  split
  · exact .of_calm rfl
  · exact State.Spares.audio s _


/-- The kinds of state that a swap changes. -/
abbrev swapped : List Part := [.cues, .green, .running, .before, .rings, .pairs, .audio]

theorem State.Spares.swapped {s t : State} (htime : t.time = s.time) (hsec : t.sec = s.sec) (hcu : t.cu = s.cu)
    (htap : t.tap = s.tap) (hmon : t.mon = s.mon) (hcurtain : t.curtain = s.curtain) (hcands : t.cands = s.cands)
    (hdpll : t.dpll = s.dpll) : State.Spares swapped s t := by
  simp [State.Spares, without, outside, State.calm, -calm_eta, htime, hsec, hcu, htap, hmon, hcurtain, hcands, hdpll]

theorem State.greenTo_spares_swapped (s : State) (g : GreenRoom) : State.Spares swapped s (s.greenTo g) := by
  rw [State.Spares, State.greenTo_calm]
  simp [without, outside, State.calm, -calm_eta]

theorem State.swapAudio_spares (s : State) (p : Production) : State.Spares swapped s (State.swapAudio p s) :=
  .swapped rfl rfl rfl rfl rfl rfl rfl rfl

theorem State.swapTo_spares (s : State) (p : Production) (cue : Nat) : State.Spares swapped s (s.swapTo p cue) := by
  unfold State.swapTo
  extract_lets base warm s1 s2 s3 s4 samePairs sameSource d s5 s6 w s7
  have h3 : s3.calm = s.calm := by simp [s3, s2, s1]
  clear_value s1 s2 s3
  have h4 : State.Spares swapped s s4 :=
    ((State.Spares.of_calm ((State.swapFlow_calm p cue s3).trans h3)).trans (State.swapAudio_spares _ p)).trans
      (.of_calm (foldl_calm _ (fun t i => State.swapLink_calm p t i) _ _))
  clear_value s4 samePairs sameSource base
  have h5 : State.Spares swapped s s5 := h4.trans (.swapped rfl rfl rfl rfl rfl rfl rfl rfl)
  clear_value s5
  have h6 : State.Spares swapped s s6 := by
    unfold s6
    split
    · have hbefore : State.Spares swapped s { s5 with before := s.before } := h5.trans (.swapped rfl rfl rfl rfl rfl rfl rfl rfl)
      exact hbefore.trans (.of_calm (State.loadRecords_calm p _))
    · exact h5
  clear_value s6
  have h7 : State.Spares swapped s s7 := h6.trans (.swapped rfl rfl rfl rfl rfl rfl rfl rfl)
  exact h7.trans (.of_calm (by simp))

theorem State.after_swap_spares (s : State) : State.Spares swapped s (s.after .swap) := by
  refine .of_exec rfl ?_
  split
  · exact .of_calm rfl
  case h_2 p _ =>
    dsimp only
    split
    · exact .of_calm rfl
    · refine State.Spares.raise ((s.swapTo_spares p s.green.cuePoint).trans ?_) _
      exact State.greenTo_spares_swapped _ _

/-! ### Commands whose proofs follow their own steps -/

theorem State.after_line_spares (s : State) (link : Fin 12) (m : LineMsg) :
    State.Spares [.rings] s (s.after (.line link m)) := by
  refine .of_exec rfl ?_
  dsimp only
  split
  · exact (s.atDelivery_spares link 2 _ fun t => t.lineComes_spares link m _).trans (.of_calm (State.popInbox_calm _ _ _))
  · exact .of_calm rfl

theorem State.after_audio_spares (s : State) (link : Fin 12) (m : AudioMsg) :
    State.Spares [.audio] s (s.after (.audio link m)) := by
  refine .of_exec rfl ?_
  dsimp only
  split
  · exact (s.atDelivery_spares link 3 _ fun t => t.audioComes_spares link m _).trans (.of_calm (State.popInbox_calm _ _ _))
  · exact .of_calm rfl

theorem State.after_audioFrame_spares (s : State) (group : Fin 4) (inputs : List PortIn) :
    State.Spares [.audio] s (s.after (.audioFrame group inputs)) := by
  refine .of_exec rfl ?_
  dsimp only
  repeat' split
  · exact .of_calm rfl
  · exact .of_calm rfl
  · exact State.Spares.audio s _
  · exact (State.Spares.audio s _).trans (State.audioTasks_spares _ _)
  · exact ((State.Spares.audio s _).trans (State.audioTasks_spares _ _)).trans
      (State.Spares.foldl _ (fun t i => t.portFrame_spares _ _ _ _ i) _ _)

theorem State.after_linkSampleWindowClose_spares (s : State) (channel index : Nat) :
    State.Spares [.audio] s (s.after (.linkSampleWindowClose channel index)) := by
  refine .of_exec rfl ?_
  dsimp only
  repeat' split
  · exact .of_calm rfl
  · exact .of_calm rfl
  · exact (s.closeLink_spares _ _ _ _).trans (State.audioTasks_spares _ _)

theorem State.landed_spares (s : State) (serves : ReadFor) (poison : Bool) :
    State.Spares [.audio] s (s.landed serves poison) := by
  obtain ⟨a, h⟩ := s.landed_calm serves poison
  exact (State.Spares.audio s a).trans (.of_calm h)

theorem State.after_ddrReadReturn_spares (s : State) (sub : Fin 12) (id : Nat) (err : CodeErr) :
    State.Spares [.audio] s (s.after (.ddrReadReturn sub id err)) := by
  refine .of_exec rfl ?_
  dsimp only
  repeat' split
  · exact .of_calm rfl
  · exact .of_calm rfl
  · exact .of_calm (by simp)
  · exact (State.Spares.of_calm (by simp)).trans (State.landed_spares _ _ _)

theorem State.after_ppsEdge_spares (s : State) (ps : Nat) : State.Spares [.time, .refs] s (s.after (.ppsEdge ps)) := by
  have htime : ∀ (t : State) (x : HouseTime), State.Spares [.time, .refs] t { t with time := x } := fun t x => by
    simp [State.Spares, without, outside, State.calm, -calm_eta]
  have hset : ∀ (t : State) (ns cause : Nat), State.Spares [.time, .refs] t (t.setTime ns cause) := fun t ns cause =>
    (htime t _).trans (.of_calm (t.setTime_calm ns cause))
  have herror : ∀ (t : State) (capture : Int) (sec : Nat), State.Spares [.time, .refs] t (t.edgeError capture sec) :=
    fun t capture sec => by
      rw [State.Spares, State.edgeError_calm]
      simp [without, outside, State.calm, -calm_eta]
  refine .of_exec rfl ?_
  have hraised : ∀ (x : HouseTime) (es : List Ev), State.Spares [.time, .refs] s (({ s with time := x } : State).raiseAll es) :=
    fun x es => (htime s x).raiseAll es
  have hsets : ∀ (u : State) (v : Option (Nat × Nat)), State.Spares [.time, .refs] s u →
      State.Spares [.time, .refs] s (match v with | some v => u.setTime v.1 v.2 | none => u) := fun u v hu => by
    cases v with
    | none => exact hu
    | some v => exact hu.trans (hset u v.1 v.2)
  split
  · exact hsets _ _ (hraised _ _)
  · exact (hsets _ _ (hraised _ _)).trans (herror _ _ _)

theorem State.after_demotion_spares (s : State) : State.Spares [.cues] s (s.after .demotion) := by
  refine .of_exec rfl ?_
  dsimp only
  repeat' split
  · exact .of_calm rfl
  · exact .of_calm (by simp)
  · have hcues := (State.Spares.of_calm (s.castTo_calm false)).trans
      (State.Spares.cues (s.castTo false) ((s.castTo false).cues.map CuePin.undriven))
    exact hcues.trans (.of_calm (by simp))

theorem State.after_graphicCommitPacket_spares (s : State) (link : Fin 12) (pair : Nat) :
    State.Spares [.pairs] s (s.after (.graphicCommitPacket link pair)) := by
  refine .of_exec rfl ?_
  dsimp only
  split
  · exact .of_calm rfl
  · exact (State.Spares.of_calm (s.popInbox_calm link 5)).trans (State.commitPair_spares _ pair)

theorem State.after_graphicCommit_spares (s : State) (h : Hdr) (pair : Nat) :
    State.Spares [.pairs] s (s.after (.graphicCommit h pair)) := by
  refine .of_exec rfl (runCmd_spares _ _ _ s _ fun t => ?_)
  have hcommit := t.commitPair_spares pair
  split
  case h_1 u hu => simpa [hu] using hcommit
  case h_2 => exact .of_calm rfl

theorem State.after_productionCue_spares (s : State) (h : Hdr) (request : Nat) :
    State.Spares [.green] s (s.after (.productionCue h request)) := by
  have hcmd : ∀ go : State → State × Reply, (∀ t : State, State.Spares [.green] t (go t).1) →
      State.Spares [.green] s (if (runCmd Cmd.productionCue h go s).green.state = 2
        then (runCmd Cmd.productionCue h go s).runPending else runCmd Cmd.productionCue h go s) := fun go hgo => by
    have k := runCmd_spares Cmd.productionCue h go s false hgo
    split
    · exact k.trans (State.runPending_spares _)
    · exact k
  refine .of_exec rfl (hcmd _ ?_)
  intro t
  dsimp only
  repeat' split
  · exact .of_calm rfl
  · exact .of_calm rfl
  · exact .of_calm rfl
  · exact .of_calm rfl
  · exact t.setCue_spares _ _ _
  · exact .of_calm rfl
  · exact State.Spares.green t _
  · exact State.Spares.green t _

theorem State.after_curtainInstall_spares (s : State) (h : Hdr) :
    State.Spares [.curtain] s (s.after (.curtainInstall h)) := by
  refine .of_exec rfl (runLong_spares _ _ _ s fun t => ?_)
  dsimp only
  split
  · exact .of_calm (by split <;> simp)
  · exact State.Spares.curtain t _

theorem State.after_fuseProgram_spares (s : State) (h : Hdr) (off len : Nat) :
    State.Spares [.sec, .mon] s (s.after (.fuseProgram h off len)) := by
  refine .of_exec rfl (runCmd_spares _ _ _ s _ fun t => ?_)
  dsimp only
  split
  · refine State.Spares.raise ?_ _
    unfold State.fuseRefused
    repeat' split
    · refine State.Spares.raise ?_ _
      simp [State.Spares, without, outside, State.calm, -calm_eta]
    · exact .of_calm (by simp)
    · exact .of_calm rfl
  · refine State.Spares.raise ?_ _
    simp [State.Spares, without, outside, State.calm, -calm_eta]

end Sys2Proof.Machine
end

section
/-! PROOFS. Each kind of state and its commands: no command changes a kind of state that it does not own. -/

namespace Sys2Proof.Machine

open Sys2Proof Sys2Proof.Safety

/-! ### Each kind of state and its commands -/

/-- The commands that change several kinds of state. -/
def shared : Instr → Bool
  | .swap | .ppsEdge _ | .fuseProgram _ _ _ => true
  | _ => false

/-- A command that owns no kind of state keeps the calm part. -/
theorem State.after_calm (s : State) {c : Instr} (h : quiet c = true) : (s.after c).calm = s.calm := by
  cases hf : family c with
  | boot => exact s.after_calm_boot hf h
  | picture => exact s.after_calm_picture hf h
  | unit => exact s.after_calm_unit hf h
  | sequencer => exact s.after_calm_sequencer hf h
  | flow => exact s.after_calm_flow hf h
  | flit => exact s.after_calm_flit hf h
  | link => exact s.after_calm_link hf h
  | audio => exact s.after_calm_audio hf h
  | dram => exact s.after_calm_dram hf h
  | clock => exact s.after_calm_clock hf h
  | pin => exact s.after_calm_pin hf h
  | twin => exact s.after_calm_twin hf h
  | host => exact s.after_calm_host hf h
  | mailbox => exact s.after_calm_mailbox hf h

theorem State.after_spares_rings (s : State) {c : Instr} (hc : Part.rings.owner c = true) (hs : shared c = false) :
    State.Spares [.rings] s (s.after c) := by
  cases c with
  | swap => cases hs
  | line => exact s.after_line_spares ..
  | _ => cases hc

theorem State.after_spares_pairs (s : State) {c : Instr} (hc : Part.pairs.owner c = true) (hs : shared c = false) :
    State.Spares [.pairs] s (s.after c) := by
  cases c with
  | swap => cases hs
  | graphicCommitPacket => exact s.after_graphicCommitPacket_spares ..
  | graphicCommit => exact s.after_graphicCommit_spares ..
  | graphicWrite | graphicReleased =>
    refine .of_exec rfl ?_
    try dsimp only
    repeat' split
    all_goals try simp [State.Spares]
    all_goals simp [without, outside, State.calm, -calm_eta]
  | _ => cases hc

theorem State.after_spares_curtain (s : State) {c : Instr} (hc : Part.curtain.owner c = true) (hs : shared c = false) :
    State.Spares [.curtain] s (s.after c) := by
  cases c with
  | curtainInstall => exact s.after_curtainInstall_spares ..
  | curtainNEdge | curtainCopy =>
    refine .of_exec rfl ?_
    try dsimp only
    repeat' split
    all_goals try simp [State.Spares]
    all_goals simp [without, outside, State.calm, -calm_eta]
  | curtainStage =>
    refine .of_exec rfl (runCmd_spares _ _ _ s _ fun t => ?_)
    try dsimp only [withUnit]
    repeat' split
    all_goals try simp [State.Spares]
    all_goals simp [without, outside, State.calm, -calm_eta]
  | curtainDrop =>
    refine .of_exec rfl (runCmd_spares _ _ _ s _ fun t => ?_)
    exact t.signedMove_spares ..
  | curtainRaise =>
    refine .of_exec rfl (runCmd_spares _ _ _ s _ fun t => ?_)
    exact t.signedMove_spares ..
  | _ => cases hc

theorem State.after_spares_green (s : State) {c : Instr} (hc : Part.green.owner c = true) (hs : shared c = false) :
    State.Spares [.green] s (s.after c) := by
  cases c with
  | swap => cases hs
  | productionCue => exact s.after_productionCue_spares ..
  | swapping | slotStart =>
    refine .of_exec rfl ?_
    try dsimp only
    repeat' split
    all_goals try simp [State.Spares]
    all_goals simp [without, outside, State.calm, -calm_eta]
  | productionAbort =>
    refine .of_exec rfl (runCmd_spares _ _ _ s _ fun t => ?_)
    try dsimp only [withUnit]
    repeat' split
    all_goals try simp [State.Spares]
    all_goals simp [without, outside, State.calm, -calm_eta]
  | productionLoad =>
    refine .of_exec rfl (runCmd_spares _ _ _ s _ fun t => ?_)
    extract_lets g got
    split
    · exact .of_calm rfl
    split
    · exact .of_calm rfl
    split
    · exact .of_calm rfl
    split
    · exact .of_calm rfl
    extract_lets size
    split
    · exact .of_calm rfl
    split
    · exact .of_calm rfl
    split
    · exact .of_calm rfl
    · exact t.loadChunk_spares _ _
  | productionCheck =>
    refine .of_exec rfl (runCmd_spares _ _ _ s _ fun t => ?_)
    dsimp only
    repeat' split
    · exact .of_calm rfl
    · exact (t.greenTo_spares _).trans (.of_calm (State.noteRefusal_calm _ _ _))
    · exact t.admitted_spares
  | _ => cases hc

theorem State.after_spares_cues (s : State) {c : Instr} (hc : Part.cues.owner c = true) (hs : shared c = false) :
    State.Spares [.cues] s (s.after c) := by
  cases c with
  | swap => cases hs
  | demotion => exact s.after_demotion_spares ..
  | cueEdge | cueStuck | cueReleased | cueOutputEdge =>
    refine .of_exec rfl ?_
    try dsimp only
    repeat' split
    all_goals try simp [State.Spares]
    all_goals simp [without, outside, State.calm, -calm_eta]
  | cueConfig | cueOutput | cueStatus =>
    refine .of_exec rfl (runCmd_spares _ _ _ s _ fun t => ?_)
    try dsimp only [withUnit]
    repeat' split
    all_goals try simp [State.Spares]
    all_goals simp [without, outside, State.calm, -calm_eta]
  | _ => cases hc

theorem State.after_spares_audio (s : State) {c : Instr} (hc : Part.audio.owner c = true) (hs : shared c = false) :
    State.Spares [.audio] s (s.after c) := by
  cases c with
  | swap => cases hs
  | audio => exact s.after_audio_spares ..
  | audioFrame => exact s.after_audioFrame_spares ..
  | linkSampleWindowClose => exact s.after_linkSampleWindowClose_spares ..
  | ddrReadReturn => exact s.after_ddrReadReturn_spares ..
  | audioPcmResumed | audioChangeApply | audioChangeTimeout | audioRestarted | audioClockStop =>
    refine .of_exec rfl ?_
    try dsimp only
    repeat' split
    all_goals try simp [State.Spares]
    all_goals simp [without, outside, State.calm, -calm_eta]
  | audioGainSet =>
    refine .of_exec rfl (runCmd_spares _ _ _ s _ fun t => ?_)
    exact t.changeRoute_spares ..
  | audioMuteSet =>
    refine .of_exec rfl (runCmd_spares _ _ _ s _ fun t => ?_)
    exact t.changeRoute_spares ..
  | audioPortRestart =>
    refine .of_exec rfl (runCmd_spares _ _ _ s _ fun t => ?_)
    split
    · exact .of_calm rfl
    · exact t.restartPort_spares ..
  | _ => cases hc

theorem State.after_spares_time (s : State) {c : Instr} (hc : Part.time.owner c = true) (hs : shared c = false) :
    State.Spares [.time] s (s.after c) := by
  cases c with
  | ppsEdge => cases hs
  | timeOfDay | ppsLost =>
    refine .of_exec rfl ?_
    try dsimp only
    repeat' split
    all_goals try simp [State.Spares]
    all_goals simp [without, outside, State.calm, -calm_eta]
  | houseTimeStatus | houseTimeSet | houseTimeAlarmSet =>
    refine .of_exec rfl (runCmd_spares _ _ _ s _ fun t => ?_)
    try dsimp only [withUnit]
    repeat' split
    all_goals try simp [State.Spares]
    all_goals simp [without, outside, State.calm, -calm_eta]
  | _ => cases hc

theorem State.after_spares_refs (s : State) {c : Instr} (hc : Part.refs.owner c = true) (hs : shared c = false) :
    State.Spares [.refs] s (s.after c) := by
  cases c with
  | ppsEdge => cases hs
  | rootUnlock | activityLoss | gateEnd | waitToRestore | switchEnd | lockAcquired | historySample | refPins | rootLock
  | candidateActivityReturn =>
    refine .of_exec rfl ?_
    try dsimp only
    repeat' split
    all_goals try simp [State.Spares]
    all_goals simp [without, outside, State.calm, -calm_eta]
  | clockStatus | candidateStatus | candidateSet | dpllSet | dpllSoftware | dpllNudge | dpllClose | clockHistoryClear =>
    refine .of_exec rfl (runCmd_spares _ _ _ s _ fun t => ?_)
    try dsimp only [withUnit]
    repeat' split
    all_goals try simp [State.Spares]
    all_goals simp [without, outside, State.calm, -calm_eta]
  | phaseComparison =>
    obtain e | ⟨k, e⟩ := s.phaseComparison_cases _ _ _ <;> rw [e]
    · exact .of_calm rfl
    · simp only [State.Spares, State.putCk_calm]
      simp [without, outside, State.calm, -calm_eta]
  | _ => cases hc

theorem State.after_spares_mon (s : State) {c : Instr} (hc : Part.mon.owner c = true) (hs : shared c = false) :
    State.Spares [.mon] s (s.after c) := by
  cases c with
  | fuseProgram => cases hs
  | thermalSample | supplySample =>
    refine .of_exec rfl ?_
    try dsimp only
    repeat' split
    all_goals try simp [State.Spares]
    all_goals simp [without, outside, State.calm, -calm_eta]
  | _ => cases hc

theorem State.after_spares_tap (s : State) {c : Instr} (hc : Part.tap.owner c = true) (hs : shared c = false) :
    State.Spares [.tap] s (s.after c) := by
  cases c with
  | testLogicReset | idcode | extest | highz | clamp | extestPulse | extestTrain | bypass =>
    refine .of_exec rfl ?_
    try dsimp only
    all_goals try simp [State.Spares]
    all_goals simp [without, outside, State.calm, -calm_eta]
  | samplePreload =>
    refine .of_exec rfl ?_
    have hselect : State.Spares [.tap] s (s.tapSelect .samplePreload) := by
      simp only [State.Spares, State.tapSelect_calm]
      simp [without, outside, State.calm, -calm_eta]
    exact hselect.trans (by simp [State.Spares, without, outside, State.calm, -calm_eta])
  | _ => cases hc

theorem State.after_spares_sec (s : State) {c : Instr} (hc : Part.sec.owner c = true) (hs : shared c = false) :
    State.Spares [.sec] s (s.after c) := by
  cases c with
  | fuseProgram => cases hs
  | ownerKeyLoad | debugToken =>
    refine .of_exec rfl (runCmd_spares _ _ _ s _ fun t => ?_)
    try dsimp only [withUnit]
    repeat' split
    all_goals try simp [State.Spares]
    all_goals simp [without, outside, State.calm, -calm_eta]
  | _ => cases hc

theorem State.after_spares_cu (s : State) {c : Instr} (hc : Part.cu.owner c = true) (hs : shared c = false) :
    State.Spares [.cu] s (s.after c) := by
  cases c with
  | cuConfig | cuFeed | cuRead | cuWrite =>
    refine .of_exec rfl (runCmd_spares _ _ _ s _ fun t => ?_)
    try dsimp only [withUnit]
    repeat' split
    all_goals try simp [State.Spares]
    all_goals simp [without, outside, State.calm, -calm_eta]
  | _ => cases hc

/-- A command that changes one kind of state spares the others. -/
theorem State.after_spares (s : State) {c : Instr} {q : Part} (hq : q.owner c = true) (hs : shared c = false) :
    State.Spares [q] s (s.after c) := by
  cases q with
  | time => exact s.after_spares_time hq hs
  | cues => exact s.after_spares_cues hq hs
  | sec => exact s.after_spares_sec hq hs
  | cu => exact s.after_spares_cu hq hs
  | tap => exact s.after_spares_tap hq hs
  | mon => exact s.after_spares_mon hq hs
  | green => exact s.after_spares_green hq hs
  | running =>
    cases c with
    | swap => cases hs
    | _ => cases hq
  | before =>
    cases c with
    | swap => cases hs
    | _ => cases hq
  | rings => exact s.after_spares_rings hq hs
  | pairs => exact s.after_spares_pairs hq hs
  | curtain => exact s.after_spares_curtain hq hs
  | audio => exact s.after_spares_audio hq hs
  | refs => exact s.after_spares_refs hq hs

/-- The commands that change several kinds of state spare the others. -/
theorem State.after_kept_of_shared (s : State) {p : Part} {c : Instr} (hp : p.owner c = false) (hs : shared c = true) :
    p.kept s (s.after c) := by
  cases c with
  | swap => exact s.after_swap_spares.kept (by revert hp; cases p <;> simp [Part.owner])
  | ppsEdge => exact (s.after_ppsEdge_spares _).kept (by revert hp; cases p <;> simp [Part.owner])
  | fuseProgram => exact (s.after_fuseProgram_spares _ _ _).kept (by revert hp; cases p <;> simp [Part.owner])
  | _ => cases hs

theorem Part.mem_allParts (p : Part) : p ∈ allParts := by
  cases p <;> decide

/-- Settles O60: a command that owns nothing keeps the calm part, one that owns one kind of state spares the others, and so do
the three that own several. -/
theorem eachKindHasItsCommands : Obligations.EachKindHasItsCommands := by
  intro p c s t hexec hreset hp
  obtain rfl := State.after_of_next hexec
  by_cases hs : shared c = true
  · exact s.after_kept_of_shared hp hs
  · by_cases hq : ∃ q : Part, q.owner c = true
    · obtain ⟨q, hq⟩ := hq
      have hne : p ≠ q := by
        rintro rfl
        rw [hq] at hp
        cases hp
      exact (s.after_spares hq (by simpa using hs)).kept (by simpa using hne)
    · have hquiet : quiet c = true := by
        simp only [quiet, hreset, Bool.not_false, Bool.true_and, List.all_eq_true, Bool.not_eq_true']
        exact fun q _ => by simpa using not_exists.mp hq q
      exact (State.Spares.of_calm (ps := []) (s.after_calm hquiet)).kept rfl

end Sys2Proof.Machine
end

section
/-! PROOFS. Resets and the boot (R22, R447 to R460): what each happening does where its condition holds. -/

namespace Sys2Proof.Machine

open Sys2Proof Sys2Proof.Safety

theorem exec_coldReset_resetN {s : State} {low : Nat} (hheld : s.powerHeld = false) :
    exec (.coldReset (.resetN low)) s = .next (if 10000 ≤ low then s.coldHeld 1
      else if Config.shortResetTakes s.free then s.fresh.coldHeld 1 else s.fresh) := by
  change execColdReset (.resetN low) s = _
  simp only [execColdReset, hheld, Bool.false_eq_true, if_false]

/-- Settles O4: each happening's condition holds, and a short pulse takes one of its two ways. -/
theorem resetsComplete : Obligations.ResetsComplete := by
  unfold Obligations.ResetsComplete
  intro s
  refine ⟨rfl, fun low hheld hlow => ?_, fun low hheld hlow => ?_, fun mV hheld hmV => ?_, rfl, fun hfw => ?_, fun hfw => ?_,
    fun hphase hstate => ?_⟩
  · rw [exec_coldReset_resetN hheld, if_pos hlow]
  · refine ⟨_, exec_coldReset_resetN hheld, ?_⟩
    rw [if_neg (by omega)]
    split
    · exact .inr rfl
    · exact .inl rfl
  · change execColdReset (.supply mV) s = _
    simp only [execColdReset, hheld, Bool.false_eq_true, if_false, if_pos hmV]
  · change execWatchdogExpiry s = _
    rw [execWatchdogExpiry, if_pos hfw]
  · change execLockstepMismatch s = _
    rw [execLockstepMismatch, if_pos hfw]
  · change execFirmwareInitTimeout s = _
    rw [execFirmwareInitTimeout, if_pos ⟨hphase, hstate⟩, State.bootError]

/-- After the saves nothing waits: the entry ends with DDR5 in self-refresh and its transmitters idle. -/
theorem exec_warmEntrySave_done {s : State} (hphase : s.boot.phase = .warmEntry) (hdone : s.entryDone = true)
    (hsaved : s.entryWrites.ddr.waiting = []) :
    ∃ t, exec .warmEntrySave s = .next t ∧ t.boot.phase = .warmSaved ∧ t.ddr.state = 2
      ∧ ∀ l : Fin 12, (vget t.links l).state = 0 ∧ (vget t.links l).ckLock = false := by
  have hentry : ¬ (s.boot.phase ≠ .warmEntry ∨ s.entryDone = false) := by simp [hphase, hdone]
  have hmoved : ¬ (s.entryWrites.moveCurtain s.curtain.cleared 1).ddr.waiting ≠ [] := by
    have hddr : (s.entryWrites.moveCurtain s.curtain.cleared 1).ddr = s.entryWrites.ddr := by
      unfold State.moveCurtain
      split <;> simp
    rw [hddr, hsaved]
    simp
  change ∃ t, execWarmEntrySave s = .next t ∧ _
  unfold execWarmEntrySave
  rw [if_neg hentry]
  dsimp only
  rw [if_neg hmoved]
  exact ⟨_, rfl, rfl, rfl, fun l => by simp [vget]⟩

theorem State.selftest_passes {s : State} {b : BootInputs} (h : b.sramFails = []) : (s.selftest b).2 = false := by
  simp [State.selftest, h]

/-- The boot ROM with BOOTSEL at host load waits for a host (R455, R457). -/
theorem State.rom_waitHost {s : State} {b : BootInputs} (hsel : b.bootsel % 8 = 2) (hsram : b.sramFails = [])
    (hotp : b.otpBad = false) : (s.rom b).boot.phase = .waitHost ∧ (s.rom b).boot.state = 4 := by
  have hboot : (s.selftest b).1.boot.bootsel = 2 := hsel
  unfold State.rom
  dsimp only
  rw [State.selftest_passes hsram, hotp, hboot]
  exact ⟨rfl, rfl⟩

theorem exec_bootLoad_go_clear {s : State} {v : U32} {b : BootInputs} (hanswers : s.hostAnswers = true)
    (hgo : v.toNat / 2 ^ 25 % 2 = 0) : exec (.bootLoad v b) s = .next { s with boot := { s.boot with
      loadReg := v.toNat % 2 ^ 17 + 2 ^ 24 * (v.toNat / 2 ^ 24 % 4) } } := by
  change execBootLoad v b s = _
  unfold execBootLoad
  rw [if_neg (by simp [hanswers])]
  dsimp only
  rw [if_pos (.inl hgo)]

/-- A chunk given in WAIT_HOST is taken (R457, R458). -/
theorem exec_bootLoad_chunk {s : State} {v : U32} {b : BootInputs} (hphase : s.boot.phase = .waitHost)
    (hstate : s.boot.state = 4) (hgo : v.toNat / 2 ^ 25 % 2 = 1) (hmin : 1 ≤ v.toNat % 2 ^ 17) (hmax : v.toNat % 2 ^ 17 ≤ 65536) :
    exec (.bootLoad v b) s = .next (State.takeChunk
      { s with boot := { s.boot with
          loadReg := v.toNat % 2 ^ 17 + 2 ^ 24 * (v.toNat / 2 ^ 24 % 4), phase := .waitHost, state := 4, error := 0 } }
      b (v.toNat % 2 ^ 17) (decide (v.toNat / 2 ^ 24 % 2 = 1))) := by
  have hanswers : ¬ s.hostAnswers = false := by simp [State.hostAnswers, hphase]
  have hstarts : ¬ (v.toNat / 2 ^ 25 % 2 = 0 ∨ (s.boot.state ≠ 4 ∧ s.boot.state ≠ 15)) := by omega
  have hlen : ¬ (v.toNat % 2 ^ 17 = 0 ∨ 65536 < v.toNat % 2 ^ 17) := by omega
  have hfresh : decide (s.boot.state = 15) = false := by simp [hstate]
  change execBootLoad v b s = _
  unfold execBootLoad
  rw [if_neg hanswers]
  dsimp only
  rw [if_neg hstarts, if_neg hlen, hfresh]
  rfl

/-- Settles O5, happening by happening. -/
theorem bootCompletes : Obligations.BootCompletes := by
  unfold Obligations.BootCompletes
  intro s b
  have hrelease : s.boot.phase = .held → exec (.resetRelease b) s = .next (s.rom b) := fun hphase => by
    change execResetRelease b s = _
    rw [execResetRelease, if_neg (by simp [hphase])]
  refine ⟨exec_warmEntrySave_done, hrelease, fun hphase hsel hsram hotp => ?_, fun hphase => ?_, fun v hanswers hgo => ?_,
    fun v hphase hstate hgo hmin hmax => ?_⟩
  · exact ⟨_, hrelease hphase, State.rom_waitHost hsel hsram hotp⟩
  · change execWarmBoot b s = _
    rw [execWarmBoot, if_neg (by simp [hphase])]
  · exact exec_bootLoad_go_clear hanswers hgo
  · exact exec_bootLoad_chunk hphase hstate hgo hmin hmax

end Sys2Proof.Machine
end

section
/-! PROOFS. The host window, SPI and VC0's registers (R344, R345, R462 to R470). -/

namespace Sys2Proof.Machine

open Sys2Proof Sys2Proof.Safety

theorem bitOf_toNat (v : U32) (i : Nat) : bitOf v.toNat i = v.getLsbD i := by
  simp [bitOf, BitVec.getLsbD, Nat.testBit_eq_decide_div_mod_eq]

theorem exec_spiTransaction_write {s : State} {a : Nat} {bs : List Byte} (hanswers : s.hostAnswers = true)
    (hwords : bs.length % 4 = 0) (hsome : 0 < bs.length) (hlen : bs.length ≤ 256) (hmapped : badRange a (bs.length / 4) = false) :
    exec (.spiTransaction (.write a bs)) s = .next (State.writeWords 0 a (leWords bs) s) := by
  have hcount : (decide (bs.length % 4 ≠ 0) || decide (64 < bs.length / 4) || decide (bs.length / 4 = 0)) = false := by
    simp only [Bool.or_eq_false_iff, decide_eq_false_iff_not]
    omega
  have haddr : badRange a (ceilDiv bs.length 4) = false := by
    have : ceilDiv bs.length 4 = bs.length / 4 := by
      rw [ceilDiv, if_neg (by decide)]
      omega
    rw [this, hmapped]
  change execSpiTransaction (.write a bs) s = _
  simp only [execSpiTransaction, hanswers, hcount, haddr, Bool.true_eq_false, if_false, Bool.or_self, Bool.false_eq_true]

theorem exec_spiTransaction_read {s : State} {a n : Nat} (hanswers : s.hostAnswers = true) (ha : a % 4 = 0) (hn : n ≤ 64) :
    exec (.spiTransaction (.read a n)) s = .next { s with host := { s.host with
      spiOut := (List.range n).flatMap (fun i => leBytes 4 (s.hostWord (a + 4 * i))) } } := by
  have hword : ∀ i ∈ List.range n, leBytes 4 (if i < 64 ∧ (a + 4 * i) % 4 = 0 then s.hostWord (a + 4 * i) else 0)
      = leBytes 4 (s.hostWord (a + 4 * i)) := fun i hi => by
    have := List.mem_range.mp hi
    rw [if_pos (by omega)]
  change execSpiTransaction (.read a n) s = _
  simp only [execSpiTransaction, hanswers, Bool.true_eq_false, if_false]
  rw [List.flatMap_congr hword]

/-- Settles O6: each write's guard is that the device answers, and its own check passes. -/
theorem hostWindowCompletes : Obligations.HostWindowCompletes := by
  unfold Obligations.HostWindowCompletes
  intro s hanswers
  refine ⟨fun mb v r => ?_, fun mb v => ?_, fun mb hlong => ?_, fun mb hlong => ?_, fun v => ?_, fun a v ha => ?_,
    fun a bs => exec_spiTransaction_write hanswers, fun a n => exec_spiTransaction_read hanswers, ?_⟩
  · change execDoorbell mb v r s = _
    rw [execDoorbell, if_pos hanswers]
  · change execCplRdWrite mb v s = _
    rw [execCplRdWrite, if_pos hanswers]
  · change execMailboxReset mb s = _
    rw [execMailboxReset, if_pos hanswers, State.askReset, if_neg (by simp [hlong])]
  · change execMailboxReset mb s = _
    rw [execMailboxReset, if_pos hanswers, State.askReset, if_pos (Option.isSome_iff_ne_none.mpr hlong)]
  · change execIntStatusWrite v s = _
    rw [execIntStatusWrite, if_pos hanswers]
    simp only [HostWin.clearInt, HostWin.clears, bitOf_toNat]
  · change execHostWindowWrite a v s = _
    rw [execHostWindowWrite, if_pos ⟨hanswers, ha⟩]
  · change execSpiStatus s = _
    rw [execSpiStatus, if_pos hanswers]

/-- Settles O7: the packet is at its channel's head on a link that carries registers, and its range is good. -/
theorem registerPacketsComplete : Obligations.RegisterPacketsComplete := by
  unfold Obligations.RegisterPacketsComplete
  intro s link tag a
  refine ⟨fun n hmsg hlink hstatus => ?_, fun ws hmsg hlink hstatus => ?_, fun hup hdue => ?_⟩
  · change execRegRead link tag a n s = _
    rw [execRegRead, if_pos ⟨hmsg, hlink⟩]
    simp only [hstatus, if_true]
  · change execRegWrite link tag a ws.length ws s = _
    rw [execRegWrite, if_pos ⟨hmsg, hlink⟩]
    simp only [hstatus, ne_eq, not_true_eq_false, if_false, if_true]
  · change execJournalHeadWrite s = _
    rw [execJournalHeadWrite, if_pos ⟨hup, hdue⟩, State.writeHead]

end Sys2Proof.Machine
end

section
/-! PROOFS. Commands that execute are answered with what their bodies give; the session's commands (R467, R475, R476). -/

namespace Sys2Proof.Machine

open Sys2Proof Sys2Proof.Safety

/-- A command that executes is answered with what its body gives. -/
theorem exec_answered {i : Instr} {c : Spec} {h : Hdr} {s t : State} {pass : Bool} {r : Reply} {body : State → State × Reply}
    (hexec : exec i s = .next (runCmd c h body s pass)) (hx : Executes c h s pass) (hb : body (s.takeCmd h) = (t, r)) :
    exec i s = .next (answered c h s t r) := by
  rw [hexec, runCmd_answered hx hb]

/-- MB_CONFIG where every code is in range, the rings fit and the mailboxes to change are empty (R467). -/
theorem exec_mbConfig_answered {s : State} {h : Hdr} {codes : List Nat} (hx : Executes Cmd.mbConfig h s)
    (hcodes : ∀ d ∈ codes.drop 1, d = 0 ∨ 4 ≤ d ∧ d ≤ 8) (hsum : (askedDepths (s.takeCmd h).host.mbs codes).sum ≤ 1280)
    (hempty : ∀ n : Fin 8, n.val ≠ 0 → codes.getD n 0 ≠ 0 → (vget (s.takeCmd h).host.mbs n).empty = true) :
    ∃ u, exec (.mbConfig h codes) s =
        .next (answered Cmd.mbConfig h s u (ok ((askedDepths (s.takeCmd h).host.mbs codes).flatMap (leBytes 2))))
      ∧ u = { s.takeCmd h with
          host := { (s.takeCmd h).host with mbs := u.host.mbs }
          journal := { (s.takeCmd h).journal with recs := (s.takeCmd h).journal.recs.filter (fun r =>
            !(List.finRange 8).any (fun n => decide (n.val ≠ 0 ∧ codes.getD n 0 ≠ 0) && n.val == r.mb)) } }
      ∧ ∀ n : Fin 8, vget u.host.mbs n =
        if n.val ≠ 0 ∧ codes.getD n 0 ≠ 0 then { depth := 2 ^ codes.getD n 0 } else vget (s.takeCmd h).host.mbs n := by
  generalize ht : s.takeCmd h = t at *
  have hrange : ¬ ((codes.drop 1).any (fun d => decide (d ≠ 0 ∧ (d < 4 ∨ 8 < d))) = true
      ∨ 1280 < (askedDepths t.host.mbs codes).sum) := by
    rw [not_or]
    refine ⟨fun hany => ?_, by omega⟩
    obtain ⟨d, hd, hbad⟩ := List.any_eq_true.mp hany
    have := hcodes d hd
    simp only [decide_eq_true_eq] at hbad
    omega
  have hfree : ¬ (List.finRange 8).any (fun n : Fin 8 =>
      decide (n.val ≠ 0 ∧ codes.getD n 0 ≠ 0) && !(vget t.host.mbs n).empty) = true := by
    rw [Bool.not_eq_true, List.any_eq_false]
    intro n _ hbad
    simp only [Bool.and_eq_true, decide_eq_true_eq, Bool.not_eq_true'] at hbad
    rw [hempty n hbad.1.1 hbad.1.2] at hbad
    exact Bool.noConfusion hbad.2
  refine ⟨_, exec_answered rfl hx (by rw [ht, if_neg hrange, if_neg hfree]), rfl, fun n => ?_⟩
  simp only [vget, Vector.getElem_ofFn]
  split
  case isTrue hn =>
    have h0 : n ≠ 0 := fun e => hn.1 (by rw [e]; rfl)
    have hc := hn.2
    rw [List.getD_eq_getElem?_getD] at hc
    simp [askedDepths, h0, newDepth, hc]
  case isFalse => rfl

/-- Settles O8: each body takes its accepting branch. -/
theorem sessionCommandsExecute : Obligations.SessionCommandsExecute := by
  unfold Obligations.SessionCommandsExecute
  rintro s t h rfl
  refine ⟨fun lo hi host u hx hlo hu => ?_, fun hx => ?_, fun codes => exec_mbConfig_answered, fun data hx => ?_⟩
  · subst hu
    have hminor : ¬ ((1 : Nat) ≠ 1 ∨ min hi 2 < lo) := by omega
    exact exec_answered rfl hx (by rw [if_neg hminor]; rfl)
  · exact exec_answered rfl hx rfl
  · exact exec_answered rfl hx rfl

end Sys2Proof.Machine
end

section
/-! PROOFS. The identity commands (R1, R521, R524 to R527). -/

namespace Sys2Proof.Machine

open Sys2Proof Sys2Proof.Safety

theorem State.bulk_of_range (s : State) {off len : Nat} (hal : off % 4 = 0) (hend : off + len ≤ 0x40000) :
    (s.bulk off len).isNone = false := by
  unfold State.bulk
  split <;> simp
  omega

/-- Settles O9: the bulk range is good, and the key's hash decides. -/
theorem identityCommandsExecute : Obligations.IdentityCommandsExecute := by
  unfold Obligations.IdentityCommandsExecute
  rintro s t h rfl
  refine ⟨fun hx => exec_answered rfl hx rfl, fun off len hx hal hend => ?_, fun nonce off hx hal hend => ?_,
    fun off bs hash hx hbulk hhash => ?_⟩
  · exact exec_answered rfl hx (by rw [State.bulk_of_range _ hal hend]; rfl)
  · exact exec_answered rfl hx (by rw [State.bulk_of_range _ hal hend]; rfl)
  · have hhash' : (s.takeCmd h).sec.otp.ownerHash = some hash := hhash
    split
    case isTrue hkey =>
      exact exec_answered rfl hx (by
        dsimp only
        rw [if_neg (by decide), hbulk, hhash']
        dsimp only
        rw [if_neg (not_not.mpr hkey)])
    case isFalse hkey =>
      exact exec_answered rfl hx (by
        dsimp only
        rw [if_neg (by decide), hbulk, hhash']
        dsimp only
        rw [if_pos hkey])

end Sys2Proof.Machine
end

section
/-! PROOFS. The commands that a signature decides (R216, R217, R520, R529 to R533). -/

namespace Sys2Proof.Machine

open Sys2Proof Sys2Proof.Safety

/-- FUSE_PROGRAM is decided by its checks (R520, R532, R533). -/
theorem exec_fuseProgram_answered {s : State} {h : Hdr} {off len : Nat} (hx : Executes Cmd.fuseProgram h s) :
    exec (.fuseProgram h off len) s = .next (
      match (s.takeCmd h).fuseCheck off len with
      | .ok (q, o) => answered Cmd.fuseProgram h s
          (State.raise { s.takeCmd h with sec := { (s.takeCmd h).sec with otp := o } }
            ((s.takeCmd h).ev 798 0x0118 [(1, field q 0 1), (1, field q 1 1), (4, field q 4 4)])) (ok [])
      | .error st => answered Cmd.fuseProgram h s
          (((s.takeCmd h).fuseRefused st).raise
            ((s.takeCmd h).ev 798 0x0119 [(1, match (s.takeCmd h).bulk off len with | none => 0 | some q => field q 0 1), (2, st)]))
          (.refuse st [])) := by
  cases hcheck : (s.takeCmd h).fuseCheck off len with
  | error st => exact exec_answered rfl hx (by dsimp only; rewrite [hcheck]; rfl)
  | ok x => exact exec_answered rfl hx (by dsimp only; rw [hcheck])

/-- CURTAIN_INSTALL is refused, or its mailbox goes on EXECUTING (R216, R471). -/
theorem exec_curtainInstall_runs {s : State} {h : Hdr} (hx : Executes Cmd.curtainInstall h s) :
    exec (.curtainInstall h) s = .next (
      match (s.takeCmd h).installRefusal (readBytes (s.takeCmd h).curtain.staging 0 (0x1FA480 + 1024)) with
      | some st => answered Cmd.curtainInstall h s
          (((if st = 0x0401 then (s.takeCmd h).sigRefused 0x0441 3 st else s.takeCmd h)).curtainRefused 0x0441 st).1 (.refuse st [])
      | none => { s.takeCmd h with
          curtain := { (s.takeCmd h).curtain with
            install := some ((readBytes (s.takeCmd h).curtain.staging 0 (0x1FA480 + 1024)).take 0x1FA480) }
          host := { (s.takeCmd h).host with mbs := vset (s.takeCmd h).host.mbs h.mb { vget (s.takeCmd h).host.mbs h.mb with
            long := some ⟨h, 0x0441, (vget s.host.mbs h.mb).cmdRd, 0⟩ } } }) := by
  obtain ⟨hbegin, hlen, hpre⟩ := hx
  change Host.Outcome.next (runLong _ _ _ _) = _
  unfold runLong
  rw [if_neg (by simp [hbegin]), if_neg (by omega), hpre]
  dsimp only
  cases hrefusal : (s.takeCmd h).installRefusal (readBytes (s.takeCmd h).curtain.staging 0 (0x1FA480 + 1024)) with
  | some st => rfl
  | none => rfl

/-- A DROP or RAISE whose key, device and sequence pass is decided by its signature (R216, R219). -/
theorem State.signedMove_decided {s : State} {opcode : Nat} {down : Bool} {seq : Nat} {print sig : List Byte}
    {key : List Byte × Nat} (hprint : print = fingerprint) (hkey : s.sec.ownerKey = some key) (hseq : s.curtain.cmdSeq < seq) :
    s.signedMove opcode down seq print sig =
      if pssVerify key.1 (leBytes 2 opcode ++ leBytes 8 seq ++ print) sig = true then
        (s.moveCurtain { s.curtain with cmdDown := down, cmdSeq := seq } 1,
          ok (leBytes 4 (s.moveCurtain { s.curtain with cmdDown := down, cmdSeq := seq } 1).curtain.gen))
      else s.curtainRefused opcode 0x0401 := by
  unfold State.signedMove
  rw [hkey]
  dsimp only
  rw [if_neg (not_not.mpr hprint), if_neg (by omega)]
  cases pssVerify key.1 (leBytes 2 opcode ++ leBytes 8 seq ++ print) sig <;> rfl

/-- Settles O10: each command's last check decides it. -/
theorem signedCommandsDecide : Obligations.SignedCommandsDecide := by
  unfold Obligations.SignedCommandsDecide
  rintro s t h rfl
  refine ⟨fun off b hx hbulk => ?_, fun off len => exec_fuseProgram_answered, exec_curtainInstall_runs,
    fun down seq print sig key hx hkey hprint hseq => ?_⟩
  · split
    case isTrue hok =>
      exact exec_answered rfl hx (by
        dsimp only
        rw [if_neg (by decide), hbulk]
        dsimp only
        rw [if_neg (by simp [hok])])
    case isFalse hbad =>
      exact exec_answered rfl hx (by
        dsimp only
        rw [if_neg (by decide), hbulk]
        dsimp only
        rw [if_pos (by simpa using hbad)])
  · have hmove := fun opcode => State.signedMove_decided (s := s.takeCmd h) (opcode := opcode) (down := down)
      (sig := sig) hprint hkey hseq
    cases down with
    | true =>
      simp only [if_true] at hx ⊢
      split
      case isTrue hsig => exact exec_answered rfl hx (by rw [hmove, if_pos hsig])
      case isFalse hsig => exact exec_answered rfl hx (by rw [hmove, if_neg hsig]; rfl)
    | false =>
      simp only [Bool.false_eq_true, if_false] at hx ⊢
      split
      case isTrue hsig => exact exec_answered rfl hx (by rw [hmove, if_pos hsig])
      case isFalse hsig => exact exec_answered rfl hx (by rw [hmove, if_neg hsig]; rfl)

end Sys2Proof.Machine
end

section
/-! PROOFS. The commands of productions, contexts, layers and audio (R48 to R54, R187, R209, R238, R280). -/

namespace Sys2Proof.Machine

open Sys2Proof Sys2Proof.Safety

/-- PRODUCTION_LOAD takes the chunk that comes next in its image (R481). -/
theorem exec_productionLoad_chunk {s : State} {h : Hdr} {off bulk : Nat} {chunk : List Byte} (hx : Executes Cmd.productionLoad h s)
    (hstate : s.green.state ≤ 2) (hoff : off = (if s.green.state = 1 then s.green.staging.length else 0))
    (hsome : 0 < chunk.length) (hbulk : (s.takeCmd h).bulk bulk chunk.length = some chunk)
    (hheader : off = 0 → 64 ≤ chunk.length ∧ headerOk chunk = true)
    (hmax : (if off = 0 then field chunk 8 4 else s.green.size) ≤ 48 * 2 ^ 20)
    (hend : off + chunk.length ≤ (if off = 0 then field chunk 8 4 else s.green.size)) :
    exec (.productionLoad h off chunk.length bulk) s =
      .next (answered Cmd.productionLoad h s ((s.takeCmd h).loadChunk off chunk).1 ((s.takeCmd h).loadChunk off chunk).2) := by
  have hgood : ¬ (off = 0 ∧ (chunk.length < 64 ∨ headerOk chunk = false)) := by
    rintro ⟨h0, hbad⟩
    obtain ⟨hlen, hok⟩ := hheader h0
    rw [hok] at hbad
    exact hbad.elim (by omega) (by simp)
  refine exec_answered rfl hx ?_
  dsimp only
  rw [State.takeCmd_green, if_neg (by omega), if_neg (not_not.mpr hoff), if_neg (by omega), hbulk]
  dsimp only
  rw [if_neg hgood, if_neg (by omega), if_neg (by omega)]

theorem State.greenTo_ev (s : State) (g : GreenRoom) (source type : Nat) (fs : List (Nat × Int)) :
    (s.greenTo g).ev source type fs = s.ev source type fs := by
  simp [State.ev, State.now, State.greenTo]

theorem State.greenTo_noteRefusal (s : State) (g : GreenRoom) (opcode : Nat) (d : Detail) :
    (s.greenTo g).noteRefusal opcode d = if d.reason = 0x0203 then (s.greenTo g).raise
      (s.ev 835 0x0111 [(2, opcode), (2, 2), (2, 0x0203)]) else s.greenTo g := by
  unfold State.noteRefusal State.sigRefused
  split
  case isTrue hreason => rw [State.greenTo_ev, hreason]; rfl
  case isFalse => rfl

/-- PRODUCTION_CHECK is decided by the admission (R48, R482, R483). -/
theorem exec_productionCheck_decided {s : State} {h : Hdr} (hx : Executes Cmd.productionCheck h s)
    (hstate : s.green.state = 2 ∨ s.green.state = 3) :
    exec (.productionCheck h) s = .next (
      match (s.takeCmd h).admission s.green.staging with
      | none => answered Cmd.productionCheck h s (s.takeCmd h).admitted (ok (leBytes 4 (production s.green.staging).id))
      | some d => answered Cmd.productionCheck h s
          (if d.reason = 0x0203 then ((s.takeCmd h).greenTo { s.green with state := 2, prod := none, detail := d }).raise
              ((s.takeCmd h).ev 835 0x0111 [(2, 0x0202), (2, 2), (2, 0x0203)])
            else (s.takeCmd h).greenTo { s.green with state := 2, prod := none, detail := d })
          (.refuse d.reason (d.bytes (s.host.sess.getD 2)))) := by
  have hloaded : ¬ (s.green.state ≠ 2 ∧ s.green.state ≠ 3) := by omega
  cases hadm : (s.takeCmd h).admission s.green.staging with
  | none =>
    refine exec_answered rfl hx ?_
    dsimp only
    rw [State.takeCmd_green, if_neg hloaded, hadm]
  | some d =>
    refine exec_answered rfl hx ?_
    dsimp only
    rw [State.takeCmd_green, if_neg hloaded, hadm]
    dsimp only
    rw [State.greenTo_noteRefusal]
    rfl

/-- A PRODUCTION_CUE that leaves the green room out of LOADED has no pending cue to serve (R482). -/
theorem exec_productionCue_answered {s t : State} {h : Hdr} {request : Nat} {r : Reply} {body : State → State × Reply}
    (hexec : exec (.productionCue h request) s = .next (
      if (runCmd Cmd.productionCue h body s).green.state = 2 then (runCmd Cmd.productionCue h body s).runPending
      else runCmd Cmd.productionCue h body s))
    (hx : Executes Cmd.productionCue h s) (hb : body (s.takeCmd h) = (t, r)) (hstate : t.green.state ≠ 2) :
    exec (.productionCue h request) s = .next (answered Cmd.productionCue h s t r) := by
  have hgreen : (answered Cmd.productionCue h s t r).green = t.green :=
    State.complete_green ..
  rw [hexec, runCmd_answered hx hb, hgreen, if_neg hstate]

/-- Settles O11: each command's checks pass in turn. -/
theorem productionCommandsExecute : Obligations.ProductionCommandsExecute := by
  unfold Obligations.ProductionCommandsExecute
  rintro s t h rfl
  refine ⟨fun off bulk chunk => exec_productionLoad_chunk, exec_productionCheck_decided,
    fun request p point deferred hx hstate hprod hblock hfix => ?_, fun request hx hstate hblock => ?_, fun hx hstate => ?_,
    fun hx => exec_answered rfl hx rfl⟩
  · refine exec_productionCue_answered rfl hx ?_ ?_
    · dsimp only
      rw [State.takeCmd_green, if_neg (by omega), if_pos hstate, hprod]
      dsimp only
      rw [hblock]
      dsimp only
      have hfix' : fixCue (s.takeCmd h).running p request ((s.takeCmd h).readyTime p) (s.takeCmd h).cycle
          = .ok (point, deferred) := hfix
      rw [hfix']
    · have hgreen : ((s.takeCmd h).setCue p point deferred).green.state = 4 := by
        simp [State.setCue, State.greenTo, State.raiseAll_green]
      omega
  · refine exec_productionCue_answered rfl hx ?_ (by simp [hstate])
    dsimp only
    rw [State.takeCmd_green, if_neg (by omega), if_neg (by omega), if_neg (by omega), hblock]
  · refine exec_answered rfl hx ?_
    rw [State.takeCmd_green, if_neg hstate]

/-- A rate schedule within the entry's bounds is accepted (R187). -/
theorem exec_contextRateSet_answered {s : State} {h : Hdr} {context sched rAvg : Nat} {p : Production} {c : Ctx}
    (hx : Executes Cmd.contextRateSet h s) (hrun : s.running = some p) (hctx : p.ctx context = some c)
    (hsched : sched < (p.boxOf c).schedCount) (hmode0 : (p.boxOf c).mode = 0 → sched = 0)
    (hmode1 : (p.boxOf c).mode = 1 → (p.boxOf c).rAvgMin ≤ rAvg ∧ rAvg ≤ ((p.boxOf c).scheds.getD sched (0, 0)).1) :
    exec (.contextRateSet h context sched rAvg) s = .next (answered Cmd.contextRateSet h s
      ((s.takeCmd h).acceptRate c { sched := some sched, rAvg := if (p.boxOf c).mode = 1 then some rAvg else none }).1
      (.accept (leBytes 4 ((s.takeCmd h).effectFrame c)) true)) := by
  have hin : ¬ ((p.boxOf c).schedCount ≤ sched ∨ (p.boxOf c).mode = 0 ∧ sched ≠ 0
      ∨ (p.boxOf c).mode = 1 ∧ (rAvg < (p.boxOf c).rAvgMin ∨ ((p.boxOf c).scheds.getD sched (0, 0)).1 < rAvg)) := by
    omega
  refine exec_answered rfl hx ?_
  dsimp only
  rw [State.takeCmd_running, hrun, Option.bind_some, hctx]
  dsimp only [Option.map_some]
  rw [if_neg hin]
  rfl

/-- Settles O12: the context is found and the settings are within its bounds. -/
theorem contextCommandsExecute : Obligations.ContextCommandsExecute := by
  unfold Obligations.ContextCommandsExecute
  rintro s t h context rfl
  refine ⟨fun p c sched rAvg => exec_contextRateSet_answered, fun p c lo hi hx hrun hctx hlo hle hhi => ?_, fun hx hin => ?_⟩
  · refine exec_answered rfl hx ?_
    dsimp only
    rw [State.takeCmd_running, hrun, Option.bind_some, hctx]
    dsimp only [Option.map_some]
    rw [if_neg (by omega)]
    rfl
  · refine exec_answered rfl hx ?_
    dsimp only
    rw [if_neg (by omega)]
    rfl

/-- Settles O13: the layer, pair or set is found, and the change fits. -/
theorem layerCommandsExecute : Obligations.LayerCommandsExecute := by
  unfold Obligations.LayerCommandsExecute
  rintro s t h rfl
  refine ⟨fun context layer p c l dst src hx hlayer hfits => ?_, fun context layer p c l opacity hx hlayer hmax hopaque => ?_,
    fun pair g hx hg hpair hfree => ?_, fun context p c set hx hrun hctx hset => ?_⟩
  · have hlayer' : (s.takeCmd h).layerAt context layer = some (p, c, l) := hlayer
    refine exec_answered rfl hx ?_
    rw [hlayer']
    dsimp only
    rw [if_pos hfits]
    rfl
  · have hlayer' : (s.takeCmd h).layerAt context layer = some (p, c, l) := hlayer
    have hin : ¬ (256 < opacity ∨ l.opaque_ = true ∧ opacity ≠ 256) := fun hbad =>
      hbad.elim (by omega) fun hop => hop.2 (hopaque hop.1)
    refine exec_answered rfl hx ?_
    rw [hlayer']
    dsimp only
    rw [if_neg hin]
    rfl
  · subst hg
    have hcommit : (s.takeCmd h).commitPair pair = some { s.takeCmd h with
        pairs := cset {} s.pairs pair { cget {} s.pairs pair with
          front := 1 - (cget {} s.pairs pair).front, committed := true, backFree := false } } := by
      unfold State.commitPair
      exact if_pos ⟨hpair, hfree⟩
    refine exec_answered rfl hx ?_
    rw [hcommit]
  · refine exec_answered rfl hx ?_
    dsimp only
    rw [State.takeCmd_running, hrun, Option.bind_some, hctx, Option.bind_some, hset]
    rfl

/-- Settles O15: the route, port or queue stands in the running production. -/
theorem audioCommandsExecute : Obligations.AudioCommandsExecute := by
  unfold Obligations.AudioCommandsExecute
  rintro s t h rfl
  refine ⟨fun route gain x hx hroute => ?_, fun route mute x hx hroute => ?_, fun port i e hx hport => ?_,
    fun port i e hx hport => ?_, fun queue rate p e hx hrun hfind hmin hmax => ?_⟩
  · have hroute' : (s.takeCmd h).routeAt route = some x := hroute
    refine exec_answered rfl hx ?_
    rw [State.changeRoute, hroute']
    rfl
  · have hroute' : (s.takeCmd h).routeAt route = some x := hroute
    refine exec_answered rfl hx ?_
    rw [State.changeRoute, hroute']
    rfl
  · have hport' : (s.takeCmd h).usedPort port = some (i, e) := hport
    refine exec_answered rfl hx ?_
    rw [hport']
  · have hport' : (s.takeCmd h).usedPort port = some (i, e) := hport
    refine exec_answered rfl hx ?_
    rw [hport']
    rfl
  · refine exec_answered rfl hx ?_
    dsimp only
    rw [State.takeCmd_running, hrun, Option.bind_some, hfind]
    dsimp only
    rw [if_neg (by omega)]
    rfl

end Sys2Proof.Machine
end

section
/-! PROOFS. The link commands and the link tests' commands (R303 to R317, R357). -/

namespace Sys2Proof.Machine

open Sys2Proof Sys2Proof.Safety

theorem finOf_val {n : Nat} (i : Fin n) : finOf n i.val = some i := dif_pos i.isLt

theorem finOf_of_le {n x : Nat} (h : n ≤ x) : finOf n x = none := dif_neg (by omega)

theorem withLink_val (i : Fin 12) (body : Fin 12 → State → State × Reply) (s : State) :
    withLink i.val body s = body i s := by
  unfold withLink
  rw [finOf_val]

/-- A command on a link that executes is answered with what its body gives for that link. -/
theorem exec_link_answered {c : Instr} {k : Spec} {h : Hdr} {s t : State} {i : Fin 12} {r : Reply}
    {body : Fin 12 → State → State × Reply} (hexec : exec c s = .next (runCmd k h (withLink i.val body) s))
    (hx : Executes k h s) (hb : body i (s.takeCmd h) = (t, r)) : exec c s = .next (answered k h s t r) :=
  exec_answered hexec hx (by rw [withLink_val, hb])

/-- Settles O16: every link number has its link, and the operands are in range. -/
theorem linkCommandsExecute : Obligations.LinkCommandsExecute := by
  unfold Obligations.LinkCommandsExecute
  rintro s t h i rfl
  refine ⟨fun hx => exec_link_answered rfl hx rfl, fun hx hstate => ?_, fun mode hx hmode hstate => ?_,
    fun presets hx hpresets => ?_,
    fun lanes a b c d hx hlanes ha hb hc hd => ?_, fun hx => exec_link_answered rfl hx rfl, fun n hn hx => ?_⟩
  · refine exec_link_answered rfl hx ?_
    dsimp only
    rw [State.takeCmd_links, if_neg (by omega), if_neg (by omega), if_pos (by omega)]
  · refine exec_link_answered rfl hx ?_
    dsimp only
    rw [State.takeCmd_links, if_neg (by omega), if_neg (by omega), if_neg (by omega)]
  · have hin : ¬ presets.any (fun p => decide (7 < p)) = true := by
      rw [Bool.not_eq_true, List.any_eq_false]
      intro p hp
      have := hpresets p hp
      simp only [decide_eq_true_eq]
      omega
    refine exec_link_answered rfl hx ?_
    dsimp only
    rw [if_neg hin]
    rfl
  · have hin : ¬ (15 < lanes ∨ [a, b, c, d].any (fun g => decide (31 < g)) = true) := by
      simp only [List.any_cons, List.any_nil, Bool.or_eq_true, decide_eq_true_eq, Bool.false_eq_true, or_false]
      omega
    refine exec_link_answered rfl hx ?_
    dsimp only
    rw [if_neg hin]
    rfl
  · refine exec_answered rfl hx ?_
    rw [withLink, finOf_of_le hn]

/-- EYE_SCAN of an ACTIVE link that scans nothing starts (R311, R312). -/
theorem exec_eyeScan_starts {s : State} {h : Hdr} {i : Fin 12} {lanes k off : Nat} (hx : Executes Cmd.eyeScan h s)
    (hlanes1 : 1 ≤ lanes) (hlanes : lanes ≤ 15) (hk1 : 10 ≤ k) (hk : k ≤ 30) (hactive : (vget s.links i).state = 8)
    (heye : (vget s.links i).eye = none) (hal : off % 4 = 0) (hend : off + 16384 * (lanesOf lanes).length ≤ 0x40000) :
    exec (.eyeScan h i.val lanes k off) s = .next { s.takeCmd h with
      links := vset s.links i { vget s.links i with eye := some ⟨lanes, k, off, s.time.fclk, h.mb⟩ }
      host := { (s.takeCmd h).host with mbs := vset (s.takeCmd h).host.mbs h.mb { vget (s.takeCmd h).host.mbs h.mb with
        long := some ⟨h, 0x0705, (vget s.host.mbs h.mb).cmdRd, 0⟩ } } } := by
  obtain ⟨hbegin, hlen, hpre⟩ := hx
  have hbulk : ((s.takeCmd h).bulk off (16384 * (lanesOf lanes).length)).isNone = false := by
    unfold State.bulk
    rw [if_pos ⟨hal, hend⟩]
    rfl
  change Host.Outcome.next (runLong _ _ _ _) = _
  unfold runLong
  rw [if_neg (by simp [hbegin]), if_neg (by omega), hpre]
  dsimp only
  rw [finOf_val]
  dsimp only
  rw [State.takeCmd_links, if_neg (by omega), if_neg (by omega), heye, if_neg (by simp), hbulk]
  rfl

theorem State.setLink_raiseAll_link (s : State) (i : Fin 12) (l : Link) (es : List Ev) :
    vget ((s.setLink i l).raiseAll es).links i = l := by
  rw [State.raiseAll_links]
  simp [State.setLink, vget, vset]

/-- Settles O17: each test's command finds its link in the state it asks for. -/
theorem linkTestCommandsExecute : Obligations.LinkTestCommandsExecute := by
  unfold Obligations.LinkTestCommandsExecute
  rintro s t h i rfl
  refine ⟨fun lanes k off => exec_eyeScan_starts, fun pattern mode lanes user hx hpattern hmode hlanes hsession hpair h0 h11 => ?_,
    fun seen p hx htest => ?_, fun lanes k p bit hx hlanes htest hbit => ?_,
    fun lanes mode k p bit off hx hlanes hmode htest hbit hoff => ?_,
    fun hx hstate => ?_⟩
  · have hfree : ¬ ((s.takeCmd h).sessionLink = some i.val ∨ i = 11 ∧ (s.takeCmd h).twin.expected.isSome = true) := by
      rintro (hsess | ⟨hi, hexp⟩)
      · exact hsession hsess
      · rw [State.takeCmd_twin, hpair hi] at hexp
        cases hexp
    refine ⟨_, exec_link_answered rfl hx (by
      dsimp only
      rw [State.takeCmd_links, if_neg (by omega), if_neg hfree, if_neg (by omega)]), ?_, ?_⟩
    · rw [State.setLink_raiseAll_link]
    · rw [State.setLink_raiseAll_link]
      rfl
  · refine exec_link_answered rfl hx ?_
    dsimp only
    rw [State.takeCmd_links, htest]
    refine Prod.ext rfl (congrArg ok (List.flatMap_congr fun n _ => ?_))
    cases (vget p.check n).locked <;> rfl
  · subst hbit
    refine exec_link_answered rfl hx ?_
    dsimp only
    rw [State.takeCmd_links, if_neg (by omega), htest]
    rfl
  · subst hbit hoff
    refine exec_link_answered rfl hx ?_
    dsimp only
    rw [State.takeCmd_links, if_neg (by omega), htest]
    obtain rfl | ⟨rfl, -, -⟩ := hmode <;> rfl
  · refine exec_link_answered rfl hx ?_
    dsimp only
    rw [State.takeCmd_links, if_neg (by omega)]
    rfl

end Sys2Proof.Machine
end

section
/-! PROOFS. The commands of clocks, house time, the twin, the CUE pins and the check-value units. -/

namespace Sys2Proof.Machine

open Sys2Proof Sys2Proof.Safety

/-- CANDIDATE_STATUS of candidates in range clears their counters (R385). -/
theorem exec_candidateStatus_answered {s : State} {h : Hdr} {first count : Nat} (hx : Executes Cmd.candidateStatus h s)
    (hmin : 1 ≤ count) (hmax : count ≤ 7) (hend : first + count ≤ 16) :
    exec (.candidateStatus h first count) s = .next (answered Cmd.candidateStatus h s
      { s.takeCmd h with cands := Vector.ofFn (fun c : Fin 16 =>
          if first ≤ c.val ∧ c.val < first + count then { vget s.cands c with hits := 0, losses := 0 } else vget s.cands c) }
      (ok (((List.finRange 16).filter (fun c : Fin 16 => decide (first ≤ c.val) && decide (c.val < first + count))).flatMap
        (s.takeCmd h).ck.candBytes))) := by
  refine exec_answered rfl hx ?_
  dsimp only
  rw [if_neg (by omega), if_neg (by omega)]
  simp only [Bool.and_eq_true, decide_eq_true_eq]
  rfl

/-- Settles O18: the operands are in range, and no switch is in progress. -/
theorem clockCommandsExecute : Obligations.ClockCommandsExecute := by
  unfold Obligations.ClockCommandsExecute
  rintro s t h rfl
  refine ⟨fun hx => exec_answered rfl hx rfl, fun first count => exec_candidateStatus_answered,
    fun c f hx hrange hnominal hswitch => ?_, fun f hx hrange hswitch => ?_, fun word hx hswitch => ?_,
    fun ns hx hmin hmax hstate => ?_, fun hx hstate => ?_, fun d c hx hswitch => ?_⟩
  · have hin : ¬ (candInRange f = false ∨ 4 ≤ c.val ∧ f.nominal ≠ 100000000) := by
      rintro (hbad | ⟨hlink, hbad⟩)
      · rw [hrange] at hbad
        cases hbad
      · exact hbad (hnominal hlink)
    refine exec_answered rfl hx ?_
    dsimp only
    rw [finOf_val]
    dsimp only
    rw [if_neg hin, State.takeCmd_dpll, hswitch]
    rfl
  · refine exec_answered rfl hx ?_
    dsimp only
    rw [hrange, hswitch]
    rfl
  · refine exec_answered rfl hx ?_
    dsimp only
    rw [hswitch]
    rfl
  · have habs : ¬ 1000000 < |ns| := by
      rw [not_lt, abs_le]
      exact ⟨hmin, hmax⟩
    refine exec_answered rfl hx ?_
    dsimp only
    rw [if_neg habs, if_neg hstate]
  · refine exec_answered rfl hx ?_
    rw [State.takeCmd_dpll, if_neg (by omega)]
  · refine exec_answered rfl hx ?_
    dsimp only
    rw [State.takeCmd_dpll, hswitch]
    rfl

/-- Settles O19: the mode is known, and the state of the production decides. -/
theorem houseTimeCommandsExecute : Obligations.HouseTimeCommandsExecute := by
  unfold Obligations.HouseTimeCommandsExecute
  rintro s t h rfl
  have hbusy : (s.takeCmd h).busyWithProduction = s.busyWithProduction := rfl
  refine ⟨fun hx => exec_answered rfl hx rfl, fun time hx hidle => ?_, fun time hx hidle => ?_, fun mode time hx hmode hrun => ?_,
    fun a hx hmin hmax => ?_⟩
  · refine exec_answered rfl hx ?_
    dsimp only
    rw [if_neg (by omega), hbusy, hidle]
    rfl
  · refine exec_answered rfl hx ?_
    dsimp only
    rw [if_neg (by omega), hbusy, hidle]
    rfl
  · refine exec_answered rfl hx ?_
    dsimp only
    rw [if_neg (by omega), hbusy, hrun]
    rfl
  · refine exec_answered rfl hx ?_
    dsimp only
    rw [if_neg (by omega)]
    rfl

/-- Settles O21: the peer that HELLO has shown is the one named, and a pairing stands where it ends. -/
theorem twinCommandsExecute : Obligations.TwinCommandsExecute := by
  unfold Obligations.TwinCommandsExecute
  rintro s t h rfl
  refine ⟨fun hx => exec_answered rfl hx rfl, fun print p u hx hmode hpeer hprint hlink hu => ?_, fun x hx hpair => ?_⟩
  · subst hu
    have hmode' : ¬ (s.takeCmd h).twinMode = 0 := hmode
    have hlink' : (s.takeCmd h).twinLink = true := hlink
    refine exec_answered rfl hx ?_
    dsimp only
    rw [if_neg hmode', State.takeCmd_twin, hpeer]
    dsimp only
    rw [if_neg (not_not.mpr hprint), hlink', if_neg (by simp)]
  · refine exec_answered rfl hx ?_
    dsimp only
    rw [State.takeCmd_twin, hpair]
    rfl

/-- Settles O23: the pin's settings are in range. -/
theorem cueCommandsExecute : Obligations.CueCommandsExecute := by
  unfold Obligations.CueCommandsExecute
  rintro s t h rfl
  refine ⟨fun i f hx hdir hactive hmode hstuck hin hout => ?_, fun i f hx hdir hok => ?_,
    fun first count clear hx hmin hend hclear => ?_⟩
  · refine exec_answered rfl hx ?_
    dsimp only
    rw [finOf_val]
    dsimp only
    rw [if_neg (by omega), if_neg (by omega)]
    rfl
  · refine exec_answered rfl hx ?_
    dsimp only
    rw [finOf_val]
    dsimp only
    rw [State.takeCmd_cues, if_neg (by omega), hok]
    rfl
  · refine exec_answered rfl hx ?_
    dsimp only
    rw [if_neg (by omega)]
    simp only [Bool.and_eq_true, decide_eq_true_eq, and_assoc]
    rfl

theorem withUnit_val (u : Fin 16) (body : Fin 16 → State → State × Reply) (s : State) :
    withUnit u.val body s = body u s := by
  unfold withUnit
  rw [finOf_val]

/-- Settles O24: every unit number has its unit, which is not in FAULT. -/
theorem checkUnitCommandsExecute : Obligations.CheckUnitCommandsExecute := by
  unfold Obligations.CheckUnitCommandsExecute
  rintro s t h u c rfl rfl
  have hcu : vget (s.takeCmd h).cu u = vget s.cu u := rfl
  refine ⟨fun poly hx hpoly => ?_, fun source len off data bs hx hfeed hfault => ?_, fun hx hfault => ?_, fun v hx => ?_,
    fun hx hfault => ?_⟩
  · refine exec_answered rfl hx ?_
    rw [withUnit_val, if_neg (by omega)]
  · refine exec_answered rfl hx ?_
    rw [withUnit_val, hcu, hfeed]
    dsimp only
    rw [hfault]
    rfl
  · refine exec_answered rfl hx ?_
    rw [withUnit_val]
    dsimp only
    rw [hcu, hfault]
    rfl
  · refine exec_answered rfl hx ?_
    rw [withUnit_val]
    rfl
  · refine exec_answered rfl hx ?_
    rw [withUnit_val]
    dsimp only
    rw [hcu, hfault]
    rfl

end Sys2Proof.Machine
end

section
/-! PROOFS. The status commands (R95, R271, R404, R544, R579), and DDR_STATUS, which counts refresh windows that have begun. -/

namespace Sys2Proof.Machine

open Sys2Proof Sys2Proof.Safety

theorem vget_vmod {α : Type} {n : Nat} (v : Vector α n) (i j : Fin n) (f : α → α) :
    vget (vmod v i f) j = if i = j then f (vget v i) else vget v j := by
  unfold vmod
  rw [vget_vset]

/-- Elements changed one by one, each by itself. -/
theorem vget_foldl_vmod {α : Type} {n : Nat} (p : Fin n → Prop) [DecidablePred p] (f : α → α) (l : List (Fin n)) (hl : l.Nodup)
    (v : Vector α n) (j : Fin n) :
    vget (l.foldl (fun v i => if p i then vmod v i f else v) v) j = if j ∈ l ∧ p j then f (vget v j) else vget v j := by
  induction l generalizing v with
  | nil => simp
  | cons i l ih =>
    obtain ⟨hi, hl⟩ := List.nodup_cons.mp hl
    rw [List.foldl_cons, ih hl]
    by_cases hij : i = j
    · subst hij
      by_cases hp : p i <;> simp [hi, hp, vget_vmod]
    · have hji : j ≠ i := fun e => hij e.symm
      by_cases hp : p i <;> simp [hp, vget_vmod, hij, hji]

/-- The engines once the counters of the named ones have been read (R95). -/
def State.enginesRead (s : State) (first count : Nat) : Vector Engine 16 :=
  (List.finRange 16).foldl (fun (v : Vector Engine 16) i =>
    if first ≤ i.val ∧ i.val < first + count then vmod v i (fun g => g.countRead s.cycle) else v) s.engines

theorem exec_engineStatus_answered {s : State} {h : Hdr} {first count : Nat} (hx : Executes Cmd.engineStatus h s)
    (hmin : 1 ≤ count) (hend : first + count ≤ 16) :
    ∃ u, exec (.engineStatus h first count) s = .next (answered Cmd.engineStatus h s u (ok (recordsFrom (fun e =>
        ((finOf 16 e).map (fun i => ((vget s.engines i).counted s.cycle).bytes e (s.engineCycle e))).getD []) first count)))
      ∧ u = { s.takeCmd h with engines := u.engines }
      ∧ ∀ i : Fin 16, vget u.engines i =
        if first ≤ i.val ∧ i.val < first + count then { vget s.engines i with
          n := { latenessMax := (vget s.engines i).lateNow s.cycle }
          q := { (vget s.engines i).q with frzSeen := ((vget s.engines i).q.frozenAt.map (s.cycle - ·)).getD 0 } }
        else vget s.engines i := by
  refine ⟨{ s.takeCmd h with engines := s.enginesRead first count }, ?_, rfl, fun i => ?_⟩
  · refine exec_answered rfl hx ?_
    dsimp only
    rw [if_neg (by omega)]
    refine Prod.ext rfl (congrArg (fun f => ok (recordsFrom f first count)) (funext fun e => ?_))
    cases finOf 16 e <;> rfl
  · dsimp only [State.enginesRead]
    rw [vget_foldl_vmod _ _ _ (List.nodup_finRange 16)]
    simp only [List.mem_finRange, true_and]
    rfl

/-- Settles O22: the range of the records decides. -/
theorem statusCommandsExecute : Obligations.StatusCommandsExecute := by
  unfold Obligations.StatusCommandsExecute
  rintro s t h rfl
  refine ⟨fun first count => exec_engineStatus_answered, fun first count hx hout => ?_, fun first count hx hmin hmax hend => ?_,
    fun first count hx hout => ?_, fun hx => exec_answered rfl hx rfl, fun first count enable hx hend henable => ?_,
    fun first count enable hx hout => ?_, fun first count hx hmin hmax hend => ?_, fun first count hx hout => ?_,
    fun hx => exec_answered rfl hx rfl⟩
  · exact exec_answered rfl hx (if_pos hout)
  · exact exec_answered rfl hx (if_neg (by omega))
  · exact exec_answered rfl hx (if_pos (by omega))
  · exact exec_answered rfl hx (if_neg (by omega))
  · exact exec_answered rfl hx (if_pos hout)
  · exact exec_answered rfl hx (if_neg (by omega))
  · exact exec_answered rfl hx (if_pos hout)

/-! ### DDR_STATUS -/

theorem answered_windows {c : Spec} {h : Hdr} {s t : State} {r : Reply} (hstate : t.ddr.state ≠ 1) :
    (answered c h s t r).ddr.windows = t.ddr.windows := by
  unfold answered State.complete
  simp only [if_true, Ddr.writeJournal, if_pos hstate]

/-- A device in its main loop, one refresh interval after the only refresh window that has been counted; a command is present
in every mailbox. -/
def refreshDue : State :=
  { State.reset with
    time := { fclk := 3120 }
    boot := { phase := .running, state := 8 }
    host := { sess := some 2, mbs := Vector.replicate 8 { cmdWr := 20 } }
    ddr := { windows := 1 } }

theorem refreshDue_executes : Executes Cmd.ddrStatus ⟨1, 1, 2, 7, 0⟩ refreshDue := by
  simp only [Executes]
  decide +kernel

/-- Refutes O20: at `refreshDue` DDR_STATUS counts the second refresh window and answers 2, where the statement leaves 1. -/
theorem not_ddrCommandsExecute : ¬ Obligations.DdrCommandsExecute := by
  unfold Obligations.DdrCommandsExecute
  intro hall
  obtain ⟨hstatus, -⟩ := hall refreshDue _ ⟨1, 1, 2, 7, 0⟩ rfl
  have hrolled := (exec_answered (i := .ddrStatus ⟨1, 1, 2, 7, 0⟩) rfl refreshDue_executes rfl).symm.trans
    (hstatus refreshDue_executes)
  have hwindows := congrArg (fun u : State => u.ddr.windows) (Host.Outcome.next.inj hrolled)
  rw [answered_windows (by decide), answered_windows (by decide)] at hwindows
  exact absurd hwindows (by decide)

end Sys2Proof.Machine
end

section
/-! PROOFS. The operations of the due word issue, or its late tags freeze the engine (R61, R62, R80). -/

namespace Sys2Proof.Machine

open Sys2Proof Sys2Proof.Safety

/-! ### The word at which the sequencer stands -/

/-- The due word issues what is wanted of it unless a late tag of it freezes the engine first. -/
theorem reach_ready {t : EngineTab} {late : List Nat → Bool} {want : Nat → CueWord → Bool} {cycle n a due : Nat} {issued : Bool}
    {w : CueWord} (hw : t.words[a]? = some w) (hdue : due ≤ cycle) (hready : issued = true ∨ late (t.consumed w) = false)
    (hwant : want a w = true) : reach t late want cycle (n + 1) a due issued = some ⟨a, due, w, false⟩ := by
  obtain h | h := hready <;> simp [reach, hw, Nat.not_lt.mpr hdue, h, hwant]

theorem reach_late {t : EngineTab} {late : List Nat → Bool} {want : Nat → CueWord → Bool} {cycle n a due : Nat}
    {w : CueWord} (hw : t.words[a]? = some w) (hdue : due ≤ cycle) (hlate : late (t.consumed w) = true) :
    reach t late want cycle (n + 1) a due false = some ⟨a, due, w, true⟩ := by
  simp [reach, hw, Nat.not_lt.mpr hdue, hlate]

/-- An engine that issues, at a word whose cycle has come and that may begin or has begun to issue (R61, R62, R80). -/
structure State.WordReady (s : State) (e : Fin 16) (t : EngineTab) (w : CueWord) : Prop where
  issues : (vget s.engines e).issues = true
  word : t.words[(vget s.engines e).q.pc]? = some w
  due : (vget s.engines e).q.due ≤ s.cycle
  ready : (∀ k ∈ t.consumed w, (cget {} (vget s.engines e).tags k).arrived = true) ∨ (vget s.engines e).steady = true
    ∨ (vget s.engines e).q.did ≠ []

/-- An operation of a ready word that has not issued issues there. -/
theorem State.WordReady.reachWord {s : State} {e : Fin 16} {t : EngineTab} {w : CueWord} (h : s.WordReady e t w) {slot : Nat}
    {want : Nat → CueWord → Bool} (hwant : want (vget s.engines e).q.pc w = true)
    (hdid : (vget s.engines e).q.did.contains slot = false) :
    s.reachWord e t slot want
      = (s, some ((vget s.engines e).didSlot slot, ⟨(vget s.engines e).q.pc, (vget s.engines e).q.due, w, false⟩)) := by
  have hready : decide ((vget s.engines e).q.did ≠ []) = true ∨
      (!(vget s.engines e).steady && (t.consumed w).any (fun x => !(cget {} (vget s.engines e).tags x).arrived)) = false := by
    obtain harrived | hsteady | hbegun := h.ready
    · refine .inr ?_
      rw [Bool.and_eq_false_iff, List.any_eq_false]
      exact .inr fun k hk => by simp [harrived k hk]
    · exact .inr (by simp [hsteady])
    · exact .inl (by simpa using hbegun)
  unfold State.reachWord
  simp only [h.issues, Bool.true_eq_false, if_false]
  rw [reach_ready h.word h.due hready (by rw [hwant, hdid, Bool.and_false]; rfl)]
  simp [Engine.didSlot]

/-- Settles O26: the due word is ready, so that each of its operations that has not issued issues. -/
theorem unitIssues : Obligations.UnitIssues := by
  unfold Obligations.UnitIssues
  rintro s e j w q rfl hjob hissues hword hdue hready
  have h : s.WordReady e j.tab w := ⟨hissues, hword, hdue, hready⟩
  refine ⟨fun u op desc d hdesc hop hdid => ?_, fun u desc d hdesc hop hdid => ?_, fun op desc hop hdesc hdid => ?_⟩
  · unfold State.issue
    simp only [hjob, hdesc, h.reachWord (slot := u) (want := fun _ w => w.op u == (op, desc)) (by simp [hop]) hdid]
  · unfold State.issueDma
    simp only [hjob, hdesc, h.reachWord (slot := u) (want := fun _ w => w.op u == (1, desc)) (by simp [hop]) hdid]
  · have hwant : ((vget s.engines e).q.pc == (vget s.engines e).q.pc && w.sq.1 == op
        && (match (generalizing := false) desc with | some d => w.sq.2 == d | none => true)) = true := by
      cases desc with
      | none => simp [hop]
      | some d => simp [hop, hdesc d rfl]
    refine ⟨{ (vget s.engines e).didSlot 14 with q := { ((vget s.engines e).didSlot 14).q with
      pc := (vget s.engines e).q.pc + 1, due := (vget s.engines e).q.due + w.wait, did := [] } }, ?_, rfl, rfl, rfl⟩
    unfold State.control
    simp only [hjob]
    rw [h.reachWord (slot := 14) hwant hdid]

/-- Settles O27: the late tag freezes the engine at its due word. -/
theorem lateWordFreezes : Obligations.LateWordFreezes := by
  unfold Obligations.LateWordFreezes
  intro s e u op desc j d w t hjob hdesc hissues hword hdue hdid ht harrived hsteady
  have hlate : (!(vget s.engines e).steady && (j.tab.consumed w).any (fun x =>
      !(cget {} (vget s.engines e).tags x).arrived)) = true := by
    rw [hsteady, Bool.not_false, Bool.true_and, List.any_eq_true]
    exact ⟨t, ht, by simp [harrived]⟩
  have hissue : s.issue e u op desc = (s.setEngine e ((vget s.engines e).freeze
      ⟨(vget s.engines e).q.pc, (vget s.engines e).q.due, w, true⟩ (j.tab.consumed w).dedup s.cycle), none) := by
    unfold State.issue State.reachWord
    simp only [hjob, hdesc, hissues, Bool.true_eq_false, if_false]
    rw [show decide ((vget s.engines e).q.did ≠ []) = false by simp [hdid], reach_late hword hdue hlate]
    rfl
  rw [hissue]
  refine ⟨rfl, ?_, ?_, ?_⟩ <;> simp [Engine.freeze, Engine.issues]

end Sys2Proof.Machine
end

section
/-! PROOFS. The step and its idle tick (R370, R379, R392), the values after a power-on reset, the test port and the monitors (R540 to R542, R579 to R581). -/

namespace Sys2Proof.Machine

open Sys2Proof Sys2Proof.Safety

/-! ### The step -/

/-- Settles O1: the step matches on the queue. -/
theorem stepRunsFront : Obligations.StepRunsFront := fun _ _ _ => rfl

/-- What each step of a fold keeps, the fold keeps. -/
theorem foldl_keeps {α β γ : Type} (p : β → γ) {f : β → α → β} (h : ∀ b a, p (f b a) = p b) (l : List α) (b : β) :
    p (l.foldl f b) = p b := by
  induction l generalizing b with
  | nil => rfl
  | cons a l ih => rw [List.foldl_cons, ih, h]

/-! ### The DPLL's selection leaves no cause behind -/

@[simp] theorem Ck.setCand_dpll (k : Ck) (c : Fin 16) (new cause : Nat) : (k.setCand c new cause).dpll = k.dpll := by
  unfold Ck.setCand
  dsimp only
  split <;> rfl

@[simp] theorem Ck.conflicts_dpll (k : Ck) : k.conflicts.dpll = k.dpll := by
  unfold Ck.conflicts
  refine foldl_keeps (·.dpll) (fun k c => ?_) _ k
  dsimp only
  split
  · rfl
  · split <;> rfl

@[simp] theorem Ck.setDpll_due (k : Ck) (new cause : Nat) : (k.setDpll new cause).dpll.due = k.dpll.due := by
  unfold Ck.setDpll
  dsimp only
  split
  · rfl
  · simp only [Ck.say]
    split
    · rfl
    · split <;> rfl

theorem Ck.startSwitch_due (k : Ck) (t : Option Nat) : (k.startSwitch t).dpll.due = k.dpll.due := by
  have hfold : ((List.finRange 16).foldl (fun k c =>
      if (vget k.cands c).state = 3 ∧ t ≠ some c.val then k.setCand c 2 6 else k) k).dpll = k.dpll := by
    refine foldl_keeps (·.dpll) (fun k c => ?_) _ k
    split <;> simp
  unfold Ck.startSwitch
  dsimp only
  split <;> simp [hfold]

theorem Ck.choose_due (k : Ck) (deliberate : Bool) : (k.choose deliberate).dpll.due = k.dpll.due := by
  unfold Ck.choose
  dsimp only
  split
  · simp
  · split
    · simp
    · split
      · simp
      · simp [Ck.startSwitch_due]

/-- The end of an XO cycle takes the causes of selection that came in it (R370). -/
theorem Ck.endXo_due (k : Ck) : k.endXo.dpll.due = none := by
  unfold Ck.endXo
  dsimp only
  split
  · assumption
  · rw [Ck.choose_due]

/-! ### An idle tick -/

@[simp] theorem State.putCk_dpll (s : State) (k : Ck) : (s.putCk k).dpll = k.dpll := by simp [State.putCk]

/-- What the end of an XO cycle leaves as it was (R370). -/
structure State.XoKeeps (s t : State) : Prop where
  time : t.time = s.time
  boot : t.boot = s.boot
  pending : t.pending = s.pending
  cues : t.cues = s.cues
  engines : t.engines = s.engines
  ctxs : t.ctxs = s.ctxs
  links : t.links = s.links
  flow : t.flow = s.flow
  ddr : t.ddr = s.ddr
  twin : t.twin = s.twin

theorem State.xoEnds_keeps (s : State) : s.XoKeeps s.xoEnds := by
  unfold State.xoEnds
  dsimp only
  split
  · constructor <;> rfl
  · constructor <;> simp [State.putCk]

theorem State.xoEnds_quiet {s : State} (h : s.darkCands = [] ∧ s.dpll.due = none ∧ s.dpll.lostDue = false) :
    s.xoEnds = s := by
  unfold State.xoEnds
  dsimp only
  rw [if_pos h]

theorem State.xoEnds_due {s : State} (h : s.dpll.due.isSome = true) : s.xoEnds.dpll.due = none := by
  unfold State.xoEnds
  dsimp only
  rw [if_neg (by rintro ⟨-, hnone, -⟩; simp [hnone] at h), State.putCk_dpll, Ck.endXo_due]

/-- What the XO domain has done when a tick ends: it acts in every fourth. -/
def State.tickXo (s : State) : State := if s.time.fclk % 4 = 3 then s.xoEnds else s

theorem State.tickXo_keeps (s : State) : s.XoKeeps s.tickXo := by
  unfold State.tickXo
  split
  · exact s.xoEnds_keeps
  · constructor <;> rfl

theorem tickPasses_eq (s : State) : tickPasses s =
    if (s.time.advance (s.boot.phase == .held)).tick % 800000000 = 0 ∧ s.boot.phase ≠ .held
    then State.secondEnds { s.tickXo with time := s.time.advance (s.boot.phase == .held) }
    else { s.tickXo with time := s.time.advance (s.boot.phase == .held) } := by
  change (if (s.tickXo.time.advance (s.tickXo.boot.phase == .held)).tick % 800000000 = 0 ∧ s.tickXo.boot.phase ≠ .held
    then State.secondEnds { s.tickXo with time := s.tickXo.time.advance (s.tickXo.boot.phase == .held) }
    else { s.tickXo with time := s.tickXo.time.advance (s.tickXo.boot.phase == .held) }) = _
  rw [s.tickXo_keeps.time, s.tickXo_keeps.boot]

/-- Between whole seconds a tick is the XO domain's and the time's. -/
theorem tickPasses_within {s : State} (hheld : s.boot.phase ≠ .held) (htick : (s.time.tick + 1) % 800000000 ≠ 0) :
    tickPasses s = { s.tickXo with time := { s.time with fclk := s.time.fclk + 1, tick := s.time.tick + 1 } } := by
  have hadvance : s.time.advance (s.boot.phase == .held) = { s.time with fclk := s.time.fclk + 1, tick := s.time.tick + 1 } := by
    simp [HouseTime.advance, hheld]
  rw [tickPasses_eq, hadvance, if_neg (fun h => htick h.1)]

theorem tickPasses_keeps_rest (s : State) :
    (tickPasses s).time = s.time.advance (s.boot.phase == .held) ∧ (tickPasses s).pending = s.pending
    ∧ (tickPasses s).cues = s.cues ∧ (tickPasses s).engines = s.engines ∧ (tickPasses s).ctxs = s.ctxs
    ∧ (tickPasses s).links = s.links ∧ (tickPasses s).flow = s.flow ∧ (tickPasses s).ddr = s.ddr
    ∧ (tickPasses s).twin = s.twin ∧ (tickPasses s).boot = s.boot := by
  have k := s.tickXo_keeps
  rw [tickPasses_eq]
  split <;>
    exact ⟨rfl, k.pending, k.cues, k.engines, k.ctxs, k.links, k.flow, k.ddr, k.twin, k.boot⟩

/-- Settles O2: the tick advances the time, and the XO domain acts at the end of its cycle. -/
theorem stepIdleTick : Obligations.StepIdleTick := by
  unfold Obligations.StepIdleTick
  intro s hidle
  have hstep : step s = .next (tickPasses s) := by unfold step; rw [hidle]
  rw [hstep]
  refine ⟨?_, fun hheld hquiet hsecond => ?_, fun hheld hfourth hdue hsecond => ?_⟩
  · obtain ⟨htime, hpending, hcues, hengines, hctxs, hlinks, hflow, hddr, htwin, hboot⟩ := tickPasses_keeps_rest s
    refine ⟨_, rfl, ?_, ?_, hpending.trans hidle, hcues, hengines, hctxs, hlinks, hflow, hddr, htwin, hboot⟩
    · rw [htime]; rfl
    · rw [htime]
      by_cases hheld : s.boot.phase = .held <;> simp [HouseTime.advance, hheld]
  · have hxo : s.tickXo = s := by
      unfold State.tickXo
      split
      case isTrue hfourth => exact State.xoEnds_quiet (hquiet.resolve_left (not_not.mpr hfourth))
      case isFalse => rfl
    rw [tickPasses_within hheld hsecond, hxo]
  · refine ⟨_, rfl, ?_⟩
    rw [tickPasses_within hheld hsecond]
    unfold State.tickXo
    rw [if_pos hfourth]
    exact State.xoEnds_due hdue

/-! ### Power-on values -/

/-- Settles O3: each value is the reset state's field, and a vector's is the same at every index. -/
theorem resetValues : Obligations.ResetValues := by
  refine ⟨rfl, rfl, rfl, rfl, rfl, rfl, rfl, rfl, rfl, rfl, rfl, ?mailboxes, ?units, ?pins, ?links, ?cands,
    rfl, rfl, rfl, rfl, rfl, rfl⟩
  case mailboxes => decide
  case units => decide
  case pins => decide
  case links => decide
  case cands =>
    intro c hc
    simp [State.reset, vget_ofFn, Nat.not_lt.mpr hc]

/-! ### The test port -/

theorem tap_of_calm {s t : State} (h : t.calm = s.calm) : t.tap = s.tap := by
  simp only [State.calm, Prod.mk.injEq] at h
  exact h.2.2.2.2.1

/-- The port's instruction: links follow it, and no step of theirs changes the port (R529, R541). -/
theorem State.tapSelect_ir (s : State) (want : TapInstr) :
    (s.tapSelect want).tap.ir = if s.tapOpen || want.whileLocked then want else .bypass := by
  have hdown : ∀ (ls : List (Fin 12)) (s : State), (ls.foldl State.linkUnderTest s).tap = s.tap :=
    fun ls s => tap_of_calm (by simp)
  have hafter : ∀ (ls : List (Fin 12)) (s : State), (ls.foldl State.linkAfterTest s).tap = s.tap :=
    fun ls s => tap_of_calm (by simp)
  unfold State.tapSelect
  extract_lets ir tap s1
  split
  · rw [hdown]
  · split
    · rw [hafter]
    · rfl

/-- Settles O47: each instruction is selected, and SAMPLE/PRELOAD, which executes while locked, loads its data. -/
theorem testPortCompletes : Obligations.TestPortCompletes := by
  intro s
  refine ⟨rfl, rfl, rfl, rfl, rfl, rfl, rfl, rfl, fun data => ⟨_, rfl, rfl, ?_⟩, s.tapSelect_ir⟩
  change (s.tapSelect .samplePreload).tap.ir = .samplePreload
  rw [s.tapSelect_ir, show TapInstr.samplePreload.whileLocked = true from rfl, Bool.or_true, if_pos rfl]

/-! ### The monitors -/

@[simp] theorem State.review_mon (s : State) : s.review.mon = s.mon := by simp [State.review]

theorem any_toList_iff {α : Type} {n : Nat} (v : Vector α n) (p : α → Bool) :
    v.toList.any p = true ↔ ∃ i : Fin n, p (vget v i) = true := by
  rw [List.any_eq_true]
  constructor
  · rintro ⟨x, hx, hp⟩
    obtain ⟨i, hi, rfl⟩ := Vector.mem_iff_getElem.mp (Vector.mem_toList_iff.mp hx)
    exact ⟨⟨i, hi⟩, hp⟩
  · rintro ⟨i, hp⟩
    exact ⟨_, Vector.mem_toList_iff.mpr (Vector.getElem_mem i.isLt), hp⟩

theorem all_toList_iff {α : Type} {n : Nat} (v : Vector α n) (p : α → Bool) :
    v.toList.all p = true ↔ ∀ i : Fin n, p (vget v i) = true := by
  rw [List.all_eq_not_any_not, Bool.not_eq_true', ← Bool.not_eq_true, any_toList_iff]
  simp

/-- A reading stands in its register, and the over-temperature state follows all four (R579, R580). -/
theorem exec_thermalSample (sensor : Fin 4) (reading : Int) (s : State) : ∃ u,
    exec (.thermalSample sensor reading) s = .next u ∧ u.mon.temp = vset s.mon.temp sensor reading
    ∧ u.mon.supply = s.mon.supply
    ∧ u.mon.tripped = (u.mon.temp.toList.any (fun t => decide (2528 ≤ t))
        || (s.mon.tripped && !u.mon.temp.toList.all (fun t => decide (t < 2400)))) := by
  refine ⟨_, rfl, ?_⟩
  simp

/-- Settles O46: the reading's effect by `exec_thermalSample`, and the supply's register and alarm. -/
theorem monitorsComplete : Obligations.MonitorsComplete := by
  intro s
  refine ⟨fun sensor reading => ?_, fun monitor mV => ?_⟩
  · obtain ⟨u, hexec, htemp, hsupply, htrip⟩ := exec_thermalSample sensor reading s
    refine ⟨u, hexec, htemp, hsupply, fun hhot => ?_, fun hcool => ?_, fun hbelow habove => ?_⟩
    · have hany : u.mon.temp.toList.any (fun t => decide (2528 ≤ t)) = true :=
        (any_toList_iff _ _).mpr ⟨sensor, by rw [htemp, vget_vset_self]; exact decide_eq_true hhot⟩
      rw [htrip, hany, Bool.true_or]
    · have hany : u.mon.temp.toList.any (fun t => decide (2528 ≤ t)) = false := by
        rw [← Bool.not_eq_true, any_toList_iff]
        rintro ⟨i, hi⟩
        have := hcool i
        simp only [decide_eq_true_eq] at hi
        omega
      have hall : u.mon.temp.toList.all (fun t => decide (t < 2400)) = true :=
        (all_toList_iff _ _).mpr fun i => decide_eq_true (hcool i)
      rw [htrip, hany, hall, Bool.not_true, Bool.and_false, Bool.or_false]
    · have hany : u.mon.temp.toList.any (fun t => decide (2528 ≤ t)) = false := by
        rw [← Bool.not_eq_true, any_toList_iff]
        rintro ⟨i, hi⟩
        have := hbelow i
        simp only [decide_eq_true_eq] at hi
        omega
      have hall : u.mon.temp.toList.all (fun t => decide (t < 2400)) = false := by
        rw [← Bool.not_eq_true, all_toList_iff]
        intro h
        obtain ⟨i, hi⟩ := habove
        have := of_decide_eq_true (h i)
        omega
      rw [htrip, hany, hall, Bool.not_false, Bool.and_true, Bool.false_or]
  · refine ⟨_, rfl, ?_⟩
    by_cases hup : s.up = true
    · rw [if_pos hup]
      refine ⟨?_, ?_, fun _ => ?_, fun h => ?_⟩ <;> simp [*]
    · rw [if_neg hup]
      refine ⟨rfl, rfl, fun h => absurd h hup, fun h => ?_⟩
      simp [h]

end Sys2Proof.Machine
end

section
/-! PROOFS. The discipline of mailbox commands (R468 to R477), a completion's entries (R467 to R473), an occurrence's record (R391 to R404), and the happenings of link tests. -/

namespace Sys2Proof.Machine

open Sys2Proof Sys2Proof.Safety

/-! ### The discipline of mailbox commands -/

/-- What R468 to R477 ask of a mailbox command before it executes. -/
structure State.Disciplined (k : Spec) (h : Hdr) (pass : Bool) (s t : State) : Prop where
  waits : s.mayBegin k h pass = false → t = s
  faults : s.mayBegin k h pass = true → 16 < entriesOf h.length → t = s.faultMb h.mb
  refused : ∀ st, s.mayBegin k h pass = true → entriesOf h.length ≤ 16 → s.precheck k h = some st →
    t = State.complete
      (if st = 0x0406 then (s.takeCmd h).raise (s.ev 820 0x0413 [(2, k.opcode), (2, st)]) else s.takeCmd h)
      h.mb (vget s.host.mbs h.mb).cmdRd (s.host.sess.getD (min h.minor 2)) k.opcode h.tag h.length false (.refuse st [])

theorem runCmd_disciplined (k : Spec) (h : Hdr) (body : State → State × Reply) (s : State) (pass : Bool) :
    State.Disciplined k h pass s (runCmd k h body s pass) where
  waits hwait := by simp [runCmd, hwait]
  faults hbegin hlong := by simp [runCmd, hbegin, hlong]
  refused st hbegin hshort hst := by simp [runCmd, hbegin, Nat.not_lt.mpr hshort, hst]

theorem runLong_disciplined (k : Spec) (h : Hdr) (body : State → State × Option Reply) (s : State) :
    State.Disciplined k h false s (runLong k h body s) where
  waits hwait := by simp [runLong, hwait]
  faults hbegin hlong := by simp [runLong, hbegin, hlong]
  refused st hbegin hshort hst := by simp [runLong, hbegin, Nat.not_lt.mpr hshort, hst]

/-- A command that is not a cue runs its body under the discipline, as a short or as a long one. -/
theorem exec_disciplined {c : Instr} {k : Spec} {h : Hdr} {pass : Bool} (hc : mailbox c = some (k, h, pass))
    (hcue : ∀ r, c ≠ .productionCue h r) (s : State) : ∃ t, exec c s = .next t ∧ State.Disciplined k h pass s t := by
  cases c
  case productionCue => cases hc; exact absurd rfl (hcue _)
  case curtainInstall => cases hc; exact ⟨_, rfl, runLong_disciplined _ _ _ s⟩
  case eyeScan => cases hc; exact ⟨_, rfl, runLong_disciplined _ _ _ s⟩
  all_goals cases hc
  all_goals exact ⟨_, rfl, runCmd_disciplined _ _ _ s _⟩

theorem State.runPending_none {s : State} (h : s.green.request = none) : s.runPending = s := by
  unfold State.runPending
  rw [h]

/-- With no cue pending, a cue that does not execute ends with its command. -/
theorem exec_productionCue_disciplined (h : Hdr) (r : Nat) (s : State) (hnone : s.green.request = none) :
    ∃ t, exec (.productionCue h r) s = .next t ∧ State.Disciplined Cmd.productionCue h false s t := by
  refine ⟨_, rfl, ?_⟩
  dsimp only
  generalize hbody : runCmd Cmd.productionCue h _ s = t
  have hd := hbody ▸ runCmd_disciplined Cmd.productionCue h _ s false
  have hpending : ∀ u : State, u.green = s.green → (if u.green.state = 2 then u.runPending else u) = u := by
    intro u hu
    rw [State.runPending_none (by rw [hu, hnone]), ite_self]
  refine ⟨fun hwait => ?_, fun hbegin hlong => ?_, fun st hbegin hshort hst => ?_⟩
  · rw [hd.waits hwait, hpending s rfl]
  · rw [hd.faults hbegin hlong, hpending]
    simp [State.faultMb]
  · rw [hd.refused st hbegin hshort hst, hpending]
    rw [State.complete_green]
    split
    · simp
    · simp

/-- Settles O52: a cue by `exec_productionCue_disciplined`, every other command by `exec_disciplined`. -/
theorem mailboxDiscipline : Obligations.MailboxDiscipline := by
  intro c k h pass s hc hcue
  have hd : ∃ t, exec c s = .next t ∧ State.Disciplined k h pass s t := by
    by_cases hother : ∀ r, c ≠ .productionCue h r
    · exact exec_disciplined hc hother s
    · push Not at hother
      obtain ⟨r, rfl⟩ := hother
      cases hc
      exact exec_productionCue_disciplined h r s (hcue.resolve_right fun hne => hne r rfl)
  obtain ⟨t, hexec, hd⟩ := hd
  refine ⟨fun hwait => ?_, fun hbegin hlong => ?_, fun st hbegin hshort hst => ?_⟩
  · rw [hexec, hd.waits hwait]
  · rw [hexec, hd.faults hbegin hlong]
  · rw [hexec, hd.refused st hbegin hshort hst]

/-! ### Slots of a ring -/

theorem slice_length (bs : List Byte) (o n : Nat) : (slice bs o n).length = n := by
  simp [slice]

theorem slice_drop (bs : List Byte) (k o n : Nat) : slice (bs.drop k) o n = slice bs (k + o) n := by
  simp [slice, List.drop_drop]

theorem readBytes_congr {m m' : Memory} {a n : Nat} (h : ∀ j < n, readByte m (a + j) = readByte m' (a + j)) :
    readBytes m a n = readBytes m' a n := by
  refine List.ext_getElem (by simp [readBytes_length]) fun i hi _ => ?_
  rw [readBytes_getElem, readBytes_getElem]
  exact h i (by simpa [readBytes_length] using hi)

theorem readByte_writeSlots_outside {base depth n : Nat} {i : U32} {bs : List Byte} {m : Memory} {a : Nat} (hpos : 0 < depth)
    (h : a < base ∨ base + 256 * depth ≤ a) : readByte (writeSlots base depth n i bs m) a = readByte m a := by
  induction n generalizing i bs m with
  | zero => rfl
  | succ n ih =>
    have hslot := Nat.mod_lt i.toNat hpos
    rw [writeSlots, ih, readByte_writeBytes_outside]
    rw [slice_length]
    omega

/-- Index i of a ring whose depth divides 2^32 has the slot that its value modulo the depth names. -/
theorem slot_add {depth : Nat} (hdvd : depth ∣ 2 ^ 32) (i : U32) (k : Nat) :
    (i + BitVec.ofNat 32 k).toNat % depth = (i.toNat + k) % depth := by
  rw [BitVec.toNat_add, BitVec.toNat_ofNat, Nat.add_mod_mod, Nat.mod_mod_of_dvd _ hdvd]

theorem slot_ne {depth n k : Nat} (x : Nat) (hk : 0 < k) (hkn : k < n) (hn : n ≤ depth) :
    (x + k) % depth ≠ x % depth := by
  intro h
  have hmod : k ≡ 0 [MOD depth] := Nat.ModEq.add_left_cancel' x h
  have := Nat.le_of_dvd hk ((Nat.modEq_zero_iff_dvd).mp hmod)
  omega

/-- A slot before the ones that are written, no more than a ring's depth in all, keeps its bytes. -/
theorem readBytes_writeSlots_other {base depth n : Nat} (hdvd : depth ∣ 2 ^ 32) {i : U32} {bs : List Byte} {m : Memory}
    {x k : Nat} (hi : i.toNat % depth = (x + k) % depth) (hk : 0 < k) (hn : n + k ≤ depth) :
    readBytes (writeSlots base depth n i bs m) (base + 256 * (x % depth)) 256 = readBytes m (base + 256 * (x % depth)) 256 := by
  induction n generalizing i bs m k with
  | zero => rfl
  | succ n ih =>
    have hnext : (i + 1).toNat % depth = (x + (k + 1)) % depth := by
      rw [show i + 1 = i + BitVec.ofNat 32 1 from rfl, slot_add hdvd, Nat.add_mod, hi, ← Nat.add_mod, Nat.add_assoc]
    rw [writeSlots, ih hnext (by omega) (by omega)]
    refine readBytes_congr fun j hj => readByte_writeBytes_outside _ _ _ _ ?_
    have hne : i.toNat % depth ≠ x % depth := hi ▸ slot_ne x hk (Nat.lt_succ_self k) (by omega)
    rw [slice_length]
    omega

theorem readBytes_writeSlots {base depth n : Nat} (hdvd : depth ∣ 2 ^ 32) {i : U32} {bs : List Byte} {m : Memory}
    (hm : cwf 0 m = true) (hn : n ≤ depth) {j : Nat} (hj : j < n) :
    readBytes (writeSlots base depth n i bs m) (base + 256 * ((i + BitVec.ofNat 32 j).toNat % depth)) 256
      = slice bs (256 * j) 256 := by
  induction n generalizing i bs m j with
  | zero => omega
  | succ n ih =>
    rw [writeSlots]
    cases j with
    | zero =>
      have hnext : (i + 1).toNat % depth = (i.toNat + 1) % depth := slot_add hdvd i 1
      rw [show i + BitVec.ofNat 32 0 = i by simp, readBytes_writeSlots_other hdvd hnext Nat.one_pos (by omega)]
      have := readBytes_writeBytes (slice bs 0 256) m (base + 256 * (i.toNat % depth)) hm
      rwa [slice_length] at this
    | succ j =>
      have hindex : i + BitVec.ofNat 32 (j + 1) = (i + 1) + BitVec.ofNat 32 j := by
        rw [BitVec.add_assoc, Nat.add_comm, BitVec.ofNat_add]; rfl
      rw [hindex, ih (writeBytes_wf _ _ _ hm) (by omega) (by omega), slice_drop, Nat.mul_succ, Nat.add_comm]

/-- The depths of R467 divide the index's range. -/
theorem depth_dvd_of_ringsFit {s : State} (h : RingsFit s) (n : Fin 8) :
    (vget s.host.mbs n).depth ∣ 2 ^ 32 ∧ 0 < (vget s.host.mbs n).depth := by
  obtain ⟨-, hdepths, -⟩ := h
  have hmem := hdepths n
  simp only [List.mem_cons, List.not_mem_nil, or_false] at hmem
  obtain hd | hd | hd | hd | hd := hmem <;> rw [hd] <;> decide

/-- A completion in the call board and its mailbox (R469, R472, R473). -/
theorem State.complete_slots {s : State} {mb : Fin 8} {i : U32} {minor opcode tag length : Nat} {journaled : Bool} (r : Reply) :
    (s.complete mb i minor opcode tag length journaled r).host =
      { s.host with
        board := writeSlots (cplBase s.host.mbs mb) (vget s.host.mbs mb).depth (entriesOf (16 + (replyResult r).length))
          (vget s.host.mbs mb).cplWr (cplBytes minor opcode tag (replyStatus r) s.journal.next s.now (replyResult r)) s.host.board
        mbs := vset s.host.mbs mb { vget s.host.mbs mb with
          cplWr := (vget s.host.mbs mb).cplWr + BitVec.ofNat 32 (entriesOf (16 + (replyResult r).length)) } } := by
  cases r <;> rfl

/-- Settles O53: the entries by `readBytes_writeSlots`, the other bytes by `readByte_writeSlots_outside`. -/
theorem completionInRing : Obligations.CompletionInRing := by
  intro s t mb i minor opcode tag length journaled r m bytes n hmb hn hbytes hfit hboard hle ht
  obtain ⟨hdvd, hpos⟩ := depth_dvd_of_ringsFit hfit mb
  subst ht hmb hbytes hn
  rw [State.complete_slots]
  exact ⟨vget_vset_self _ _ _, fun j hj => readBytes_writeSlots hdvd hboard hle hj, fun a ha => readByte_writeSlots_outside hpos ha⟩

/-! ### Occurrences -/

/-- A source after the count of one more occurrence. -/
def EvSource.counted (x : EvSource) : EvSource := { x with occurrences := satAdd 32 x.occurrences 1 }

/-- An occurrence inside a crossing's round trip waits in it (R391). -/
theorem postEvent_crossing {fclk minor trip : Nat} {copied : Bool} {e : Ev} {u : Events} {board : Memory}
    (h : fclk < (cget {} u.sources e.source).tripEnd) :
    ∃ y : EvSource, postEvent fclk minor trip copied e u board = ({ u with sources := cset {} u.sources e.source y }, board)
      ∧ y.masked = (cget {} u.sources e.source).masked ∧ y.outstanding = (cget {} u.sources e.source).outstanding := by
  unfold postEvent
  dsimp only
  rw [if_pos h]
  exact ⟨_, rfl, rfl, rfl⟩

/-- A masked source, or a type that the session's minor does not define, writes no record (R404, R476). -/
theorem postEvent_masked {fclk minor trip : Nat} {copied : Bool} {e : Ev} {u : Events} {board : Memory}
    (h : ¬ fclk < (cget {} u.sources e.source).tripEnd)
    (hmasked : ((cget {} u.sources e.source).masked || decide (minor < evMinor e.source e.type)) = true) :
    ∃ y : EvSource, postEvent fclk minor trip copied e u board = ({ u with sources := cset {} u.sources e.source y }, board)
      ∧ y.masked = (cget {} u.sources e.source).masked ∧ y.outstanding = (cget {} u.sources e.source).outstanding := by
  unfold postEvent
  dsimp only
  rw [if_neg h, if_pos hmasked]
  exact ⟨_, rfl, rfl, rfl⟩

/-- An occurrence joins the record that its source has (R401). -/
theorem postEvent_joins {fclk minor trip : Nat} {copied : Bool} {e : Ev} {u : Events} {board : Memory} {i : U32} {r : EvRec}
    (h : ¬ fclk < (cget {} u.sources e.source).tripEnd)
    (hmasked : ((cget {} u.sources e.source).masked || decide (minor < evMinor e.source e.type)) = false)
    (hr : (cget {} u.sources e.source).outstanding = some (i, r)) :
    ∃ (y : EvSource) (new : EvRec),
      postEvent fclk minor trip copied e u board
        = ({ u with sources := cset {} u.sources e.source y }, writeBytes board (ringAt i) (r.join new).bytes)
      ∧ y.masked = (cget {} u.sources e.source).masked ∧ y.outstanding = some (i, r.join new) := by
  unfold postEvent
  dsimp only
  rw [if_neg h, hmasked, if_neg Bool.false_ne_true, hr]
  exact ⟨_, _, rfl, rfl, rfl⟩

/-- The record that an occurrence opens: its own, with those that waited in the crossing (R391, R398). -/
def Ev.record (e : Ev) (x : EvSource) : EvRec :=
  { stamp := e.stamp, source := e.source, type := e.type, merged := decide (0 < x.mergeCount), count := 1 + x.mergeCount
    data := e.data }

/-- An occurrence opens a record at EVT_WR where its source has none (R400, R401). -/
theorem postEvent_opens {fclk minor trip : Nat} {copied : Bool} {e : Ev} {u : Events} {board : Memory}
    (h : ¬ fclk < (cget {} u.sources e.source).tripEnd)
    (hmasked : ((cget {} u.sources e.source).masked || decide (minor < evMinor e.source e.type)) = false)
    (hr : (cget {} u.sources e.source).outstanding = none) :
    ∃ y : EvSource,
      postEvent fclk minor trip copied e u board
        = ({ u with sources := cset {} u.sources e.source y, wr := u.wr + 1
                    copies := if copied then u.copies ++ [e.record (cget {} u.sources e.source)] else u.copies },
            writeBytes board (ringAt u.wr) (e.record (cget {} u.sources e.source)).bytes)
      ∧ y.masked = (cget {} u.sources e.source).masked
      ∧ y.outstanding = some (u.wr, e.record (cget {} u.sources e.source)) := by
  unfold postEvent
  dsimp only
  rw [if_neg h, hmasked, if_neg Bool.false_ne_true, hr]
  exact ⟨_, rfl, rfl, rfl⟩

/-- What an occurrence does to its source, the ring's index and the call board, in the four cases of R391, R401 and R404. -/
inductive Posted (fclk minor : Nat) (e : Ev) (u : Events) (board : Memory) : Events × Memory → Prop
  | quiet (y : EvSource)
      (hquiet : fclk < (cget {} u.sources e.source).tripEnd ∨ (cget {} u.sources e.source).masked = true
        ∨ minor < evMinor e.source e.type)
      (hmasked : y.masked = (cget {} u.sources e.source).masked)
      (hout : y.outstanding = (cget {} u.sources e.source).outstanding) :
      Posted fclk minor e u board ({ u with sources := cset {} u.sources e.source y }, board)
  | joins (y : EvSource) (i : U32) (r new : EvRec) (hopen : (cget {} u.sources e.source).masked = false)
      (hmasked : y.masked = (cget {} u.sources e.source).masked)
      (hr : (cget {} u.sources e.source).outstanding = some (i, r)) (hout : y.outstanding = some (i, r.join new)) :
      Posted fclk minor e u board
        ({ u with sources := cset {} u.sources e.source y }, writeBytes board (ringAt i) (r.join new).bytes)
  | opens (y : EvSource) (copies : List EvRec) (hopen : (cget {} u.sources e.source).masked = false)
      (hmasked : y.masked = (cget {} u.sources e.source).masked)
      (hr : (cget {} u.sources e.source).outstanding = none)
      (hout : y.outstanding = some (u.wr, e.record (cget {} u.sources e.source))) :
      Posted fclk minor e u board ({ u with sources := cset {} u.sources e.source y, wr := u.wr + 1, copies := copies },
        writeBytes board (ringAt u.wr) (e.record (cget {} u.sources e.source)).bytes)

theorem postEvent_posted (fclk minor trip : Nat) (copied : Bool) (e : Ev) (u : Events) (board : Memory) :
    Posted fclk minor e u board (postEvent fclk minor trip copied e u board) := by
  by_cases h : fclk < (cget {} u.sources e.source).tripEnd
  · obtain ⟨y, hpost, hmasked, hout⟩ := postEvent_crossing (minor := minor) (trip := trip) (copied := copied) (board := board) h
    exact hpost ▸ .quiet y (.inl h) hmasked hout
  · cases hquiet : (cget {} u.sources e.source).masked || decide (minor < evMinor e.source e.type) with
    | true =>
      obtain ⟨y, hpost, hmasked, hout⟩ := postEvent_masked (trip := trip) (copied := copied) (board := board) h hquiet
      exact hpost ▸ .quiet y (.inr (by simpa using hquiet)) hmasked hout
    | false =>
      have hopen : (cget {} u.sources e.source).masked = false := ((Bool.or_eq_false_iff).mp hquiet).1
      cases hr : (cget {} u.sources e.source).outstanding with
      | some p =>
        obtain ⟨y, new, hpost, hmasked, hout⟩ :=
          postEvent_joins (trip := trip) (copied := copied) (board := board) (i := p.1) (r := p.2) h hquiet hr
        exact hpost ▸ .joins y p.1 p.2 new hopen hmasked hr hout
      | none =>
        obtain ⟨y, hpost, hmasked, hout⟩ := postEvent_opens (trip := trip) (copied := copied) (board := board) h hquiet hr
        exact hpost ▸ .opens y _ hopen hmasked hr hout

theorem EvRec.count_le_join {r : EvRec} (x : EvRec) (h : r.count < 2 ^ 32) : r.count ≤ (r.join x).count := by
  simp only [EvRec.join, satAdd]
  omega

/-- Settles O54: the four cases of `postEvent_posted`, with the ring's bytes by `readByte_ring`. -/
theorem eventRecords : Obligations.EventRecords := by
  intro s t e x y hopen hsources hboard ht hx hy
  obtain ⟨n, hraise⟩ : ∃ n, s.raise e = { s with
      evt := (postEvent s.time.fclk (s.host.sess.getD 2) n (copiesSource s.running e.source) e s.evt s.host.board).1
      host := { s.host with
        board := (postEvent s.time.fclk (s.host.sess.getD 2) n (copiesSource s.running e.source) e s.evt s.host.board).2 }
      free := (s.raise e).free } := by
    unfold State.raise
    simp only [hopen, if_true]
    exact ⟨_, rfl⟩
  have hposted := postEvent_posted s.time.fclk (s.host.sess.getD 2) n (copiesSource s.running e.source) e s.evt s.host.board
  generalize postEvent s.time.fclk (s.host.sess.getD 2) n (copiesSource s.running e.source) e s.evt s.host.board = p
    at hraise hposted
  have hring : ∀ a, a < 0x40000 ∨ 0x60000 ≤ a → readByte t.host.board a = readByte s.host.board a :=
    fun a ha => ht ▸ s.raise_board e a ha
  have hevt : t.evt = p.1 := by rw [ht, hraise]
  have hbytes : t.host.board = p.2 := by rw [ht, hraise]
  subst hx hy
  have hself : ∀ z : EvSource, cget {} (cset {} s.evt.sources e.source z) e.source = z :=
    fun z => cget_cset_self _ _ _ _ hsources
  have hother : ∀ (z : EvSource) k, k ≠ e.source → cget {} (cset {} s.evt.sources e.source z) k = cget {} s.evt.sources k :=
    fun z k hk => cget_cset_of_ne _ _ hk.symm z
  have hframe : t = { s with evt := t.evt, host := { s.host with board := t.host.board }, free := t.free } := by
    rw [hevt, hbytes, ht]
    exact hraise
  cases hposted with
  | quiet z hquiet hmasked hout =>
    refine ⟨hevt ▸ hframe, fun k hk => ?_, ?_, hring, fun i r hr _ => ⟨by rw [hevt], r, ?_, rfl, rfl, rfl, rfl, le_rfl⟩,
      fun _ => ⟨by rw [hevt], by rw [hevt], hbytes, ?_⟩, fun _ hunmasked htrip hminor => ?_⟩
    · rw [hevt, hother z k hk]
    · rw [hevt, hself, hmasked]
    · rw [hevt, hself, hout, hr]
    · rw [hevt, hself, hout]
    · obtain h | h | h := hquiet
      · omega
      · rw [hunmasked] at h; cases h
      · omega
  | joins z i r new hopens hmasked hr hout =>
    refine ⟨hevt ▸ hframe, fun k hk => ?_, ?_, hring, fun j q hq hcount => ⟨by rw [hevt], r.join new, ?_⟩,
      fun h => ?_, fun h => ?_⟩
    · rw [hevt, hother z k hk]
    · rw [hevt, hself, hmasked]
    · obtain ⟨rfl, rfl⟩ : i = j ∧ r = q := by simpa using hr.symm.trans hq
      exact ⟨by rw [hevt, hself, hout], rfl, rfl, rfl, rfl, EvRec.count_le_join new hcount⟩
    · rw [hopens] at h; cases h
    · rw [hr] at h; cases h
  | opens z copies hopens hmasked hr hout =>
    refine ⟨hevt ▸ hframe, fun k hk => ?_, ?_, hring, fun j q hq _ => ?_, fun h => ?_,
      fun _ _ _ _ => ⟨e.record (cget {} s.evt.sources e.source), ?_, by rw [hevt], rfl, rfl, rfl, rfl, rfl, rfl, rfl, ?_⟩⟩
    · rw [hevt, hother z k hk]
    · rw [hevt, hself, hmasked]
    · rw [hr] at hq; cases hq
    · rw [hopens] at h; cases h
    · rw [hevt, hself, hout]
    · have hread := readBytes_writeBytes (e.record (cget {} s.evt.sources e.source)).bytes s.host.board (ringAt s.evt.wr) hboard
      rw [EvRec.bytes_length] at hread
      dsimp only at hbytes
      rw [hbytes, hread]

/-! ### The happenings of link tests -/

/-- Settles O36: each happening's condition holds, and its effect is its branch. -/
theorem linkTestsComplete : Obligations.LinkTestsComplete := by
  intro s i l hl
  subst hl
  refine ⟨fun e counts heye hpoints => ?_, fun lane t c htest hc hrx hlane hunlocked hbits => ?_,
    fun lane t c errors bits htest hc hlocked herrors hbits => ?_⟩
  · change execEyeDone i counts s = _
    unfold execEyeDone
    simp only [heye, if_pos hpoints]
    rfl
  · subst hc
    change execPatternLock i lane s = _
    unfold execPatternLock
    simp only [htest]
    rw [if_pos ⟨by rw [Link.checks, hrx, hlane]; rfl, hunlocked, hbits⟩]
  · subst hc
    change execPatternLockLost i lane errors bits s = _
    unfold execPatternLockLost
    simp only [htest]
    rw [if_pos ⟨hlocked, herrors, hbits⟩]

end Sys2Proof.Machine
end

section
/-! PROOFS. The first copy of a line stands (R139 to R142). -/

namespace Sys2Proof.Machine

open Sys2Proof Sys2Proof.Safety

/-! ### Cells written one after another -/

theorem cget_foldl_cset_of_ne {α β : Type} [DecidableEq α] {d : α} {f : β → Nat} {v : β → α} {l : List β} {m : Cells α} {k : Nat}
    (h : ∀ q ∈ l, f q ≠ k) : cget d (l.foldl (fun a q => cset d a (f q) (v q)) m) k = cget d m k := by
  induction l generalizing m with
  | nil => rfl
  | cons q l ih =>
    rw [List.foldl_cons, ih fun r hr => h r (List.mem_cons_of_mem q hr), cget_cset_of_ne d m (h q List.mem_cons_self)]

/-- Cells set to true read true, and the others as before. -/
theorem cget_foldl_set {β : Type} {f : β → Nat} {l : List β} {m : Cells Bool} (hm : cwf false m = true) (k : Nat) :
    cget false (l.foldl (fun a x => cset false a (f x) true) m) k = true ↔ cget false m k = true ∨ ∃ x ∈ l, f x = k := by
  induction l generalizing m with
  | nil => simp
  | cons x l ih =>
    rw [List.foldl_cons, ih (cwf_cset false m (f x) true hm), cget_cset false m (f x) k true hm]
    by_cases h : f x = k <;> simp [h]

/-! ### A line's new pixels -/

/-- A line's samples lie in its pixels, and each is of one of three components (R349). -/
theorem lineSamples_mem {m : LineMsg} {q : Nat × Nat × Nat} (h : q ∈ lineSamples m) :
    m.firstPixel ≤ q.1 ∧ q.1 < m.firstPixel + m.pixelCount ∧ q.2.1 < 3 := by
  simp only [lineSamples, List.mem_flatMap, List.mem_range] at h
  obtain ⟨i, hi, hq⟩ := h
  split at hq
  case isTrue =>
    simp only [List.mem_cons, List.not_mem_nil, or_false] at hq
    rcases hq with rfl | rfl | rfl | rfl | rfl | rfl <;> dsimp only <;> omega
  case isFalse =>
    split at hq <;> simp only [List.mem_cons, List.not_mem_nil, or_false] at hq
    · rcases hq with rfl | rfl <;> dsimp only <;> omega
    · rcases hq with rfl | rfl | rfl | rfl <;> dsimp only <;> omega

/-- Pixel x of a line that a picture takes: offered, admitted, and then there. -/
def Offers (m : LineMsg) (ok : Nat → Bool) (x y : Nat) : Prop :=
  y = m.line ∧ ok x = true ∧ m.firstPixel ≤ x ∧ x < m.firstPixel + m.pixelCount

theorem Picture.take_has {p : Picture} {m : LineMsg} {ok : Nat → Bool} {x y : Nat} (hm : m.firstPixel + m.pixelCount ≤ 8192)
    (hgot : cwf false p.got = true) (hx : x < 8192) :
    (p.take m ok).has x y = true ↔ p.has x y = true ∨ Offers m ok x y := by
  unfold Picture.take Picture.has
  dsimp only
  rw [cget_foldl_set hgot]
  refine or_congr_right' fun hhas => ⟨?_, ?_⟩
  · rintro ⟨x', hx', hkey⟩
    simp only [List.mem_filter, List.mem_map, List.mem_range, Bool.and_eq_true] at hx'
    obtain ⟨⟨i, hi, rfl⟩, hok, -⟩ := hx'
    obtain ⟨rfl, rfl⟩ : y = m.line ∧ x = m.firstPixel + i := by omega
    exact ⟨rfl, hok, by omega, by omega⟩
  · rintro ⟨rfl, hok, hfirst, hlast⟩
    refine ⟨x, ?_, rfl⟩
    simp only [List.mem_filter, List.mem_map, List.mem_range, Bool.and_eq_true]
    exact ⟨⟨x - m.firstPixel, by omega, by omega⟩, hok, by simpa [Picture.has] using hhas⟩

/-- A pixel that is there keeps its samples (R142). -/
theorem Picture.take_at {p : Picture} {m : LineMsg} {ok : Nat → Bool} {x y k : Nat} (hm : m.firstPixel + m.pixelCount ≤ 8192)
    (hgot : cwf false p.got = true) (hx : x < 8192) (hk : k < 3) (hhas : p.has x y = true) :
    (p.take m ok).at x y k = p.at x y k := by
  unfold Picture.at
  rw [if_pos hhas, if_pos ((Picture.take_has hm hgot hx).mpr (.inl hhas))]
  refine cget_foldl_cset_of_ne fun q hq hkey => ?_
  simp only [List.mem_filter, Bool.and_eq_true, Bool.not_eq_true'] at hq
  obtain ⟨hq, -, hnew⟩ := hq
  obtain ⟨hfirst, hlast, hcomponent⟩ := lineSamples_mem hq
  unfold pxAt at hkey
  obtain ⟨rfl, rfl⟩ : m.line = y ∧ q.1 = x := by omega
  rw [hhas] at hnew
  cases hnew

/-! ### A line offered to a context -/

theorem Picture.forFrame_frame (p : Picture) (n : Nat) : (p.forFrame n).frame = some n := by
  unfold Picture.forFrame
  split
  · assumption
  · rfl

theorem Picture.forFrame_of_frame {p : Picture} {n : Nat} (h : p.frame = some n) : p.forFrame n = p := by
  unfold Picture.forFrame
  rw [if_pos h]

/-- The picture that a context has for frame n. -/
def State.pictureOf (s : State) (c : Ctx) (n : Nat) : Picture := (cget {} s.pictures (picKey c.context n)).forFrame n

/-- A state whose context has taken a line's new pixels. -/
def State.withLine (s : State) (p : Production) (c : Ctx) (n : Nat) (m : LineMsg) : State :=
  let pic := (s.pictureOf c n).take m (s.inWindow p c n (m.line / 64))
  { s with pictures := cset {} s.pictures (picKey c.context n) pic }

/-- What a line brings: nothing, copies only, or a new pixel (R139 to R142). -/
inductive State.Brings (s : State) (p : Production) (c : Ctx) (n : Nat) (m : LineMsg) : State → Prop
  | nothing (h : c.height ≤ m.line ∨ ∀ x, m.firstPixel ≤ x → x < m.firstPixel + m.pixelCount →
      s.inWindow p c n (m.line / 64) x = false) : s.Brings p c n m s
  | copies (hline : m.line < c.height) (h : ∀ x, m.firstPixel ≤ x → x < m.firstPixel + m.pixelCount →
      s.inWindow p c n (m.line / 64) x = true → (s.pictureOf c n).has x m.line = true) :
      s.Brings p c n m (s.setCtx c.context { s.ctxSt c.context with linesDup := satAdd 32 (s.ctxSt c.context).linesDup 1 })
  | pixels (hline : m.line < c.height) (h : ¬ ∀ x, m.firstPixel ≤ x → x < m.firstPixel + m.pixelCount →
      s.inWindow p c n (m.line / 64) x = true → (s.pictureOf c n).has x m.line = true) :
      s.Brings p c n m (s.withLine p c n m)

theorem State.ctxLine_brings (s : State) (p : Production) (c : Ctx) (n : Nat) (m : LineMsg) :
    s.Brings p c n m (s.ctxLine p c n m true) := by
  have hall : (((List.range m.pixelCount).map (m.firstPixel + ·)).filter (s.inWindow p c n (m.line / 64))).all
        (fun x => (s.pictureOf c n).has x m.line) = true ↔
      ∀ x, m.firstPixel ≤ x → x < m.firstPixel + m.pixelCount → s.inWindow p c n (m.line / 64) x = true →
        (s.pictureOf c n).has x m.line = true := by
    simp only [List.all_eq_true, List.mem_filter, List.mem_map, List.mem_range]
    refine ⟨fun h x hfirst hlast hopen => h x ⟨⟨x - m.firstPixel, by omega, by omega⟩, hopen⟩, ?_⟩
    rintro h x ⟨⟨i, hi, rfl⟩, hopen⟩
    exact h _ (by omega) (by omega) hopen
  have hnone : (((List.range m.pixelCount).map (m.firstPixel + ·)).filter (s.inWindow p c n (m.line / 64))) = [] →
      ∀ x, m.firstPixel ≤ x → x < m.firstPixel + m.pixelCount → s.inWindow p c n (m.line / 64) x = false := by
    intro h x hfirst hlast
    rw [List.filter_eq_nil_iff] at h
    simpa using h x (List.mem_map.mpr ⟨x - m.firstPixel, List.mem_range.mpr (by omega), by omega⟩)
  have hbrings : s.lineBrings p c n m = if (((List.range m.pixelCount).map (m.firstPixel + ·)).filter
        (s.inWindow p c n (m.line / 64))) = [] ∨ c.height ≤ m.line then 0
      else if (((List.range m.pixelCount).map (m.firstPixel + ·)).filter (s.inWindow p c n (m.line / 64))).all
        (fun x => (s.pictureOf c n).has x m.line) then 1 else 2 := rfl
  unfold State.ctxLine
  dsimp only
  rw [hbrings]
  by_cases hempty : (((List.range m.pixelCount).map (m.firstPixel + ·)).filter
      (s.inWindow p c n (m.line / 64))) = [] ∨ c.height ≤ m.line
  · rw [if_pos hempty]
    exact .nothing (hempty.symm.imp id hnone)
  · have hline : m.line < c.height := by omega
    rw [if_neg hempty]
    by_cases hcopies : (((List.range m.pixelCount).map (m.firstPixel + ·)).filter (s.inWindow p c n (m.line / 64))).all
        (fun x => (s.pictureOf c n).has x m.line) = true
    · rw [if_pos hcopies]
      exact .copies hline (hall.mp hcopies)
    · rw [if_neg hcopies]
      rw [if_neg (by simp)]
      exact .pixels hline (hall.not.mp hcopies)

/-- Settles O55: the three cases of `State.ctxLine_brings`, with a picture that takes pixels by `Picture.take_has` and
`Picture.take_at`. -/
theorem firstCopyStands : Obligations.FirstCopyStands := by
  intro s t p c n m pic new isOpen hm hopen hpic ht hnew hpictures hgot hpx
  have hopen' : isOpen = s.inWindow p c n (m.line / 64) := hopen
  have hpic' : pic = s.pictureOf c n := hpic
  have hnew' : new = t.pictureOf c n := hnew
  have hbrings := ht ▸ s.ctxLine_brings p c n m
  clear hopen hpic hnew ht hpx
  subst hopen' hpic' hnew'
  cases hbrings with
  | nothing h =>
    refine ⟨fun x y k _ _ hhas => ⟨hhas, rfl⟩, fun _ => rfl, fun _ => rfl, fun x hfirst hlast hopen hline _ => ?_,
      fun hline x hfirst hlast hopen => ?_, fun y x hhas _ => .inl hhas⟩
    all_goals
      obtain h | h := h
      · omega
      · rw [h x hfirst hlast] at hopen; cases hopen
  | copies hline h =>
    exact ⟨fun x y k _ _ hhas => ⟨hhas, rfl⟩, fun hbeyond => absurd hline (Nat.not_lt.mpr hbeyond), fun _ => rfl,
      fun _ _ _ _ _ _ => rfl, fun _ x hfirst hlast hopen => h x hfirst hlast hopen, fun y x hhas _ => .inl hhas⟩
  | pixels hline h =>
    have htaken : (s.withLine p c n m).pictureOf c n = (s.pictureOf c n).take m (s.inWindow p c n (m.line / 64)) := by
      unfold State.pictureOf State.withLine
      rw [cget_cset_self _ _ _ _ hpictures]
      exact Picture.forFrame_of_frame (Picture.forFrame_frame _ n)
    rw [htaken]
    exact ⟨fun x y k hx hk hhas => ⟨(Picture.take_has hm hgot hx).mpr (.inl hhas), Picture.take_at hm hgot hx hk hhas⟩,
      fun hbeyond => absurd hline (Nat.not_lt.mpr hbeyond), fun hall => absurd hall h, fun _ _ _ _ _ hall => absurd hall h,
      fun _ x hfirst hlast hopen => (Picture.take_has hm hgot (by omega)).mpr (.inr ⟨rfl, hopen, hfirst, hlast⟩),
      fun y x hhas hx => (Picture.take_has hm hgot hx).mp hhas⟩

end Sys2Proof.Machine
end

section
/-! PROOFS. Egress (R277 to R287), flits (R320 to R331), and house time and events (R345 to R347, R393, R394, R401). -/

namespace Sys2Proof.Machine

open Sys2Proof Sys2Proof.Safety

/-! ### Egress -/

/-- Settles O33: each happening's condition holds, and its effect is its branch. -/
theorem egressCompletes : Obligations.EgressCompletes := by
  intro s
  refine ⟨fun p u w hup hrunning hrole hfenced hsel hu hw => ?_, fun p hrunning hmicro => ?_, fun p hrunning hgcl => ?_,
    fun link q epoch next hmsg hrole hq => ?_⟩
  · subst hw hu
    change execEgressSelect s = _
    unfold execEgressSelect
    rewrite [if_neg (by simp [hup, hrunning, hrole, hfenced, hsel])]
    rfl
  · change execShaperRefill s = _
    unfold execShaperRefill
    dsimp only
    rw [if_neg (by simp [hrunning, hmicro])]
  · change execGateEntryChange s = _
    unfold execGateEntryChange
    simp only [hrunning, hgcl, if_false]
  · change execEgressAck link q epoch next s = _
    unfold execEgressAck
    rw [if_neg (by rw [hmsg]; exact Bool.true_eq_false_eq_False)]
    dsimp only
    rw [if_pos ⟨hrole, hq⟩]

/-! ### Flits -/

@[simp] theorem Link.violate_nil (l : Link) : l.violate [] = l := rfl

@[simp] theorem Link.askReplay_badRun (l : Link) : l.askReplay.badRun = l.badRun := by
  unfold Link.askReplay
  split <;> rfl

@[simp] theorem Link.descramble_badRun (l : Link) (bits : BitVec 512) : (l.descramble bits).1.badRun = l.badRun := rfl

/-- A bad flit without code violations asks for a replay (R323). -/
theorem exec_flitReceive_bad {s : State} {i : Fin 12} {bits : BitVec 512}
    (hstate : (vget s.links i).state = 8 ∨ (vget s.links i).state = 9)
    (hbad : flitGood ((vget s.links i).descramble bits).2 = false) :
    exec (.flitReceive i bits [] []) s =
      .next (let t := s.setLink i (Link.askReplay
          { ((vget s.links i).descramble bits).1 with badRun := (vget s.links i).badRun + 1 })
        if 16 ≤ (vget s.links i).badRun + 1 then t.retrain i 1 else t) := by
  change execFlitReceive i bits [] [] s = _
  unfold execFlitReceive
  dsimp only
  rw [if_neg (by omega)]
  simp only [Link.violate_nil, hbad, ne_eq, not_true_eq_false, decide_false, Bool.not_false, Bool.or_true, if_true,
    Link.descramble_badRun, Link.askReplay_badRun, List.map_nil, List.append_nil, List.foldl_nil, State.raiseAll_nil,
    Bool.true_eq_false, false_and, if_false]

/-- A good flit without code violations is taken (R322, R323). -/
theorem exec_flitReceive_good {s : State} {i : Fin 12} {bits : BitVec 512} {d : Link × BitVec 512} {r : Link × List (Nat × Nat)}
    (hstate : (vget s.links i).state = 8 ∨ (vget s.links i).state = 9) (hd : d = (vget s.links i).descramble bits)
    (hgood : flitGood d.2 = true) (hr : r = d.1.takeGood d.2 s.time.fclk s.time.tick) (hrun : r.1.badRun < 16)
    (hnak : d.1.nakExhausts d.2 s.time.fclk = false) :
    exec (.flitReceive i bits [] []) s = .next ((s.setLink i r.1).raiseAll (r.2.map (fun u =>
      s.ev (632 + i.val) 0x0718 [(2, (d.2.extractLsb' 24 3).toNat), (1, u.1), (4, u.2)]))) := by
  change execFlitReceive i bits [] [] s = _
  unfold execFlitReceive
  dsimp only
  rw [if_neg (by omega), ← hd]
  simp only [Link.violate_nil, hgood, ne_eq, not_true_eq_false, decide_false, Bool.not_true, Bool.or_false,
    Bool.false_eq_true, if_false, ← hr, hnak, and_false, List.map_nil, List.nil_append, List.foldl_nil, Nat.not_le.mpr hrun]

/-- Settles O34: flits by the two lemmas above, the other happenings by their branches. -/
theorem flitsComplete : Obligations.FlitsComplete := by
  intro s i l hl
  subst hl
  refine ⟨fun bits d hstate hd hbad hrun => ?_, fun bits d hstate hd hbad hrun => ?_,
    fun bits d r hstate hd hgood hr hrun hnak => exec_flitReceive_good hstate hd hgood hr hrun hnak, fun hstate => ?_,
    fun hstate hreplay hack hmay => ?_, fun hstate hreplay hack hfour hfrom => ?_,
    fun vc t type body rest hwait hqueue htime hstarved => ?_, fun hlock => ?_⟩
  · subst hd
    rw [exec_flitReceive_bad hstate hbad]
    dsimp only
    rw [if_neg (by omega)]
  · subst hd
    rw [exec_flitReceive_bad hstate hbad, hrun]
    rfl
  · change execFlitSend i s = _
    unfold execFlitSend
    dsimp only
    rw [if_pos hstate]
  · change execReplayTimeout i s = _
    unfold execReplayTimeout
    dsimp only
    rw [if_pos ⟨hstate, hreplay, hack⟩, if_neg (by simp [Link.exhausted]; omega)]
  · change execReplayTimeout i s = _
    unfold execReplayTimeout
    dsimp only
    rw [if_pos ⟨hstate, hreplay, hack⟩, if_pos (by simp [Link.exhausted, hfour, hfrom])]
  · change execCreditStarved i vc s = _
    unfold execCreditStarved
    simp only [hwait, hqueue]
    rw [if_pos ⟨htime, hstarved⟩]
  · change execCkLost i s = _
    unfold execCkLost
    dsimp only
    rw [if_pos hlock]

/-! ### House time -/

@[simp] theorem State.review_time (s : State) : s.review.time = s.time := by simp [State.review]

theorem State.setTime_time (s : State) (ns cause : Nat) :
    (s.setTime ns cause).time = { s.time with tick := tickOf ns, valid := true } := by
  unfold State.setTime
  dsimp only
  split <;> simp

theorem State.edgeError_time (s : State) (capturePs : Int) (sec : Nat) : (s.edgeError capturePs sec).time = { s.time with
    errorPs := capturePs - 1000000000000 * (sec : Int)
    alarm := decide ((s.time.alarmNs : Int) * 1000 ≤ |capturePs - 1000000000000 * (sec : Int)|) } := by
  simp [State.edgeError]

/-- What an edge captures, in ps: the value set, or the present at 10 ps (R393, R394). -/
def State.captures (s : State) (ps : Nat) : Nat :=
  match s.edgeSets with
  | some v => 1250 * tickOf v.1
  | none => 1250 * s.time.tick + 10 * (ps % 1250 / 10)

/-- The time after an edge, before its second is looked at. -/
def State.timeAtEdge (s : State) (ps : Nat) : HouseTime :=
  let h : HouseTime := { s.time with
    tod := none, ppsPresent := true, ppsLost := false, lastPps := s.captures ps / 1000, lastPpsAt := s.time.fclk
    setAtEdge := if s.edgeSets.isSome then none else s.time.setAtEdge
    prevSecond := (edgeSecond s.time.tod s.time.prevSecond s.busyWithProduction).1
    todMissing := if (edgeSecond s.time.tod s.time.prevSecond s.busyWithProduction).2.1
      then satAdd 32 s.time.todMissing 1 else s.time.todMissing }
  match s.edgeSets with
  | some v => { h with tick := tickOf v.1, valid := true }
  | none => h

theorem State.timeAtEdge_present (s : State) (ps : Nat) : (s.timeAtEdge ps).ppsPresent = true
    ∧ (s.timeAtEdge ps).ppsLost = false ∧ (s.timeAtEdge ps).lastPpsAt = s.time.fclk ∧ (s.timeAtEdge ps).tod = none := by
  unfold State.timeAtEdge
  cases s.edgeSets <;> exact ⟨rfl, rfl, rfl, rfl⟩

/-- An edge of PPS_IN on house time: the edge, and the error against its second where it has one (R394). -/
theorem exec_ppsEdge (ps : Nat) (s : State) : ∃ u, exec (.ppsEdge ps) s = .next u ∧ u.time =
    match (edgeSecond s.time.tod s.time.prevSecond s.busyWithProduction).1 with
    | none => s.timeAtEdge ps
    | some sec => { s.timeAtEdge ps with
        errorPs := (s.captures ps : Int) - 1000000000000 * (sec : Int)
        alarm := decide ((s.time.alarmNs : Int) * 1000 ≤ |(s.captures ps : Int) - 1000000000000 * (sec : Int)|) } := by
  refine ⟨_, rfl, ?_⟩
  unfold State.timeAtEdge State.captures
  cases hsets : s.edgeSets <;> cases hsec : (edgeSecond s.time.tod s.time.prevSecond s.busyWithProduction).1 <;>
    simp [State.edgeError_time, State.setTime_time]

/-- An edge that sets nothing captures the present and leaves house time running (R394). -/
theorem exec_ppsEdge_unset {s : State} (hsets : s.edgeSets = none) (ps : Nat) : ∃ u, exec (.ppsEdge ps) s = .next u
    ∧ u.time.tick = s.time.tick ∧ u.time.valid = s.time.valid
    ∧ u.time.lastPps = (1250 * s.time.tick + 10 * (ps % 1250 / 10)) / 1000 := by
  obtain ⟨u, hexec, htime⟩ := exec_ppsEdge ps s
  refine ⟨u, hexec, ?_⟩
  rw [htime]
  unfold State.timeAtEdge State.captures
  rw [hsets]
  split <;> exact ⟨rfl, rfl, rfl⟩

/-- An edge that sets house time steps it to its value (R393). -/
theorem exec_ppsEdge_sets {s : State} {ns cause : Nat} (hsets : s.edgeSets = some (ns, cause)) (ps : Nat) :
    ∃ u, exec (.ppsEdge ps) s = .next u ∧ u.time.tick = tickOf ns ∧ u.time.valid = true ∧ u.time.setAtEdge = none := by
  obtain ⟨u, hexec, htime⟩ := exec_ppsEdge ps s
  refine ⟨u, hexec, ?_⟩
  rw [htime]
  unfold State.timeAtEdge
  rw [hsets]
  split <;> exact ⟨rfl, rfl, rfl⟩

/-- The error of an edge whose second a distribution link named and that sets nothing (R394). -/
theorem exec_ppsEdge_error {s : State} {sec : Nat} (hsets : s.edgeSets = none)
    (hsec : (edgeSecond s.time.tod s.time.prevSecond s.busyWithProduction).1 = some sec) (ps : Nat) :
    ∃ u, exec (.ppsEdge ps) s = .next u
      ∧ u.time.errorPs = ((1250 * s.time.tick + 10 * (ps % 1250 / 10) : Nat) : Int) - 1000000000000 * (sec : Int)
      ∧ u.time.alarm = decide ((s.time.alarmNs : Int) * 1000 ≤ |u.time.errorPs|) := by
  obtain ⟨u, hexec, htime⟩ := exec_ppsEdge ps s
  refine ⟨u, hexec, ?_⟩
  rw [htime, hsec]
  unfold State.captures
  rw [hsets]
  exact ⟨rfl, rfl⟩

/-- Settles O41: the edge by the lemmas above, the other happenings by their branches. -/
theorem timeAndEventsComplete : Obligations.TimeAndEventsComplete := by
  intro s
  refine ⟨fun ps => ?_, fun ps hsets => exec_ppsEdge_unset hsets ps, fun ps t hset hidle => ?_,
    fun ps sec hset hinvalid htod hidle => ?_, fun ps sec hsets htod hprev => ?_, fun hlost hsince => ?_,
    fun link second hmsg hrole htod => ?_, fun v => rfl, fun hunread hdue => ?_⟩
  · obtain ⟨u, hexec, htime⟩ := exec_ppsEdge ps s
    refine ⟨u, hexec, ?_⟩
    rw [htime]
    split <;> exact s.timeAtEdge_present ps
  · exact exec_ppsEdge_sets (cause := 1) (by simp [State.edgeSets, hidle, hset]) ps
  · obtain ⟨u, hexec, htick, hvalid, -⟩ :=
      exec_ppsEdge_sets (s := s) (ns := sec * 1000000000) (cause := 0) (by simp [State.edgeSets, hidle, hset, hinvalid, htod]) ps
    exact ⟨u, hexec, htick, hvalid⟩
  · refine exec_ppsEdge_error hsets ?_ ps
    obtain hnone | ⟨hsome, hpos⟩ := hprev
    · rw [htod, hnone]; rfl
    · rw [htod, hsome]
      unfold edgeSecond
      dsimp only
      rw [if_pos (by omega)]
  · change execPpsLost s = _
    unfold execPpsLost
    rw [if_pos ⟨hlost, hsince⟩]
  · change execTimeOfDay link second true s = _
    unfold execTimeOfDay
    dsimp only
    rw [show boolNat true = 1 from rfl, if_pos hmsg, if_pos ⟨rfl, hrole, htod⟩]
  · change execEventNotify s = _
    unfold execEventNotify
    dsimp only
    rw [if_pos ⟨hunread, hdue⟩]

end Sys2Proof.Machine
end

section
/-! PROOFS. The sequencer's control words (R34, R64 to R68, R85 to R90), and reads, writes, substitution and cue memory faults (R73 to R95). -/

namespace Sys2Proof.Machine

open Sys2Proof Sys2Proof.Safety

/-! ### The engine behind the operations of a slot -/

@[simp] theorem State.review_engines (s : State) : s.review.engines = s.engines := by simp [State.review]

@[simp] theorem State.publish_engines (s : State) (c tile : Nat) (r : CtxRec) : (s.publish c tile r).engines = s.engines := rfl

/-- The run of floor blocks that ends is forgotten (R87). -/
theorem State.endRun_engine (s : State) (e : Fin 16) :
    vget (s.endRun e).engines e = { vget s.engines e with q := { (vget s.engines e).q with run := none } } := by
  unfold State.endRun
  dsimp only
  split
  next hnone => rw [← hnone]
  next => simp

/-- Which slot an engine is in, and where it stands there: what a slot's start sets and the work on its record leaves. -/
def Seq.place (q : Seq) : Bool × Nat × Nat × Nat × Nat × Nat := (q.inSlot, q.slot, q.frame, q.lateness, q.due, q.pc)

theorem Engine.takeRecord_q (g : Engine) : g.takeRecord.q = g.q := by
  unfold Engine.takeRecord
  split <;> rfl

theorem State.frameStart_place (s : State) (e : Fin 16) (j : Job) :
    (vget (s.frameStart e j).engines e).q.place = (vget s.engines e).q.place := by
  unfold State.frameStart
  simp [Engine.setRecord, Seq.place]

theorem State.sourceBack_place (s : State) (e : Fin 16) (j : Job) :
    (vget (s.sourceBack e j).engines e).q.place = (vget s.engines e).q.place := by
  unfold State.sourceBack
  dsimp only
  split
  · split
    · simp [Engine.setRecord]
    · rfl
  · rfl

/-- The place at which a slot starts (R66, R68). -/
theorem Engine.startSlot_place (g : Engine) (e : Nat) (p : SlotPlace) (slot cycle : Nat) :
    (g.startSlot e p slot cycle).q.place
      = (true, slot, p.frame, 0, 2 * p.mark + p.slot.offset, (p.tab.programs.getD p.slot.program {}).entry) := rfl

/-- A slot starts for an engine that is in none (R34, R66, R68). -/
theorem exec_slotStart {s : State} {e : Fin 16} {slot : Nat} {p : SlotPlace} (hplace : s.slotPlace e slot = some p)
    (hout : (vget s.engines e).q.inSlot = false) (hrun : s.slotsRun p.ctx p.frame = true) :
    ∃ u, exec (.slotStart e slot) s = .next u ∧ (vget u.engines e).q.place
      = (true, slot, p.frame, 0, 2 * p.mark + p.slot.offset, (p.tab.programs.getD p.slot.program {}).entry) := by
  refine ⟨_, rfl, ?_⟩
  rw [hplace]
  dsimp only
  rw [if_neg (by simp [hout, hrun])]
  generalize (ite (p.ctx.mode = 1) (State.takeChange _ e p.ctx _) _ : State) = s2
  generalize hg : Engine.startSlot _ _ _ _ _ = g1
  have hstart : g1.q.place = (true, slot, p.frame, 0, 2 * p.mark + p.slot.offset, (p.tab.programs.getD p.slot.program {}).entry) :=
    hg ▸ Engine.startSlot_place _ _ _ _ _
  split
  · rw [State.setEngine_engine, hstart]
  · split
    · rw [State.frameStart_place, State.setEngine_engine, Engine.takeRecord_q, hstart]
    · split
      · rw [State.setEngine_engine, hstart]
      · rw [State.sourceBack_place, State.setEngine_engine, hstart]

/-! ### Control words -/

/-- The engine behind a LATE word (R85 to R87, R89): what the word decides, over the run that has ended. -/
theorem exec_sqLate {s t : State} {e : Fin 16} {a d : Nat} {j : Job} {g : Engine} {floor : Bool}
    (hcontrol : s.control e 7 a (some d) = (t, some (j, g))) (hcalls : g.q.calls.length < 8)
    (hfloor : floor = ((g.q.flag || decide (j.slot.thetaF ≤ g.q.lateness)) && !decide (g.q.lateness < j.slot.thetaR))) :
    ∃ u, exec (.sqLate e a d) s = .next u ∧ (vget u.engines e).q.flag = floor ∧ (vget u.engines e).q.floor = floor
      ∧ (vget u.engines e).q.pc = (if floor then (j.sq d).alt else (j.sq d).target)
      ∧ (vget u.engines e).q.calls = (a + 1) :: g.q.calls ∧ (vget u.engines e).q.inBlock = true
      ∧ (vget u.engines e).n.latenessMax = max g.n.latenessMax g.q.lateness
      ∧ (∀ c h, g.q.lateSeen = false → g.incoming = some (c, h) → (vget u.engines e).storeHalf = h) := by
  refine ⟨_, rfl, ?_⟩
  rw [hcontrol]
  dsimp only
  rw [if_neg (by omega), ← hfloor]
  cases floor
  · simp only [Bool.false_eq_true, if_false, State.setEngine_engine, State.endRun_engine, true_and]
    exact fun c h hseen hincoming => by rw [hseen, hincoming]
  · simp only [if_true, State.setEngine_engine, true_and]
    exact fun c h hseen hincoming => by rw [hseen, hincoming]

/-- A write that issues leaves its engine's record and search caches as they were. -/
theorem State.issueWrite_engine (s : State) (e : Fin 16) (context cls address bytes : Nat) :
    ∃ n, vget (s.issueWrite e context cls address bytes).1.engines e = { vget s.engines e with n := n } := by
  unfold State.issueWrite
  split
  · exact ⟨(vget s.engines e).n, by simp [State.noteQueues]⟩
  · exact ⟨{ (vget s.engines e).n with dropped := satAdd 32 (vget s.engines e).n.dropped 1 }, by simp⟩

/-- What CHG leaves of the search caches and of the record on its way (R89, R90). -/
def Engine.changed (g : Engine) : Option (Nat × Fin 2) × Fin 2 × Option Nat × Cells FineWin × Cells ColSlot :=
  (g.incoming, g.storeHalf, g.recTag, g.windows, g.slots)

/-- A read that issues changes neither the record on its way nor search caches that are empty. -/
theorem State.issueRead_changed {s : State} {e : Fin 16} (tag : Nat) (parts : List (Nat × Nat)) (d : DrDesc)
    (hwindows : (vget s.engines e).windows = []) (hslots : (vget s.engines e).slots = []) :
    (vget (s.issueRead e tag parts d).engines e).changed = (vget s.engines e).changed := by
  have hread : ∀ (g : Engine) read ok, g.windows = [] → g.slots = [] → (g.readDone read ok).changed = g.changed := by
    intro g read ok hw hs
    simp [Engine.readDone, Engine.changed, hw, hs]
  have hland : ∀ (g : Engine) tags tag bytes d, (Engine.landIn { g with tags := tags } tag bytes d).changed = g.changed := by
    intro g tags tag bytes d
    unfold Engine.landIn
    split <;> rfl
  change (vget (s.setEngine e _).engines e).changed = _
  rw [State.setEngine_engine, hland]
  split
  · rfl
  · exact hread _ _ _ hwindows hslots

/-- The outgoing record's write leaves the engine its record store's half (R90). -/
theorem exec_sqChg {s t : State} {e : Fin 16} {a d : Nat} {j : Job} {g : Engine}
    (hcontrol : s.control e 6 a (some d) = (t, some (j, g))) : ∃ u, exec (.sqChg e a d) s = .next u
      ∧ (vget u.engines e).changed = (some (j.ctx.context, 1 - g.storeHalf), g.storeHalf, j.tab.recordTag, [], []) := by
  refine ⟨_, rfl, ?_⟩
  rw [hcontrol]
  simp -zeta only []
  extract_lets c out g1 was half tag s1 s2
  have hhalf : (vget out.engines e).storeHalf = g.storeHalf := by
    unfold out
    split
    · rw [State.setEngine_engine]
    next k r _ =>
      obtain ⟨n, hwrite⟩ := (t.setEngine e g).issueWrite_engine e k 4 (j.prod.region 1 k) 65536
      rw [State.setEngine_engine] at hwrite
      have hkept : (vget ((t.setEngine e g).issueWrite e k 4 (j.prod.region 1 k) 65536).1.engines e).storeHalf = g.storeHalf :=
        (congrArg Engine.storeHalf hwrite).trans rfl
      extract_lets w
      split
      · exact hkept
      · rw [State.setEngine_engine]
        exact hkept
  have hs1 : (vget s1.engines e).changed = (some (j.ctx.context, 1 - g.storeHalf), g.storeHalf, j.tab.recordTag, [], []) := by
    change (vget (out.setEngine e _).engines e).changed = _
    rw [State.setEngine_engine, ← hhalf]
    rfl
  have hempty : (vget s1.engines e).windows = [] ∧ (vget s1.engines e).slots = [] := by
    simp only [Engine.changed, Prod.mk.injEq] at hs1
    obtain ⟨-, -, -, hwindows, hslots⟩ := hs1
    exact ⟨hwindows, hslots⟩
  rw [State.raiseAll_engines]
  clear_value s1 tag
  unfold s2
  split
  · exact hs1
  · rw [State.issueRead_changed _ _ _ hempty.1 hempty.2, hs1]

/-- Settles O25: each control word's effect is its branch. -/
theorem sequencerCompletes : Obligations.SequencerCompletes := by
  intro s e
  refine ⟨fun slot p hplace hout hrun => ?_, fun a d t j g hcontrol hcalls => ?_, fun a t j g hcontrol => ⟨?_, ?_⟩,
    fun a d t j g hcontrol hloops => ?_, fun a t j g n b rest hcontrol hloops => ?_,
    fun a d t j g target hcontrol htarget => ?_, fun a d t j g floor hcontrol hcalls hfloor => exec_sqLate hcontrol hcalls hfloor,
    fun a d t j g hcontrol => ?_, fun a t j g hcontrol => ?_, fun target hhold hcome => ?_⟩
  · obtain ⟨u, hexec, hstart⟩ := exec_slotStart hplace hout hrun
    simp only [Seq.place, Prod.mk.injEq] at hstart
    obtain ⟨hin, hslot, hframe, hlate, hdue, hpc⟩ := hstart
    exact ⟨u, hexec, hin, hslot, hframe, hlate, hdue, hpc⟩
  · change execSqCall e a d s = _
    unfold execSqCall
    simp only [hcontrol]
    rw [if_neg (by omega)]
  · intro r rest hreturn hblock
    change execSqRet e a s = _
    unfold execSqRet
    simp only [hcontrol, hreturn, hblock, Bool.false_eq_true, false_and, if_false]
  · intro r rest hreturn hblock hbase
    change execSqRet e a s = _
    unfold execSqRet
    simp only [hcontrol, hreturn, hblock, hbase, and_self, if_true]
  · change execSqLoop e a d s = _
    unfold execSqLoop
    simp only [hcontrol]
    rw [if_neg (by omega)]
  · change execSqEndloop e a s = _
    unfold execSqEndloop
    simp only [hcontrol, hloops]
  · subst htarget
    change execSqMark e a d s = _
    unfold execSqMark
    simp only [hcontrol]
  · obtain ⟨u, hexec, hchanged⟩ := exec_sqChg hcontrol
    simp only [Engine.changed, Prod.mk.injEq] at hchanged
    obtain ⟨hincoming, hhalf, htag, hwindows, hslots⟩ := hchanged
    exact ⟨u, hexec, by rw [hincoming, hhalf], htag, hwindows, hslots⟩
  · change execSqEnd e a s = _
    unfold execSqEnd
    simp only [hcontrol]
  · change execMarkTargetReached e s = _
    unfold execMarkTargetReached
    simp only [hhold]
    rw [if_pos hcome]

/-! ### Reads, writes, substitution and cue memory faults -/

/-- What a plan asks for when no layer masks its bytes (R73). -/
theorem State.readPlan_plain {s : State} {j : Job} {g : Engine} {d : DrDesc} (h : d.cls = 4 ∨ d.cls = 2 ∧ d.dest ≠ 3) :
    s.readPlan j g d = (g, [(s.dmaAddress j g d, 64 * d.length)]) := by
  unfold State.readPlan
  obtain hcls | ⟨hcls, hdest⟩ := h
  · simp only [hcls]
  · simp only [hcls, hdest, if_false]

/-- The freeze reaches its bound: the late tags are set, and the block cannot freeze again (R81). -/
theorem exec_substitution {s : State} {e : Fin 16} {j : Job} {f : Nat} (hjob : s.job e = some j)
    (hfrozen : (vget s.engines e).q.frozenAt = some f) (hdue : f + (j.slot.phi - (vget s.engines e).q.frz) ≤ s.cycle) :
    ∃ u, exec (.substitution e) s = .next u ∧ (vget u.engines e).q.frozenAt = none
      ∧ (vget u.engines e).q.lateness = satAdd 32 (vget s.engines e).q.lateness (j.slot.phi - (vget s.engines e).q.frz)
      ∧ (vget u.engines e).q.frz = j.slot.phi ∧ (vget u.engines e).q.noFreeze = true
      ∧ (vget u.engines e).n.substs
        = ((vget s.engines e).substitute ((vget s.engines e).lateTags j.tab)).n.substs
      ∧ (vget u.engines e).tags = ((vget s.engines e).substitute ((vget s.engines e).lateTags j.tab)).tags := by
  refine ⟨_, rfl, ?_⟩
  simp only [hjob, hfrozen]
  rw [if_neg (by omega), State.setEngine_engine, State.lateRead_engines]
  exact ⟨rfl, rfl, rfl, rfl, rfl, rfl⟩

/-- A slot that ends leaves its engine in none (R64). -/
theorem State.endSlot_inSlot (s : State) (e : Fin 16) : (vget (s.endSlot e).engines e).q.inSlot = false := by
  simp [State.endSlot]

/-- A double-bit error abandons the slot (R94). -/
theorem exec_cueEccFault_double {s : State} {e : Fin 16} {j : Job} (hjob : s.job e = some j) (memory address : Nat) (bad : Bool) :
    ∃ u, exec (.cueEccFault e memory address (.double bad)) s = .next u ∧ (vget u.engines e).q.inSlot = false := by
  refine ⟨_, rfl, ?_⟩
  rw [hjob]
  dsimp only
  rw [State.review_engines, State.raise_engines, State.endSlot_inSlot]

/-- Settles O30: reads by their plans, writes by their classes, and the substitution's tags by `Engine.substitute_tag`. -/
theorem dmaCompletes : Obligations.DmaCompletes := by
  intro s e
  refine ⟨fun desc t j d p hissue hp => ⟨?_, fun hplain => hp.trans (State.readPlan_plain hplain)⟩,
    fun desc t j d g hissue hg => ⟨fun hcls => ?_, fun hcls => ?_, fun hcls => ?_⟩, fun j f hjob hfrozen hdue => ?_,
    fun j memory address bad hjob => ⟨exec_cueEccFault_double hjob memory address bad, ?_⟩⟩
  · subst hp
    change execDrRd e desc s = _
    unfold execDrRd
    simp only [hissue]
  · subst hg
    change execDwWr e desc s = _
    unfold execDwWr
    simp only [hissue, hcls]
  · subst hg
    change execDwWr e desc s = _
    unfold execDwWr
    simp only [hissue, hcls]
  · subst hg
    change execDwWr e desc s = _
    unfold execDwWr
    obtain hcls | hcls | hcls := hcls <;> simp only [hissue, hcls]
  · obtain ⟨u, hexec, hfrozen, hlate, hfrz, hfree, hsubsts, htags⟩ := exec_substitution hjob hfrozen hdue
    refine ⟨u, hexec, hfrozen, hlate, hfrz, hfree, ?_, fun hwf k hk => ?_⟩
    · obtain ⟨w, l, heq⟩ := (vget s.engines e).substitute_eq ((vget s.engines e).lateTags j.tab)
      rw [hsubsts, heq]
    · rw [htags, Engine.substitute_tag hwf, if_pos hk]
      exact ⟨rfl, rfl⟩
  · change execCueEccFault e memory address .single s = _
    unfold execCueEccFault
    simp only [hjob]

end Sys2Proof.Machine
end

section
/-! PROOFS. The operations of the search and coding units (R75, R77, R82, R107 to R127, R149 to R192). -/

namespace Sys2Proof.Machine

open Sys2Proof Sys2Proof.Safety

/-! ### Unit operations that issue -/

/-- A unit operation that issues acts by its own action. -/
theorem State.unit_of_issue {s t : State} {e : Fin 16} {u op desc : Nat} {j : Job} {d : UnitDesc}
    (h : s.issue e u op desc = (t, some (j, d))) (f : State → Job → UnitDesc → State) : s.unit e u op desc f = f t j d := by
  unfold State.unit
  rw [h]

@[simp] theorem State.work_engine (s : State) (e : Fin 16) (f : CtuWork → CtuWork) :
    vget (s.work e f).engines e = { vget s.engines e with c := f (vget s.engines e).c } :=
  State.setEngine_engine s e _

/-- The record put is the record that the engine's job then uses. -/
theorem State.putRec_engine (s : State) (e : Fin 16) (j : Job) (r : CtxRec) :
    vget (s.putRec e j r).engines e = (vget s.engines e).setRecord j.ctx.context r :=
  State.setEngine_engine s e _

theorem Engine.setRecord_record (g : Engine) (c : Nat) (r : CtxRec) : (g.setRecord c r).record c = some r := by
  unfold Engine.record Engine.setRecord
  rw [vget_vset_self]
  exact if_pos rfl

theorem Job.mergeCands_floor {j : Job} {g : Engine} {ref q : Nat} {m : MdChoice} (h : m ∈ j.mergeCands g ref q) :
    m.floor = 0 := by
  unfold Job.mergeCands at h
  extract_lets merge plain steps at h
  have hplain : ∀ c ∈ plain, c.floor = 0 := by
    intro c hc
    obtain ⟨x, -, rfl⟩ := List.mem_map.mp hc
    rfl
  obtain h | h := List.mem_append.mp h
  · exact hplain m h
  · split at h
    · obtain ⟨c, hc, hm⟩ := List.mem_flatMap.mp h
      obtain ⟨o, -, rfl⟩ := List.mem_map.mp hm
      exact hplain c (List.mem_of_mem_take hc)
    · cases h

/-- Every candidate of inter prediction is a normal one (R165). -/
theorem State.interCands_floor {s : State} {e : Fin 16} {j : Job} {r : CtxRec} {q : Nat} {m : MdChoice}
    (h : m ∈ s.interCands e j r q) : m.floor = 0 := by
  unfold State.interCands at h
  extract_lets g refs f found at_ at h
  have hat : ∀ bs c, m ∈ at_ bs c → c.floor = 0 → m.floor = 0 := by
    intro bs c hm hc
    obtain ⟨n, -, hn⟩ := List.mem_filterMap.mp hm
    split at hn
    · cases hn
      exact hc
    · cases hn
  split at h
  · cases h
  · obtain h | h := List.mem_append.mp h
    · obtain ⟨b, -, h⟩ := List.mem_flatMap.mp h
      obtain ⟨c, hc, hm⟩ := List.mem_flatMap.mp h
      refine hat _ c hm ?_
      obtain hc | hc := List.mem_append.mp hc
      · split at hc
        · cases List.mem_singleton.mp hc
          rfl
        · cases hc
      · exact Job.mergeCands_floor hc
    · split at h
      · exact hat _ _ h rfl
      · cases h

/-- A quad that joins no earlier choice takes a normal mode at the CTU's QP (R115, R165). -/
theorem State.chooseQuad_normal {s : State} {e : Fin 16} {j : Job} {r : CtxRec} {d : UnitDesc}
    (h : (vget s.engines e).c.joins d.quad = none) :
    (s.chooseQuad e j r d).floor = 0 ∧ (s.chooseQuad e j r d).qp = (vget s.engines e).c.qp := by
  unfold State.chooseQuad
  simp only [h]
  split
  next m hm =>
    refine ⟨?_, rfl⟩
    have hmem := List.mem_of_getElem? hm
    split at hmem
    · cases hmem
    · exact State.interCands_floor (m := m) hmem
  next => exact ⟨rfl, rfl⟩

/-- The coarse stage: its result heads the engine's, and its vectors join the record's motion field (R155, R156). -/
theorem exec_mcCrs {s t : State} {e : Fin 16} {desc : Nat} {j : Job} {d : UnitDesc} {x k : Nat} {r : CtxRec}
    (h : s.issue e 2 1 desc = (t, some (j, d))) (hnext : j.nextCtu (vget t.engines e) = some (x, k))
    (hrec : t.jobRec e j = some r) : ∃ u v quads, exec (.mcCrs e desc) s = .next u
      ∧ (vget u.engines e).steers = ⟨j.tile.ctu x k, v, t.cycle + 480, quads⟩ :: (vget t.engines e).steers.take 1
      ∧ u.jobRec e j = some { r with mf := cset {} r.mf (j.tile.ctu x k) v } := by
  have hcoarse : ∃ v quads, t.coarseCtu e j r (Config.refEnables d.ints) x k
      = (⟨j.tile.ctu x k, v, t.cycle + 480, quads⟩, { r with mf := cset {} r.mf (j.tile.ctu x k) v }) := ⟨_, _, rfl⟩
  obtain ⟨v, quads, hcoarse⟩ := hcoarse
  refine ⟨_, v, quads, rfl, ?_⟩
  rw [State.unit_of_issue h]
  simp only [hnext, hrec, hcoarse]
  refine ⟨?_, ?_⟩
  · rw [State.putRec_engine, State.setEngine_engine]
    rfl
  · rw [State.jobRec, State.putRec_engine, Engine.setRecord_record]

/-- MD's choice behind the decision point (R165, R179). -/
theorem exec_mdSel {s t u : State} {e : Fin 16} {desc : Nat} {j : Job} {d : UnitDesc} {r : CtxRec}
    (h : s.issue e 5 1 desc = (t, some (j, d))) (hu : u = t.decisionPoint e j false) (hrec : u.jobRec e j = some r) :
    exec (.mdSel e desc) s = .next (if (vget u.engines e).c.floor ≠ 0 then u.floorMode e j
      else u.work e (fun c => { c with md := cset {} c.md d.quad (u.chooseQuad e j r d) })) := by
  subst hu
  change execMdSel e desc s = _
  rw [execMdSel, State.unit_of_issue h]
  simp only [hrec]

/-- Settles O28: each operation issues, and its action is the one named. -/
theorem searchUnitsComplete : Obligations.SearchUnitsComplete := by
  intro s t e desc j d g hg
  subst hg
  refine ⟨fun h => ?_, fun h => ?_, fun h => ?_, fun h => ?_, fun h => ?_, fun x k r h hnext hrec => ?_,
    fun r refs res h hrec hrefs hres => ?_, fun h => ?_, fun u r h hu hrec => ?_, fun u h hu => ?_⟩
  · change execInRdq e desc s = _
    rw [execInRdq, State.unit_of_issue h]
  · change execInFsq e desc s = _
    rw [execInFsq, State.unit_of_issue h]
  · change execInFlr e desc s = _
    rw [execInFlr, State.unit_of_issue h]
    rfl
  · change execSvLvl e desc s = _
    rw [execSvLvl, State.unit_of_issue h]
  · change execSvExp e desc s = _
    rw [execSvExp, State.unit_of_issue h]
  · exact exec_mcCrs h hnext hrec
  · subst hrefs hres
    change execMfQrf e desc s = _
    rw [execMfQrf, State.unit_of_issue h]
    simp only [hrec, Nat.add_zero]
  · refine ⟨min maxCost (Config.searchCost (j.codeInts ++ d.ints ++ ints (cget [] (vget t.engines e).c.comp d.quad)
      ++ (vget t.engines e).nearInts)), Nat.min_le_left _ _, ?_⟩
    change execIpEst e desc s = _
    rw [execIpEst, State.unit_of_issue h]
  · refine ⟨fun hfloor => ?_, fun hnormal => ⟨u.chooseQuad e j r d, ?_, State.chooseQuad_normal⟩⟩
    · rw [exec_mdSel h hu hrec, if_pos hfloor]
      rfl
    · rw [exec_mdSel h hu hrec, if_neg (not_not.mpr hnormal)]
  · subst hu
    change execMdFlr e desc s = _
    rw [execMdFlr, State.unit_of_issue h]
    rfl

/-! ### Coding units -/

theorem Job.samples_length (j : Job) (f : Nat → Nat) : (j.samples f).length = quadSize j.ctx.chroma := by
  simp [Job.samples]

/-- Reconstructed samples lie within the bit depth (R107). -/
theorem Job.samples_lt {j : Job} {f : Nat → Nat} {x : Nat} (h : x ∈ j.samples f) : x < 2 ^ j.tile.cod.bitDepth := by
  obtain ⟨i, -, rfl⟩ := List.mem_map.mp h
  exact Nat.mod_lt _ (Nat.two_pow_pos _)

theorem State.latchFilter_work (s : State) (e : Fin 16) (j : Job) :
    (vget (s.latchFilter e j).engines e).c = (vget s.engines e).c := by
  unfold State.latchFilter
  dsimp only
  split
  · rw [State.putRec_engine, State.setEngine_engine]
    rfl
  · rfl

theorem State.alfNote_work (s : State) (e : Fin 16) (d : UnitDesc) :
    (vget (s.alfNote e d).engines e).c = (vget s.engines e).c :=
  (congrArg Engine.c (State.setEngine_engine s e _)).trans rfl

/-- A floor intra CTU has at most its DC coefficients, and a floor skip CTU has none (R122, R165). -/
theorem State.floorTq_bounds (s : State) (e : Fin 16) (j : Job) : ∃ c n,
    s.floorTq e j = s.work e (fun y => { y with tq := cset {} y.tq 16 ⟨c, 6 * n, n, false⟩ })
    ∧ (n ≠ 0 → (vget s.engines e).c.intraFlr = true ∧ n ≤ floorIntraBins j.ctx.chroma) := by
  refine ⟨_, _, rfl, fun hn => ?_⟩
  split at hn
  next hcoded =>
    simp only [Bool.and_eq_true] at hcoded
    obtain ⟨⟨hintra, -⟩, -⟩ := hcoded
    refine ⟨hintra, ?_⟩
    split
    · exact Nat.le_of_lt_succ (Nat.mod_lt _ (Nat.succ_pos _))
    · exact Nat.zero_le _
  next => exact absurd rfl hn

/-- TQ.FWD in a normal CTU (R182): the quad joins within the CTU's room, or is clipped and adds nothing. -/
theorem exec_tqFwd {s t : State} {e : Fin 16} {desc : Nat} {j : Job} {d : UnitDesc}
    (h : s.issue e 6 1 desc = (t, some (j, d))) (hnormal : (vget t.engines e).c.floor = 0) :
    ∃ u, exec (.tqFwd e desc) s = .next u ∧
      ((vget u.engines e).c.runBits + sideBits ≤ (vget t.engines e).c.room
          ∧ (vget u.engines e).c.runBins + sideBins ≤ (vget t.engines e).c.rb
          ∧ (∃ c b n, (vget u.engines e).c.tq = cset {} (vget t.engines e).c.tq d.quad ⟨c, b, n, false⟩ ∧ n ≤ b
              ∧ (vget u.engines e).c.runBits = (vget t.engines e).c.runBits + b
              ∧ (vget u.engines e).c.runBins = (vget t.engines e).c.runBins + n)
        ∨ (vget u.engines e).c.runBits = (vget t.engines e).c.runBits
          ∧ (vget u.engines e).c.runBins = (vget t.engines e).c.runBins
          ∧ (vget u.engines e).r.clipped = (vget t.engines e).r.clipped + 1
          ∧ (vget u.engines e).c.tq = cset {} (vget t.engines e).c.tq d.quad ⟨0, 0, 0, true⟩) := by
  refine ⟨_, rfl, ?_⟩
  rw [State.unit_of_issue h]
  dsimp only
  rw [if_neg (not_not.mpr hnormal), State.setEngine_engine]
  dsimp only
  generalize Config.quadBins (0 :: _) = coded
  generalize Config.quadBins (1 :: _) = byp
  by_cases hclip : (decide ((vget t.engines e).c.room < (vget t.engines e).c.runBits + sideBits + (6 * coded + byp))
      || decide ((vget t.engines e).c.rb < (vget t.engines e).c.runBins + sideBins + (coded + byp))) = true
  · rw [hclip]
    exact .inr ⟨rfl, rfl, rfl, rfl⟩
  · rw [Bool.not_eq_true] at hclip
    rw [hclip]
    simp only [Bool.or_eq_false_iff, decide_eq_false_iff_not, Nat.not_lt] at hclip
    obtain ⟨hbits, hbins⟩ := hclip
    refine .inl ⟨?_, ?_, _, 6 * coded + byp, coded + byp, rfl, by omega, rfl, rfl⟩
    · simp only [Bool.false_eq_true, if_false]
      omega
    · simp only [Bool.false_eq_true, if_false]
      omega

/-- BN.BIN in a normal CTU (R167, R182): the side syntax within what is left of it, the bits within TQ's bound. -/
theorem exec_bnBin {s t : State} {e : Fin 16} {desc : Nat} {j : Job} {d : UnitDesc}
    (h : s.issue e 10 1 desc = (t, some (j, d))) (hnormal : (vget t.engines e).c.floor = 0) :
    ∃ side bits bins byp ops, exec (.bnBin e desc) s = .next ((t.work e (fun c => { c with side := c.side + side })).addBits e
        (side + bits) ((cget {} (vget t.engines e).c.tq d.quad).bins + bins) byp (opTiming 10 1 j.chromaClass).1 true ops)
      ∧ side ≤ sideBits - (vget t.engines e).c.side ∧ bins ≤ sideBins / 16
      ∧ ((cget {} (vget t.engines e).c.tq d.quad).bins ≤ (cget {} (vget t.engines e).c.tq d.quad).bound →
        bits ≤ (cget {} (vget t.engines e).c.tq d.quad).bound) := by
  have hexec : exec (.bnBin e desc) s = .next (s.unit e 10 1 desc _) := rfl
  rw [hexec, State.unit_of_issue h]
  dsimp only
  rw [if_neg (not_not.mpr hnormal)]
  refine ⟨_, _, _, _, _, rfl, ?_, ?_, fun hbins => ?_⟩
  · exact Nat.le_of_lt_succ (Nat.mod_lt _ (Nat.succ_pos _))
  · exact Nat.le_of_lt_succ (Nat.mod_lt _ (Nat.succ_pos _))
  · generalize hbyp : (6 * (cget {} (vget t.engines e).c.tq d.quad).bins - (cget {} (vget t.engines e).c.tq d.quad).bound) / 5 = byp
    have hrest : ∀ x, x % ((cget {} (vget t.engines e).c.tq d.quad).bound - byp + 1)
        ≤ (cget {} (vget t.engines e).c.tq d.quad).bound - byp := fun x => Nat.le_of_lt_succ (Nat.mod_lt x (Nat.succ_pos _))
    exact (Nat.add_le_add_left (hrest _) byp).trans (by omega)

/-- Settles O29: each operation issues, and its action is the one named. -/
theorem codingUnitsComplete : Obligations.CodingUnitsComplete := by
  intro s t e desc j d g hg
  subst hg
  refine ⟨fun h hnormal => exec_tqFwd h hnormal, fun h hfloor => ?_, fun h => ⟨?_, ?_⟩, fun h hnormal => ?_, fun h hfloor => ?_,
    fun h => ?_, fun h => ?_, fun h hnormal htool => ?_, fun u h hnormal htool hu => ?_, fun h hidle => ?_,
    fun a r hder hdue hrec => ?_, fun h hnormal => exec_bnBin h hnormal, fun u h hu => ⟨fun hopen => ?_, fun hclosed => ?_⟩,
    fun h => ?_, fun h => ?_, fun x h hnormal hquad hx => ?_, fun h hfloor hblock => ?_⟩
  · change execTqFwd e desc s = _
    rw [execTqFwd, State.unit_of_issue h]
    dsimp only
    rw [if_pos hfloor]
  · change execTqFlr e desc s = _
    rw [execTqFlr, State.unit_of_issue h]
  · have hexec : exec (.tqFlr e desc) s = .next (t.floorTq e j) := by
      change execTqFlr e desc s = _
      rw [execTqFlr, State.unit_of_issue h]
    obtain ⟨c, n, htq, hn⟩ := t.floorTq_bounds e j
    exact ⟨c, n, hexec.trans (congrArg _ htq), hn⟩
  · refine ⟨j.samples (Config.reconSample ([(vget t.engines e).c.qp, ((cget {} (vget t.engines e).c.tq d.quad).coef : Int)]
      ++ j.quadInts (vget t.engines e) d)), ?_, j.samples_length _, fun x => Job.samples_lt⟩
    change execIqRec e desc s = _
    rw [execIqRec, State.unit_of_issue h]
    dsimp only
    rw [if_neg (not_not.mpr hnormal)]
  · change execIqRec e desc s = _
    rw [execIqRec, State.unit_of_issue h]
    dsimp only
    rw [if_pos hfloor]
  · change execIqFlr e desc s = _
    rw [execIqFlr, State.unit_of_issue h]
  · change execLfDbk e desc s = _
    rw [execLfDbk, State.unit_of_issue h]
  · change execLfSao e desc s = _
    rw [execLfSao, State.unit_of_issue h]
    rw [if_neg (by simp [hnormal, htool])]
  · have hwork : (vget u.engines e).c = (vget t.engines e).c := by
      rw [hu, State.alfNote_work, State.latchFilter_work]
    change execAlAlf e desc s = _
    rw [execAlAlf, State.unit_of_issue h]
    dsimp only
    rw [← hu, if_neg (by simp [hwork, hnormal, htool])]
  · refine ⟨Config.content (2 :: ((vget t.engines e).r.alfStats : Int) :: j.codeInts), ?_⟩
    change execAlDer e desc s = _
    rw [execAlDer, State.unit_of_issue h]
    simp only [hidle]
  · change execDerComplete e t = _
    unfold execDerComplete
    simp only [hder, hrec]
    rw [if_neg (by omega)]
  · change execBnSlh e desc s = _
    rw [execBnSlh, State.unit_of_issue h]
    dsimp only
    rw [← hu, if_pos hopen]
  · refine ⟨Config.content (((vget u.engines e).r.entropy : Int) :: d.ints), ?_⟩
    change execBnSlh e desc s = _
    rw [execBnSlh, State.unit_of_issue h]
    dsimp only
    rw [← hu, if_neg (by simp [hclosed])]
  · change execBnFlr e desc s = _
    rw [execBnFlr, State.unit_of_issue h]
  · change execBnEos e desc s = _
    rw [execBnEos, State.unit_of_issue h]
  · subst hx
    change execRwCrf e desc s = _
    rw [execRwCrf, State.unit_of_issue h]
    dsimp only
    rw [if_neg (by rintro ⟨hfloor, hblock⟩; simp [hfloor, hblock] at hnormal), if_neg hquad]
    rfl
  · change execRwCrf e desc s = _
    rw [execRwCrf, State.unit_of_issue h]
    dsimp only
    rw [if_pos ⟨hfloor, hblock⟩]

end Sys2Proof.Machine
end

section
/-! PROOFS. Segments, tasks, ladles and queues (R245 to R273). -/

namespace Sys2Proof.Machine

open Sys2Proof Sys2Proof.Safety

/-! ### Segments and tasks -/

theorem exec_segmentOpen {s : State} {e : Fin 16} {g : Engine} {k : Slice} {rest : List Slice} {p : Production} {c : Ctx} {q : Strm}
    (hg : g = (vget s.engines e).code s.cycle) (hslices : g.chunk.slices = k :: rest) (hslice : s.sliceAt k = some (p, c, q))
    (hclosed : g.chunk.segOpen = false) (hlost : g.chunk.lost = false) :
    exec (.segmentOpen e) s = .next (s.setEngine e { g with chunk :=
      if g.chunk.used + q.segmentRoom ≤ 131072 then { g.chunk with segOpen := true, used := g.chunk.used + q.segmentRoom }
      else { g.chunk with lost := true } }) := by
  change execSegmentOpen e s = _
  unfold execSegmentOpen
  simp only [← hg, hslices, hslice]
  rw [if_neg (by simp [hclosed, hlost])]
  split <;> rfl

/-- Settles O31: each happening's condition holds, and its effect is its branch. -/
theorem tasksComplete : Obligations.TasksComplete := by
  intro s
  refine ⟨fun e g k rest p c q hg hslices hslice hclosed hlost => exec_segmentOpen hg hslices hslice hclosed hlost,
    fun e g k rest p c q size stop task hg hslices hslice hlost hopen hclosable hsize hstop htask =>
      ⟨fun hmore => ?_, fun hwhole hend => ?_⟩,
    fun t l htasks hwaits hladle hdisp => ?_, fun stream t l hfind hdisp hsince hladle => ?_,
    fun p hrunning hcopies hdue => ?_, fun link channel stamp payload p i hmsg hrunning hstream => ?_⟩
  · have hwhole : (k.whole && stop == size) = false := by
      obtain h | h := hmore <;> simp [h]
    change execSegmentClose e s = _
    unfold execSegmentClose
    simp only [← hg, hslices, hslice, hlost, hopen, hclosable, ← hsize, ← hstop, hwhole, htask, Bool.true_eq_false, or_self,
      Bool.false_eq_true, if_false]
  · have hwhole' : (k.whole && stop == size) = true := by simp [hwhole, hend]
    change execSegmentClose e s = _
    unfold execSegmentClose
    simp only [← hg, hslices, hslice, hlost, hopen, hclosable, ← hsize, ← hstop, hwhole', htask, Bool.true_eq_false, or_self,
      Bool.false_eq_true, if_false, if_true]
  · change execTaskDispatch s = _
    unfold execTaskDispatch
    rw [if_neg hdisp]
    simp only [htasks, List.filterMap_cons, List.filterMap_nil, hwaits, if_true, hladle, Option.map_some, List.foldl_nil]
  · change execAffinityWaitExpiry stream s = _
    unfold execAffinityWaitExpiry
    simp only [hfind, hladle]
    rw [if_neg (by rintro (h | h); exacts [hdisp h, by omega])]
  · refine ⟨_, rfl, ?_⟩
    simp only [hrunning]
    rw [if_neg (by rintro (h | h); exacts [hcopies h, by omega])]
    constructor
    · exact foldl_keeps (fun u : State => u.evt.copies) (fun u y => by split <;> rfl) _ _
    · exact foldl_keeps (fun u : State => u.evt.lastTask) (fun u y => by split <;> rfl) _ _
  · change execAncillary link channel stamp payload s = _
    unfold execAncillary
    rw [if_neg (by rw [hmsg]; exact Bool.true_eq_false_eq_False)]
    simp only [State.popInbox_running, hrunning, Option.bind_some, hstream, Option.map_some]

/-! ### Ladles and queues -/

/-- What a task that ends at its second error leaves is nothing when a commit has taken all its packets (R264). -/
theorem State.giveUp_done {s : State} {l : Fin 16} {t : Task} (htrunc : t.trunc = none)
    (hrest : ((vget s.flow.ladles l).rest (s.taskStrm t)).1 = 0) : s.giveUp l t = s.endTask l t := by
  have ht : { t with trunc := none } = t := by cases t; cases htrunc; rfl
  unfold State.giveUp
  simp only [htrunc, hrest, if_true, ht]

/-- A refill that lands joins the head, each item or the one marker that a poisoned one makes (R266, R273). -/
theorem exec_stockpotRefillLand {s : State} {q : Nat} {i : Item} {rest : List Item} (poisoned : Bool)
    (hrefill : (s.queue q).refill = i :: rest) (hin : s.refillIn q = true) {items : List Item} {bad : Bool}
    (hbad : bad = (poisoned || (s.queue q).refillBad))
    (hitems : items = if bad then [faultMarker (s.queue q).refill] else (s.queue q).refill) :
    exec (.stockpotRefillLand q poisoned) s = .next (State.promote (State.raiseAll
      (s.setQueue q { s.queue q with head := (s.queue q).head ++ items, refill := [], refillBad := false
                                     late := satAdd 32 (s.queue q).late
                                       (items.filter (fun y => decide (y.release < s.now))).length })
      (evIf bad (s.ev (queueSource q) 0x0601 [(2, q), (4, i.seq.toNat), (4, (s.queue q).refill.length), (1, 3)])
        ++ evIf (decide (i.release < s.now))
            (s.ev (queueSource q) 0x0603 [(2, q), (4, i.seq.toNat), (4, s.now - i.release)]))) q) := by
  subst hbad hitems
  change execStockpotRefillLand q poisoned s = _
  unfold execStockpotRefillLand
  simp only [hrefill, hin]

/-- Settles O32: refills by `exec_stockpotRefillLand`, the other happenings by their branches. -/
theorem ladlesAndQueuesComplete : Obligations.LadlesAndQueuesComplete := by
  intro s
  refine ⟨fun l t htask htrunc hpackets hbusy => ?_, fun l t c rest htask htrunc hpackets => ?_, fun q g hgap hstamp => ?_,
    fun l t htask hretried => ?_, fun l t htask hretried => ?_, fun l t c rest htask hpackets hexpects => ?_,
    fun l t htrunc hrest => State.giveUp_done htrunc hrest, fun l t n b htask htrunc hbusy hpackets => ?_, fun q => rfl,
    fun q i rest n hrefill hin hgood hn => ?_, fun q i rest m p hrefill hin hbad hm => ?_⟩
  · change execPacketCommit l s = _
    unfold execPacketCommit
    simp only [htask, htrunc, hpackets]
    rw [if_neg (by omega)]
  · change execPacketCommit l s = _
    unfold execPacketCommit
    simp only [htask, htrunc, hpackets]
  · change execGapMarkerCommit q s = _
    unfold execGapMarkerCommit
    simp only [hgap]
    rw [if_neg (by omega)]
  · change execLadleFault l false s = _
    unfold execLadleFault
    simp only [htask, hretried, Bool.false_eq_true, if_false]
    rfl
  · change execLadleFault l false s = _
    unfold execLadleFault
    simp only [htask, hretried, Bool.false_eq_true, if_false, if_true]
    rfl
  · change execLadleFault l true s = _
    unfold execLadleFault
    simp only [htask, if_true, hpackets, hexpects, Bool.false_eq_true, if_false]
  · change execPacketCommit l s = _
    unfold execPacketCommit
    simp only [htask, htrunc]
    rw [if_neg (by omega), if_neg (by simpa using hpackets)]
  · rw [exec_stockpotRefillLand false hrefill hin (bad := false) (by rw [hgood]; rfl) rfl, hn, ← hrefill]
    rfl
  · subst hm
    rw [exec_stockpotRefillLand p hrefill hin hbad.symm rfl, hrefill]
    have hcount : ∀ m : Item, ([m].filter (fun y => decide (y.release < s.now))).length = boolNat (decide (m.release < s.now)) := by
      intro m
      by_cases h : m.release < s.now <;> simp [h, boolNat]
    simp only [if_true, hcount, List.length_cons, Nat.cast_add, Nat.cast_one, evIf_true, List.singleton_append]

end Sys2Proof.Machine
end

section
/-! PROOFS. Training, state by state (R303 to R307, R333, R334). -/

namespace Sys2Proof.Machine

open Sys2Proof Sys2Proof.Safety

/-! ### Training -/

@[simp] theorem State.setLink_link (s : State) (i : Fin 12) (l : Link) : vget (s.setLink i l).links i = l :=
  vget_vset_self s.links i l

/-- VERIFY's pass (R304): it goes on where the offset sampler finds no error, and fails on the lanes where it does. -/
theorem exec_verifyPass {s : State} {i : Fin 12} {l : Link} (hl : l = vget s.links i) (hstate : l.state = 5)
    (hown : l.ownOk = false)
    (hsent : l.okSent = true) (hpartner : l.partnerOk = true) (hlimit : l.inLimit s.time.fclk = true)
    (hverified : l.verified.length = (lanesOf l.rxLanes).length) :
    exec (.verifyPass i) s = .next (
      if (lanesOf l.rxLanes).all (fun n => !bitOf (Config.eyeErrors s.free) n.val)
      then s.fresh.setLink i (l.afterVerify s.time.fclk)
      else s.fresh.failAttempt i ((lanesOf l.rxLanes).filter (fun n => bitOf (Config.eyeErrors s.free) n.val))) := by
  subst hl
  change execVerifyPass i s = _
  unfold execVerifyPass
  dsimp only
  rw [if_pos ⟨hstate, hown, hsent, hpartner, hlimit, hverified⟩]
  congr 1
  exact if_congr (by simp [List.filter_eq_nil_iff]) rfl rfl

/-- The exchange settles a version that both know, and STEP begins (R333). -/
theorem exec_capability_steps {s : State} {i : Fin 12} {l : Link} {word : BitVec 32} (hl : l = vget s.links i)
    (hstate : l.state = 6)
    (hword : word = l.capWord) (hcount : 16 ≤ l.capCount) (hsent : 16 ≤ l.capSent) (hlimit : l.inLimit s.time.fclk = true)
    (hversion : 0x10 ≤ (word.extractLsb' 0 8).toNat) :
    ∃ m, exec (.capability i word) s = .next (s.setLink i m) ∧ m.version = min (word.extractLsb' 0 8).toNat 0x20
      ∧ m.stepped = true ∧ m.state = 2 := by
  subst hl
  change ∃ m, execCapability i word s = _ ∧ _
  unfold execCapability
  dsimp only
  rw [if_pos ⟨hstate, hword, hcount, hsent, hlimit⟩, if_neg (by omega)]
  exact ⟨_, rfl, rfl, rfl, rfl⟩

/-- A training that ends leaves the link ACTIVE or HELD_IDLE, at the rate it ran (R304, R310). -/
theorem exec_linkActive {s : State} {i : Fin 12} {l : Link} (hl : l = vget s.links i) (hstate : l.state = 5)
    (hlast : l.retrain = true ∨ l.stepped = true) (hown : l.ownOk = true) (hpartner : l.partnerOk = true)
    (hseen : l.lastSeen = true) :
    ∃ u, exec (.linkActive i) s = .next u ∧ (vget u.links i).state = (if s.heldIdle i then 9 else 8)
      ∧ (vget u.links i).everActive = true ∧ (vget u.links i).lastRate = l.rate ∧ (vget u.links i).wait = 1 := by
  subst hl
  refine ⟨_, rfl, ?_⟩
  rw [if_pos ⟨hstate, hlast, hown, hpartner, hseen⟩, State.raiseAll_links, State.setLink_link]
  split <;> exact ⟨rfl, rfl, rfl, rfl⟩

/-- Settles O35: each happening's condition holds, and its effect is its branch. -/
theorem trainingCompletes : Obligations.TrainingCompletes := by
  intro s i l hl
  subst hl
  have hlimit : ∀ state, (vget s.links i).state = state →
      s.time.fclk < (vget s.links i).since + limitMost state (vget s.links i).rate →
      (vget s.links i).inLimit s.time.fclk = true := by
    intro state hstate htime
    simpa [Link.inLimit, hstate] using htime
  refine ⟨fun hstate hsince htime => ?_, fun hstate htime => ?_, fun found hstate htime hlanes => ?_,
    fun trained hstate hsince => ?_, fun lane block hlow hhigh hgood hattempt => ?_,
    fun hstate hown hsent hpartner htime hverified =>
      exec_verifyPass rfl hstate hown hsent hpartner (hlimit 5 hstate htime) hverified, ?_,
    fun word hstate hword hcount hsent htime hold => ?_,
    fun word hstate hword hcount hsent htime hversion =>
      exec_capability_steps rfl hstate hword hcount hsent (hlimit 6 hstate htime) hversion,
    fun hlow hhigh hadapt hsince hpassed => ?_,
    fun hstate hlast hown hpartner hseen => exec_linkActive rfl hstate hlast hown hpartner hseen, fun hstate hnext => ?_⟩
  · change execPartnerCkDetect i s = _
    unfold execPartnerCkDetect
    dsimp only
    rw [if_pos ⟨hstate, hsince, hlimit 1 hstate htime⟩]
  · change execClockLock i s = _
    unfold execClockLock
    dsimp only
    rw [if_pos ⟨hstate, hlimit 2 hstate htime⟩]
  · change execDeskew i found s = _
    unfold execDeskew
    dsimp only
    rw [if_pos ⟨hstate, hlimit 3 hstate htime, hlanes⟩]
  · change execAdaptEnd i trained s = _
    unfold execAdaptEnd
    dsimp only
    rw [if_pos ⟨hstate, hsince⟩]
  · change execTrainingBlock i lane block false s = _
    unfold execTrainingBlock
    dsimp only
    rw [if_neg (by omega), if_neg (by simp [hgood]), if_neg (by omega), if_neg (by omega)]
    simp [State.setLink]
  · unfold Link.afterVerify
    dsimp only
    split
    next h =>
      have hlast : ((vget s.links i).retrain || (vget s.links i).stepped) = true := by simpa using h
      exact ⟨rfl, rfl, by simp only [hlast, if_true]⟩
    next h =>
      have hfirst : ((vget s.links i).retrain || (vget s.links i).stepped) = false := by simpa using h
      exact ⟨rfl, rfl, by simp only [hfirst, Bool.false_eq_true, if_false]⟩
  · change execCapability i word s = _
    unfold execCapability
    dsimp only
    rw [if_pos ⟨hstate, hword, hcount, hsent, hlimit 6 hstate htime⟩, if_pos hold]
  · change execTrainingLimitExpiry i s = _
    unfold execTrainingLimitExpiry
    dsimp only
    rw [if_pos ⟨hlow, hhigh, hadapt, hsince, hpassed⟩]
  · change execDarkRetry i s = _
    unfold execDarkRetry
    dsimp only
    rw [if_pos ⟨hstate, hnext⟩]

end Sys2Proof.Machine
end

section
/-! PROOFS. The reference clocks (R360 to R387): comparisons, gates, switches and the holdover history. -/

namespace Sys2Proof.Machine

open Sys2Proof Sys2Proof.Safety

/-! ### What a candidate has measured, through state changes of the clock part -/

/-- The phases, the hits and their gates of a candidate (R365, R366). -/
def Candidate.measured (x : Candidate) : List Int × Nat × Bool × Bool × Bool := (x.phases, x.hits, x.noHit, x.hitInGate, x.hitNext)

@[simp] theorem Candidate.mark_measured (x : Candidate) (tick i : Nat) : (x.mark tick i).measured = x.measured := rfl

/-- Every candidate of one clock part has measured what it has in another. -/
def Ck.SameMeasured (k l : Ck) : Prop := ∀ c, (vget l.cands c).measured = (vget k.cands c).measured

theorem Ck.SameMeasured.refl (k : Ck) : k.SameMeasured k := fun _ => rfl

theorem Ck.SameMeasured.of_cands {k l : Ck} (h : l.cands = k.cands) : k.SameMeasured l := fun c => by rw [h]

theorem Ck.SameMeasured.trans {k l m : Ck} (h : k.SameMeasured l) (h' : l.SameMeasured m) : k.SameMeasured m :=
  fun c => (h' c).trans (h c)

theorem Ck.setDpll_cands (k : Ck) (new cause : Nat) : (k.setDpll new cause).cands = k.cands := by
  unfold Ck.setDpll
  dsimp only
  split <;> rfl

theorem Ck.setCand_sameMeasured (k : Ck) (c : Fin 16) (new cause : Nat) : k.SameMeasured (k.setCand c new cause) := by
  intro c'
  unfold Ck.setCand
  dsimp only
  split
  · rfl
  · simp only [Ck.say, vget_vset]
    split
    next h =>
      subst h
      split
      · rfl
      · split <;> rfl
    next => rfl

theorem Ck.dropCand_sameMeasured (k : Ck) (c : Fin 16) (cause : Nat) : k.SameMeasured (k.dropCand c cause) := by
  unfold Ck.dropCand
  dsimp only
  split
  · exact .refl k
  · split
    · exact (k.setCand_sameMeasured c 0 cause).trans (.of_cands rfl)
    · exact k.setCand_sameMeasured c 0 cause

theorem Ck.applyClear_sameMeasured (k : Ck) (m : Nat × Nat) : k.SameMeasured (k.applyClear m) := by
  intro c
  simp only [Ck.applyClear, vget_ofFn]
  split <;> rfl

theorem Ck.applySoft_sameMeasured (k : Ck) (word : Int) : k.SameMeasured (k.applySoft word) := by
  unfold Ck.applySoft
  generalize hk1 : List.foldl _ k _ = k1
  refine Ck.SameMeasured.trans (l := k1) ?_ (.of_cands (k1.setDpll_cands 4 5))
  subst hk1
  generalize List.finRange 16 = cs
  induction cs generalizing k with
  | nil => exact .refl k
  | cons c cs ih =>
    rw [List.foldl_cons]
    refine Ck.SameMeasured.trans ?_ (ih _)
    split
    · exact k.setCand_sameMeasured c 2 6
    · exact .refl k

/-- A switch that ends with no settings waiting (R373). -/
theorem Ck.endSwitch_sameMeasured {k : Ck} (h : k.dpll.nextCand = []) : k.SameMeasured k.endSwitch := by
  unfold Ck.endSwitch
  simp only [h, List.foldl_nil]
  have hclear := Ck.applyClear_sameMeasured { k with dpll := { k.dpll with
    switching := none, cfg := k.dpll.nextCfg.getD k.dpll.cfg, nextCfg := none, softDue := none, nextCand := []
    nextClear := (0, 0), deferred := false, deliberate := false } } k.dpll.nextClear
  split
  · exact Ck.SameMeasured.trans hclear (Ck.applySoft_sameMeasured _ _)
  · exact Ck.SameMeasured.trans hclear (.of_cands rfl)

theorem Ck.disqualify_sameMeasured {k : Ck} {c : Fin 16} (cause : Nat)
    (h : k.dpll.nextCand = [] ∨ k.dpll.switching ≠ some (some c.val)) : k.SameMeasured (k.disqualify c cause) := by
  unfold Ck.disqualify
  split
  · exact .refl k
  · split
    next hswitch =>
      refine (k.setCand_sameMeasured c 0 cause).trans (Ck.endSwitch_sameMeasured ?_)
      rw [Ck.setCand_dpll]
      exact h.resolve_right (not_not.mpr hswitch)
    next => exact (k.dropCand_sameMeasured c cause).trans (.of_cands rfl)

/-! ### A phase comparison -/

theorem not_lt_spaced {last : Option Nat} {n now : Nat} (h : ∀ t, last = some t → t + n ≤ now) :
    ¬ now < (last.map (· + n)).getD 0 := by
  cases last with
  | none => exact Nat.not_lt_zero now
  | some t => exact Nat.not_lt.mpr (h t rfl)

/-- What a comparison asks of its candidate: active or at least its spacing since the last (R365, R366, R377). -/
theorem compares {s : State} {c : Fin 16} (hact : (vget s.cands c).actOk = true) (hcan : s.canBeActive c = true)
    (hspace : ∀ t, (vget s.cands c).cmpAt = some t → t + compareTicks (vget s.cands c).cfg.nominal ≤ s.time.fclk) :
    ¬ ((vget s.cands c).actOk = false ∧ ¬ (s.dpll.lostDue = true ∧ s.dpll.active = some c.val) ∨ s.canBeActive c = false
      ∨ s.time.fclk < ((vget s.cands c).cmpAt.map (· + compareTicks (vget s.cands c).cfg.nominal)).getD 0) := by
  rw [hact, hcan]
  rintro (⟨h, -⟩ | h | h)
  · cases h
  · cases h
  · exact not_lt_spaced hspace h

theorem exec_phaseComparison_quiet {s : State} {c : Fin 16} (ps ask : Int) (hact : (vget s.cands c).actOk = true)
    (hcan : s.canBeActive c = true) (hnone : (vget s.cands c).cmpAt = none) (hfew : (vget s.cands c).phases.length < 16)
    (hother : s.dpll.active ≠ some c.val) :
    exec (.phaseComparison c ps ask) s = .next (s.putCk { s.ck with
      cands := vset s.cands c { vget s.cands c with phases := (ps :: (vget s.cands c).phases).take 16, cmpAt := some s.time.fclk }
      dpll := s.dpll.settle s.time.fclk s.dpll.goal }) := by
  change execPhaseComparison c ps ask s = _
  unfold execPhaseComparison
  dsimp only
  rw [if_neg (compares hact hcan (by rw [hnone]; intro t h; cases h))]
  have hnohit : decide ((vget s.cands c).phases.length = 16
      ∧ 40000 * ((vget s.cands c).cfg.phaseHit : Int) < |hitDeviation40 (vget s.cands c).phases ps|) = false :=
    decide_eq_false (fun h => by omega)
  have hout : decide (s.dpll.active = some c.val ∧ (s.dpll.state = 1 ∨ s.dpll.state = 2) ∧ s.dpll.switching = none) = false :=
    decide_eq_false (fun h => hother h.1)
  simp only [hnohit, hout, Bool.false_eq_true, if_false, Bool.false_and, Bool.or_false, if_true, false_and]

/-- The switch in progress, and the settings that wait for its end (R373). -/
def Dpll.waiting (d : Dpll) : List (Nat × CandSet) × Option (Option Nat) := (d.nextCand, d.switching)

@[simp] theorem Dpll.settle_waiting (d : Dpll) (tick : Nat) (goal : Int) : (d.settle tick goal).waiting = d.waiting := by
  unfold Dpll.settle
  dsimp only
  split <;> rfl

@[simp] theorem Dpll.mark_waiting (d : Dpll) (tick i : Nat) : (d.mark tick i).waiting = d.waiting := rfl

@[simp] theorem Ck.setDpll_waiting (k : Ck) (new cause : Nat) : (k.setDpll new cause).dpll.waiting = k.dpll.waiting := by
  unfold Ck.setDpll
  dsimp only
  split
  · rfl
  · simp only [Ck.say]
    split
    · rfl
    · split <;> rfl

@[simp] theorem State.putCk_cands (s : State) (k : Ck) : (s.putCk k).cands = k.cands := by simp [State.putCk]

/-- A clock part whose candidates are those of another and whose DPLL waits for the same. -/
def Ck.LoopOnly (k l : Ck) : Prop := l.cands = k.cands ∧ l.dpll.waiting = k.dpll.waiting

theorem Ck.loopOnly_leave {k : Ck} {d : Dpll} (h : d.waiting = k.dpll.waiting) (cause : Nat) :
    k.LoopOnly (Ck.leave { k with dpll := d } cause) :=
  ⟨Ck.setDpll_cands _ 3 cause, (Ck.setDpll_waiting _ 3 cause).trans h⟩

theorem Ck.LoopOnly.setDpll {k l : Ck} (h : k.LoopOnly l) (new cause : Nat) : k.LoopOnly (l.setDpll new cause) :=
  ⟨(l.setDpll_cands new cause).trans h.1, (l.setDpll_waiting new cause).trans h.2⟩

theorem Ck.LoopOnly.mark {k l : Ck} (h : k.LoopOnly l) (tick i : Nat) : k.LoopOnly { l with dpll := l.dpll.mark tick i } := h

/-- A hit is counted, in the gate or the next one, and the candidate is disqualified (R7, R365, R366). -/
theorem exec_phaseComparison_hit {s : State} {c : Fin 16} (ps ask : Int) (hact : (vget s.cands c).actOk = true)
    (hcan : s.canBeActive c = true)
    (hspace : ∀ t, (vget s.cands c).cmpAt = some t → t + compareTicks (vget s.cands c).cfg.nominal ≤ s.time.fclk)
    (hlen : (vget s.cands c).phases.length = 16)
    (hwait : s.dpll.nextCand = [] ∨ s.dpll.switching ≠ some (some c.val))
    (hdev : 40000 * ((vget s.cands c).cfg.phaseHit : Int) < |hitDeviation40 (vget s.cands c).phases ps|) {inGate : Bool}
    (hgate : inGate = decide ((vget s.cands c).cfg.nominal = 0
      ∨ s.time.fclk < (vget s.cands c).gateFrom + gateTicks (vget s.cands c).cfg)) :
    ∃ u, exec (.phaseComparison c ps ask) s = .next u ∧ (vget u.cands c).measured
      = ((ps :: (vget s.cands c).phases).take 16, satAdd 32 (vget s.cands c).hits 1, (vget s.cands c).noHit,
        (vget s.cands c).hitInGate || inGate, (vget s.cands c).hitNext || !inGate) := by
  refine ⟨_, rfl, ?_⟩
  rw [if_neg (compares hact hcan hspace)]
  extract_lets dev hit gated x0 x1 d inLoop pull beyond steers d1 e ck k k1 held dHeld overs dp d2 kp kl k2 k3
  have hhit : hit = true := decide_eq_true ⟨hlen, hdev⟩
  have hgated : gated = inGate := hgate.symm
  have hx1 : x1.measured = ((ps :: (vget s.cands c).phases).take 16, satAdd 32 (vget s.cands c).hits 1, (vget s.cands c).noHit,
      (vget s.cands c).hitInGate || inGate, (vget s.cands c).hitNext || !inGate) := by
    simp only [x1, x0, hhit, hgated, if_true, Bool.true_and]
    rfl
  have hd1 : d1.waiting = s.dpll.waiting := by
    unfold d1
    split <;> exact Dpll.settle_waiting _ _ _
  have hk1 : k1.cands = vset s.cands c x1 ∧ k1.dpll = d1 := by
    unfold k1
    rw [if_pos hhit]
    exact ⟨rfl, rfl⟩
  clear_value x1 d1 k1 hit gated
  have hd1k : d1.waiting = k1.dpll.waiting := congrArg Dpll.waiting hk1.2.symm
  have hheld : dHeld.waiting = k1.dpll.waiting := (Dpll.settle_waiting _ _ _).trans (hd1.symm.trans hd1k)
  have hd2 : d2.waiting = k1.dpll.waiting := by
    refine Eq.trans ?_ hd1k
    change dp.waiting = _
    unfold dp
    split <;> rfl
  clear_value dHeld d2
  have hkp : k1.LoopOnly kp := by
    unfold kp
    split <;> exact ⟨rfl, hd2⟩
  clear_value kp
  have hk2 : k1.LoopOnly k2 := by
    unfold k2
    split
    · exact ⟨rfl, rfl⟩
    · split
      · exact Ck.loopOnly_leave hheld 2
      · split
        · exact ⟨rfl, rfl⟩
        · split
          · exact (hkp.setDpll 1 4).mark _ 2
          · exact hkp
  have hk3 : k2.SameMeasured k3 := by
    unfold k3
    rw [if_pos hhit]
    refine Ck.disqualify_sameMeasured 2 ?_
    have hwaiting := hk2.2.trans ((congrArg Dpll.waiting hk1.2).trans hd1)
    simp only [Dpll.waiting, Prod.mk.injEq] at hwaiting
    rw [hwaiting.1, hwaiting.2]
    exact hwait
  have hlast : k3.SameMeasured (if inLoop = true ∧ (d.cfg.clampNs : Int) * 1000 < |e| then k3.select false else k3) := by
    split
    · exact .of_cands rfl
    · exact .refl k3
  rw [State.putCk_cands, hlast c, hk3 c, hk2.1, hk1.1, vget_vset_self, hx1]

/-! ### Gates and the end of a switch -/

/-- A gate outside the window disqualifies its candidate, and ranks are compared again (R365, R366, R372). -/
theorem exec_gateEnd_outside {s : State} {c : Fin 16} {raw offset : Int} (hact : (vget s.cands c).actOk = true)
    (hcan : s.canBeActive c = true) (hnominal : (vget s.cands c).cfg.nominal ≠ 0)
    (hgate : (vget s.cands c).gateFrom + gateTicks (vget s.cands c).cfg ≤ s.time.fclk)
    (hoffset : offset = trimmed raw s.dpll.cfg.xoTrim) (hwide : ((vget s.cands c).cfg.window : Int) * 1000000 < |offset|) :
    exec (.gateEnd c raw) s = .next (s.putCk (Ck.conflicts (Ck.disqualify { s.ck.settle with
      cands := vset s.cands c { (vget s.cands c).mark s.time.fclk 1 with
        offset := offset, freqOk := false, noHit := !(vget s.cands c).hitInGate, hitInGate := (vget s.cands c).hitNext
        hitNext := false, gateFrom := s.time.fclk
        wtrEnd := if (vget s.cands c).state = 0 then s.time.fclk + (vget s.cands c).cfg.wtr * 800000000
          else (vget s.cands c).wtrEnd } } c 1))) := by
  have hout : decide (|offset| ≤ ((vget s.cands c).cfg.window : Int) * 1000000) = false :=
    decide_eq_false (not_le.mpr hwide)
  change execGateEnd c raw s = _
  unfold execGateEnd
  dsimp only
  rw [if_pos ⟨hact, hcan, hnominal, hgate⟩, ← hoffset]
  simp only [hout, Bool.false_eq_true, if_false, if_true]

/-- A gate inside the window qualifies a candidate that stands disqualified and has had no hit (R366). -/
theorem exec_gateEnd_inside {s : State} {c : Fin 16} {raw offset : Int} {k : Ck} (hact : (vget s.cands c).actOk = true)
    (hcan : s.canBeActive c = true) (hnominal : (vget s.cands c).cfg.nominal ≠ 0)
    (hgate : (vget s.cands c).gateFrom + gateTicks (vget s.cands c).cfg ≤ s.time.fclk)
    (hoffset : offset = trimmed raw s.dpll.cfg.xoTrim) (hwithin : |offset| ≤ ((vget s.cands c).cfg.window : Int) * 1000000)
    (hk : k = { s.ck.settle with cands := vset s.cands c { vget s.cands c with
      offset := offset, freqOk := true, noHit := !(vget s.cands c).hitInGate, hitInGate := (vget s.cands c).hitNext
      hitNext := false, gateFrom := s.time.fclk
      wtrEnd := if (vget s.cands c).state = 0 then s.time.fclk + (vget s.cands c).cfg.wtr * 800000000
        else (vget s.cands c).wtrEnd } }) :
    exec (.gateEnd c raw) s = .next (s.putCk (
      if (vget s.cands c).state = 0 ∧ (vget s.cands c).hitInGate = false then
        Ck.select (if (vget s.cands c).cfg.wtr = 0 then (k.setCand c 1 1).setCand c 2 4 else k.setCand c 1 1) false
      else k.conflicts)) := by
  have hin : decide (|offset| ≤ ((vget s.cands c).cfg.window : Int) * 1000000) = true := decide_eq_true hwithin
  subst hk
  change execGateEnd c raw s = _
  unfold execGateEnd
  dsimp only
  rw [if_pos ⟨hact, hcan, hnominal, hgate⟩, ← hoffset]
  simp only [hin, Bool.true_eq_false, if_false, if_true]
  congr 2
  split
  · split <;> rfl
  · rfl

/-- Settles O42: comparisons and gates by the lemmas above, the other happenings by their branches. -/
theorem referencesComplete : Obligations.ReferencesComplete := by
  intro s
  refine ⟨rfl, rfl, fun c hact => ?_, fun c hact hnominal hcan => ?_,
    fun c raw offset x hx hact hcan hnominal hgate hoffset hwide => ?_,
    fun c raw offset x k hx hact hcan hnominal hgate hoffset hwithin hk => ?_, fun c hstate hwtr => ?_,
    fun c ps ask x hx hact hcan hnone hfew hother => ?_,
    fun c ps ask x inGate hx hact hcan hspace hlen hwait hdev hgate => ?_, fun ps c k hswitch hend hk => ?_,
    fun t hfrom hstate halign hsince => ?_, fun y hmean hlast => ?_, fun y v w hmean hlast hw => ?_,
    fun sel forceN hnew hsince => ?_⟩
  · change execActivityLoss c s = _
    unfold execActivityLoss
    rw [if_neg (by simp [hact])]
    rfl
  · change execCandidateActivityReturn c s = _
    unfold execCandidateActivityReturn
    dsimp only
    rw [if_pos ⟨hact, hnominal, hcan⟩]
  · subst hx
    exact exec_gateEnd_outside hact hcan hnominal hgate hoffset hwide
  · subst hx
    exact exec_gateEnd_inside hact hcan hnominal hgate hoffset hwithin hk
  · change execWaitToRestore c s = _
    unfold execWaitToRestore
    dsimp only
    rw [if_pos ⟨hstate, hwtr⟩]
  · subst hx
    exact exec_phaseComparison_quiet ps ask hact hcan hnone hfew hother
  · subst hx
    obtain ⟨u, hexec, hmeasured⟩ := exec_phaseComparison_hit ps ask hact hcan hspace hlen hwait hdev hgate
    simp only [Candidate.measured, Prod.mk.injEq] at hmeasured
    obtain ⟨hphases, hhits, hnoHit, hin, hnext⟩ := hmeasured
    exact ⟨u, hexec, hphases, hhits, hnoHit, hin, hnext⟩
  · subst hk
    change execSwitchEnd ps s = _
    unfold execSwitchEnd
    simp only [hswitch]
    rewrite [if_pos hend]
    rfl
  · change execLockAcquired s = _
    unfold execLockAcquired
    simp only [hfrom]
    rw [if_pos ⟨hstate, halign, hsince⟩]
  · change execHistorySample y s = _
    unfold execHistorySample
    simp only [hlast]
    rw [if_pos hmean]
  · subst hw
    change execHistorySample y s = _
    unfold execHistorySample
    simp only [hlast]
    rw [if_pos hmean]
  · change execRefPins sel forceN s = _
    unfold execRefPins
    rw [if_neg (by rintro (h | h); exacts [hnew h, absurd h (Nat.not_lt.mpr hsince)])]

end Sys2Proof.Machine
end

section
/-! PROOFS. Ingest, composition and graphic pairs (R139 to R142, R207 to R212, R350 to R358), and audio (R228 to R243). -/

namespace Sys2Proof.Machine

open Sys2Proof Sys2Proof.Safety

/-! ### Graphic pairs -/

/-- A graphic packet lands in the back buffer when it is free and port P21 has room (R210, R358, R424). -/
theorem exec_graphicWrite {s u : State} {link : Fin 12} {pair off : Nat} {data : List Byte} {p : Production} {y : Pair}
    (hmsg : s.hasMsg link 5 0x51 (leBytes 2 pair ++ [0, 0] ++ leBytes 4 off ++ data) (reserved [(2, 2)]) = true)
    (hu : u = s.popInbox link 5) (hrunning : s.running = some p) (hy : p.pairs[pair]? = some y) {g : PairState} {buf : Memory}
    (hg : g = cget {} s.pairs pair)
    (hbuf : buf = writeBytes (g.buf (1 - g.front)) off (data.take (y.stride * y.height - off))) :
    exec (.graphicWrite link pair off data) s = .next (
      if g.backFree = false then u.raise (s.ev (632 + link.val) 0x071C [(2, pair), (4, data.length)])
      else if s.ddr.hasRoom 21 data.length = false then u.portFull 21 data.length
      else { u with
        pairs := cset {} s.pairs pair (if g.front = 0 then { g with buf1 := buf } else { g with buf0 := buf })
        ddr := s.ddr.writeRole 21 (p.region 5 (2 * pair + (1 - g.front)) + off) data.length s.time.fclk }) := by
  subst hu hbuf hg
  change execGraphicWrite link pair off data s = _
  unfold execGraphicWrite
  rw [if_neg (by rw [hmsg]; exact Bool.true_eq_false_eq_False)]
  simp only [State.popInbox_running, State.popInbox_pairs, State.popInbox_ddr, State.popInbox_time, hrunning, Option.bind_some,
    hy, Option.map_some]
  have hback : (1 - (cget {} s.pairs pair).front = 0) = ¬ (cget {} s.pairs pair).front = 0 := propext (by omega)
  simp only [hback, ite_not]
  rfl

/-- Settles O37: graphic packets by `exec_graphicWrite`, the others by their branches. -/
theorem picturesComplete : Obligations.PicturesComplete := by
  intro s
  refine ⟨fun source p q n hup hprod hsource hmark hn => ?_, fun link m hmsg => ?_, fun link m hmsg hdata hshort => ?_,
    fun link m q p q' n hup hsource hrejects hframe => ?_, fun link m q cause hsource hrejects => ?_,
    fun link m short hsource => ?_, fun context tile row p c n hup hclosing => ?_, fun context p hstarts hrun => ?_,
    fun link pair off data u hmsg hu => ⟨fun hnone => ?_, fun p y g buf hrunning hy hg hbuf =>
      exec_graphicWrite hmsg hu hrunning hy hg hbuf⟩,
    fun link pair u g hmsg hu hg => ?_, fun pair g hg hback hheld => ?_,
    fun context line p c n set link hframe hset hlink hpreview hup hrole => ?_⟩
  · subst hn
    change execFrameMark source s = _
    unfold execFrameMark
    simp only [hprod, hsource]
    rw [if_neg (by simp [hup, hmark])]
  · change execLine link m s = _
    unfold execLine
    simp only [hmsg, Bool.true_or, if_true, Bool.not_true]
  · change execLine link m s = _
    unfold execLine
    simp only [hmsg, hdata, hshort, List.isEmpty_nil, Bool.and_self, Bool.or_true, if_true, Bool.not_false]
  · unfold State.lineComes
    simp only [hsource, hrejects, hframe, hup, Bool.false_eq_true, if_false, if_true]
  · unfold State.lineComes
    simp only [hsource, hrejects, Bool.false_eq_true, if_false]
  · unfold State.lineComes
    simp only [hsource]
  · change execWindowClose context tile row s = _
    unfold execWindowClose
    simp only [hclosing, hup, if_true]
  · change execContentLatch context s = _
    unfold execContentLatch
    simp only [hstarts, hrun, if_true]
  · subst hu
    change execGraphicWrite link pair off data s = _
    unfold execGraphicWrite
    rw [if_neg (by rw [hmsg]; exact Bool.true_eq_false_eq_False)]
    have hnone' : s.running.bind (fun p => (p.pairs[pair]?).map (fun y => (p, y))) = none := by
      cases hrunning : s.running with
      | none => rfl
      | some p =>
        rw [hrunning] at hnone
        exact Option.map_eq_none_iff.mpr hnone
    simp only [State.popInbox_running, hnone']
  · subst hu hg
    change execGraphicCommitPacket link pair s = _
    have hcommit : (s.popInbox link 5).commitPair pair =
        if pair < (s.running.map (fun p => p.pairs.length)).getD 0 ∧ (cget {} s.pairs pair).backFree = true then
          some { s.popInbox link 5 with pairs := cset {} s.pairs pair { cget {} s.pairs pair with
            front := 1 - (cget {} s.pairs pair).front, committed := true, backFree := false } }
        else none := rfl
    unfold execGraphicCommitPacket
    rw [if_neg (by rw [hmsg]; exact Bool.true_eq_false_eq_False)]
    dsimp only
    rw [hcommit]
    by_cases hfree : pair < (s.running.map (fun p => p.pairs.length)).getD 0 ∧ (cget {} s.pairs pair).backFree = true
    · rw [if_pos hfree, if_pos hfree]
      rfl
    · rw [if_neg hfree, if_neg hfree]
      rfl
  · subst hg
    change execGraphicReleased pair s = _
    unfold execGraphicReleased
    dsimp only
    rw [if_neg (by simp [hback, hheld])]
  · subst hset
    change execPreviewLineSend context line s = _
    unfold execPreviewLineSend
    simp only [hframe, hlink]
    rw [if_neg (by rw [hpreview, hup]; simpa using hrole)]

/-! ### Audio -/

/-- Settles O39: each happening's condition holds, and its effect is its branch. -/
theorem audioCompletes : Obligations.AudioCompletes := by
  intro s
  refine ⟨fun group inputs p g n u hg hrunning hup hclock hn hedge hnext hu => ?_,
    fun group inputs p g rate framing hg hrunning hup hclock hedge hnext => ?_, fun link m hmsg => ?_,
    fun link m p hrunning hup hfirst hlast htakes => ?_, fun link m p hrunning hup hbad => ?_,
    fun channel index p c hrunning hchannel hup hwindow hdue => ?_, fun p pair i hrunning hpair hnonpcm hquiet => ?_,
    fun p pair hrunning hcount => ?_, fun route p r x n hroute hx hcrossing => ?_,
    fun route p r x n hroute hx hpending hcrossing hn hsince => ?_, fun port c hsettle hcause => ?_,
    fun port hsettle hcause => ?_, fun group hstop => ?_⟩
  · subst hg hn hu
    change execAudioFrame group inputs s = _
    unfold execAudioFrame
    simp only [hrunning, hnext]
    rw [if_neg (by simp [hup, hclock, hedge])]
  · subst hg
    change execAudioFrame group inputs s = _
    unfold execAudioFrame
    simp only [hrunning, hnext]
    rw [if_neg (by simp [hup, hclock, hedge])]
  · change execAudio link m s = _
    unfold execAudio
    simp only [hmsg, Bool.true_or, if_true, Bool.not_true]
  · unfold State.audioComes
    simp only [hrunning]
    rw [if_neg (by simp [hup]), if_neg (by simp [htakes]; omega)]
  · unfold State.audioComes
    simp only [hrunning]
    rw [if_neg (by simp [hup]), if_pos (.inr hbad)]
  · change execLinkSampleWindowClose channel index s = _
    unfold execLinkSampleWindowClose
    simp only [hrunning, Option.bind_some, hchannel, Option.map_some]
    rw [if_neg (by rintro (h | h | h); exacts [by simp [hup] at h, absurd h (Nat.not_lt.mpr hwindow), by simp [hdue] at h])]
  · subst hpair
    have hfin : finOf 32 i.val = some i := finOf_val i
    change execAudioPcmResumed false i.val s = _
    unfold execAudioPcmResumed
    simp only [hrunning, hfin, Bool.false_eq_true, if_false]
    rw [if_neg (by rintro (h | h); exacts [by simp [hnonpcm] at h, absurd h (Nat.not_lt.mpr hquiet)])]
  · change execAudioPcmResumed true pair s = _
    unfold execAudioPcmResumed
    simp only [hrunning, if_true]
    rw [if_neg (by omega)]
  · subst hx
    change execAudioChangeApply route s = _
    unfold execAudioChangeApply
    simp only [hroute, hcrossing]
  · subst hx hn
    change execAudioChangeTimeout route s = _
    unfold execAudioChangeTimeout
    simp only [hroute]
    rw [if_neg ?waits]
    rintro (h | h | h)
    · rw [Option.isNone_iff_eq_none.mp h] at hpending
      cases hpending
    · rw [hcrossing] at h
      cases h
    · exact Nat.not_lt.mpr hsince h
  · change execAudioRestarted port s = _
    unfold execAudioRestarted
    simp only [hsettle, hcause]
    rfl
  · change execAudioRestarted port s = _
    unfold execAudioRestarted
    simp only [hsettle, hcause]
    rfl
  · change execAudioClockStop group s = _
    unfold execAudioClockStop
    dsimp only
    rw [if_neg (not_not.mpr hstop)]

end Sys2Proof.Machine
end

section
/-! PROOFS. The happenings of DDR5 (R413 to R431). -/

namespace Sys2Proof.Machine

open Sys2Proof Sys2Proof.Safety

/-! ### Requests of DDR5 -/

/-- A change of a port's entry leaves all but the ports. -/
theorem Ddr.modPort_eq (d : Ddr) (port : Nat) (f : DPort → DPort) :
    ∃ ports, d.modPort port f = { d with ports := ports } := by
  unfold Ddr.modPort
  split
  · exact ⟨d.ports, rfl⟩
  · exact ⟨_, rfl⟩

@[simp] theorem Ddr.modPort_subs (d : Ddr) (port : Nat) (f : DPort → DPort) : (d.modPort port f).subs = d.subs := by
  obtain ⟨ports, hports⟩ := d.modPort_eq port f
  rw [hports]

@[simp] theorem Ddr.modPort_data (d : Ddr) (port : Nat) (f : DPort → DPort) : (d.modPort port f).data = d.data := by
  obtain ⟨ports, hports⟩ := d.modPort_eq port f
  rw [hports]

@[simp] theorem Ddr.modPort_recs (d : Ddr) (port : Nat) (f : DPort → DPort) : (d.modPort port f).recs = d.recs := by
  obtain ⟨ports, hports⟩ := d.modPort_eq port f
  rw [hports]

@[simp] theorem Ddr.modPort_waiting (d : Ddr) (port : Nat) (f : DPort → DPort) :
    (d.modPort port f).waiting = d.waiting := by
  obtain ⟨ports, hports⟩ := d.modPort_eq port f
  rw [hports]

/-- A request that issues leaves its subchannel's queue, and waits for its data when it is a read (R417, R422). -/
theorem Ddr.issue_sub (d : Ddr) (sub : Fin 12) (r : Nat × Nat × DdrKind × Nat × Nat) (t : Nat) :
    (vget (d.issue sub r t).subs sub).queue = (vget d.subs sub).queue.filter (fun x => decide (x.1 ≠ r.1))
    ∧ (vget (d.issue sub r t).subs sub).issued
      = (if r.2.2.1 = DdrKind.read then (vget d.subs sub).issued ++ [r] else (vget d.subs sub).issued)
    ∧ (d.issue sub r t).data = d.data ∧ (d.issue sub r t).recs = d.recs ∧ (d.issue sub r t).waiting = d.waiting := by
  unfold Ddr.issue
  simp only [Ddr.modPort_subs, Ddr.modPort_data, Ddr.modPort_recs, Ddr.modPort_waiting, vget_vset_self, and_self]

/-- Where a subchannel's scrub stands: a request that joins a queue leaves it. -/
theorem Ddr.enqueue_scrub (d : Ddr) (port : Nat) (kind : DdrKind) (cycle : Nat) (serves : ReadFor) (address : Nat) (sub : Fin 12) :
    (vget (d.enqueue port kind cycle serves address).subs sub).scrub = (vget d.subs sub).scrub
    ∧ (vget (d.enqueue port kind cycle serves address).subs sub).scrubAt = (vget d.subs sub).scrubAt
    ∧ (d.enqueue port kind cycle serves address).data = d.data := by
  unfold Ddr.enqueue
  dsimp only
  split
  · exact ⟨rfl, rfl, rfl⟩
  next i _ =>
    dsimp only
    rw [vmod, vget_vset]
    split
    next h => subst h; exact ⟨rfl, rfl, rfl⟩
    next => exact ⟨rfl, rfl, rfl⟩

/-- A read that is not the scrub's returns to its owner (R425, R426). -/
theorem exec_ddrReadReturn {s : State} {sub : Fin 12} {id : Nat} {err : CodeErr} {r : Nat × Nat × DdrKind × Nat × Nat}
    (hissued : (vget s.ddr.subs sub).issued.find? (fun r => decide (r.1 = id)) = some r)
    (hwindow : s.ddr.refreshing s.time.fclk = false) (howner : ∀ k e, s.ddr.servesOf id ≠ .scrub k e) :
    exec (.ddrReadReturn sub id err) s = .next
      ((State.decode { s with ddr := s.ddr.returned sub r s.time.fclk } sub r.2.1 r.2.2.2.1 err 0).1.landed (s.ddr.servesOf id)
        (State.decode { s with ddr := s.ddr.returned sub r s.time.fclk } sub r.2.1 r.2.2.2.1 err 0).2) := by
  change execDdrReadReturn sub id err s = _
  unfold execDdrReadReturn
  simp only [hissued, hwindow, Bool.false_eq_true, if_false]

/-- Settles O40: requests by the lemmas above, the other happenings by their branches. -/
theorem dramCompletes : Obligations.DramCompletes := by
  intro s
  refine ⟨fun hstate hfirst => ?_, fun k hstate hwindows hk hk0 => ?_, fun hstate hrefreshing hsince => ?_,
    fun sub rank code conf hot i hstate hsub hrank hrefreshing hi hlast hhot => ?_,
    fun sub d hd hstate hsub hwindow hpicked => ?_, fun sub d r t => d.issue_sub sub r t, fun port address data => rfl,
    fun sub id err r v hissued hwindow howner hv => ?_, fun sub id err r k e hissued hwindow howner => ?_,
    fun sub err hstate hsub hinterval => ?_, fun sub c hc hstate hchecks => ?_⟩
  · change execRefreshWindow s = _
    unfold execRefreshWindow
    dsimp only
    rw [if_neg (not_not.mpr hstate), if_pos hfirst]
  · subst hk
    change execRefreshWindow s = _
    unfold execRefreshWindow
    dsimp only
    rw [if_neg (not_not.mpr hstate), if_neg hwindows]
    unfold Ddr.roll
    dsimp only
    rw [if_neg (not_or.mpr ⟨hwindows, hk0⟩)]
  · change execZqCalibration s = _
    unfold execZqCalibration
    rw [if_pos ⟨hstate, hrefreshing, hsince⟩]
  · subst hi hhot
    change execMr4Read sub rank code conf s = _
    unfold execMr4Read
    dsimp only
    rw [if_pos ⟨hstate, hsub, hrank, hrefreshing, hlast⟩]
  · subst hd
    change execDdrSchedule sub s = _
    unfold execDdrSchedule
    dsimp only
    rewrite [if_neg (by simp [hstate, hsub, hwindow, hpicked])]
    rfl
  · subst hv
    exact exec_ddrReadReturn hissued hwindow howner
  · change execDdrReadReturn sub id err s = _
    unfold execDdrReadReturn
    simp only [hissued, hwindow, howner, Bool.false_eq_true, if_false]
  · change ∃ d, execPatrolScrub sub err s = _ ∧ _
    unfold execPatrolScrub
    dsimp only
    rw [if_pos ⟨hstate, hsub, hinterval⟩]
    refine ⟨_, rfl, ?_⟩
    obtain ⟨hscrub, hat, hdata⟩ := Ddr.enqueue_scrub _ _ _ _ _ _ sub
    rw [hscrub, hat, hdata, vget_vset_self]
    exact ⟨rfl, rfl, rfl⟩
  · subst hc
    change execDdrAlert sub s = _
    unfold execDdrAlert
    dsimp only
    rw [if_pos ⟨hstate, hchecks⟩]

end Sys2Proof.Machine
end

section
/-! PROOFS. The arbiter's pins and the twin heartbeat (R487 to R491, R497, R502 to R505). -/

namespace Sys2Proof.Machine

open Sys2Proof Sys2Proof.Safety

/-! ### The lead falls: what a device that stands back keeps of its links -/

@[simp] theorem State.resetMb_links (s : State) (mb : Fin 8) : (s.resetMb mb).links = s.links := by simp [State.resetMb]

@[simp] theorem State.resetMb_twin (s : State) (mb : Fin 8) : (s.resetMb mb).twin = s.twin := by simp [State.resetMb]

@[simp] theorem State.finishLong_links (s : State) (mb : Fin 8) (r : Reply) : (s.finishLong mb r).links = s.links := by
  unfold State.finishLong
  dsimp only
  split
  · rfl
  · split <;> simp

@[simp] theorem State.finishLong_twin (s : State) (mb : Fin 8) (r : Reply) : (s.finishLong mb r).twin = s.twin := by
  unfold State.finishLong
  dsimp only
  split
  · rfl
  · split <;> simp

theorem State.setLink_links (s : State) (i j : Fin 12) (l : Link) :
    vget (s.setLink i l).links j = if i = j then l else vget s.links j := vget_vset s.links i j l

@[simp] theorem State.abortEye_twin (s : State) (i : Fin 12) : (s.abortEye i).twin = s.twin := by
  unfold State.abortEye
  dsimp only
  split <;> simp

/-- A scan's end leaves every link's state and role. -/
theorem State.abortEye_link (s : State) (i j : Fin 12) :
    (vget (s.abortEye i).links j).state = (vget s.links j).state ∧ (vget (s.abortEye i).links j).role = (vget s.links j).role := by
  unfold State.abortEye
  dsimp only
  split
  · exact ⟨rfl, rfl⟩
  · rw [State.raise_links, State.finishLong_links, State.setLink_links]
    split
    next h => subst h; exact ⟨rfl, rfl⟩
    next => exact ⟨rfl, rfl⟩

theorem times_keeps {α γ : Type} (p : α → γ) {f : α → α} (h : ∀ a, p (f a) = p a) (n : Nat) (a : α) :
    p (times f n a) = p a := by
  induction n generalizing a with
  | zero => rfl
  | succ n ih => rw [times, ih, h]

@[simp] theorem Link.sendBlocks_role (l : Link) (code : Nat) (last : Bool) : (l.sendBlocks code last).role = l.role := rfl

@[simp] theorem Link.startFlits_role (l : Link) : l.startFlits.role = l.role := by
  unfold Link.startFlits
  dsimp only
  have htimes := times_keeps (fun l : Link => l.role) (fun a => a.sendBlocks_role 8 false) 15
  rw [Link.sendBlocks_role, htimes]

/-- The state of a link once its transmitter stands as the device's role asks (R310, R505). -/
def State.heldState (s : State) (i : Fin 12) : Nat :=
  if (vget s.links i).state = 8 ∧ s.heldIdle i = true then 9
  else if (vget s.links i).state = 9 ∧ s.heldIdle i = false then 8 else (vget s.links i).state

@[simp] theorem State.holdLink_twin (s : State) (i : Fin 12) : (s.holdLink i).twin = s.twin := by
  unfold State.holdLink
  dsimp only
  split
  · simp
  · split <;> rfl

/-- One link's transmitter follows the role; the other links stay. -/
theorem State.holdLink_link (s : State) (i j : Fin 12) :
    (vget (s.holdLink i).links j).state = (if i = j then s.heldState j else (vget s.links j).state)
    ∧ (vget (s.holdLink i).links j).role = (vget s.links j).role := by
  have hrole := (vget s.links i).startFlits_role
  unfold State.holdLink
  dsimp only
  generalize (vget s.links i).startFlits = flits at hrole ⊢
  by_cases hij : i = j
  · subst hij
    rw [if_pos rfl, State.heldState]
    by_cases henter : s.heldIdle i = true ∧ (vget s.links i).state = 8
    · rw [if_pos henter, if_pos henter.symm, State.setLink_link]
      exact ⟨rfl, (s.abortEye_link i i).2⟩
    · rw [if_neg henter, if_neg (mt And.symm henter)]
      by_cases hleave : s.heldIdle i = false ∧ (vget s.links i).state = 9
      · rw [if_pos hleave, if_pos hleave.symm, State.setLink_link]
        exact ⟨rfl, hrole⟩
      · rw [if_neg hleave, if_neg (mt And.symm hleave)]
        exact ⟨rfl, rfl⟩
  · rw [if_neg hij]
    split
    · rw [State.setLink_links, if_neg hij]
      exact s.abortEye_link i j
    · split
      · rw [State.setLink_links, if_neg hij]
        exact ⟨rfl, rfl⟩
      · exact ⟨rfl, rfl⟩

theorem State.holdLink_heldState {s : State} {i j : Fin 12} (h : i ≠ j) : (s.holdLink i).heldState j = s.heldState j := by
  unfold State.heldState State.heldIdle
  rw [(s.holdLink_link i j).1, (s.holdLink_link i j).2, if_neg h, State.holdLink_twin]

/-- Each link of a list without repetition follows the role once. -/
theorem State.foldl_holdLink_state (l : List (Fin 12)) (hl : l.Nodup) (s : State) (j : Fin 12) :
    (vget (l.foldl State.holdLink s).links j).state = if j ∈ l then s.heldState j else (vget s.links j).state := by
  induction l generalizing s with
  | nil => simp
  | cons i l ih =>
    obtain ⟨hi, hl⟩ := List.nodup_cons.mp hl
    rw [List.foldl_cons, ih hl]
    by_cases hij : i = j
    · subst hij
      rw [if_neg hi, if_pos List.mem_cons_self, (s.holdLink_link i i).1, if_pos rfl]
    · have hmem : j ∈ i :: l ↔ j ∈ l := by rw [List.mem_cons, or_iff_right (Ne.symm hij)]
      rw [State.holdLink_heldState hij, (s.holdLink_link i j).1, if_neg hij, if_congr hmem rfl rfl]

@[simp] theorem State.holdLinks_state (s : State) (j : Fin 12) : (vget s.holdLinks.links j).state = s.heldState j := by
  rw [State.holdLinks, State.foldl_holdLink_state _ (List.nodup_finRange 12), if_pos (List.mem_finRange j)]

@[simp] theorem State.holdLinks_twin (s : State) : s.holdLinks.twin = s.twin :=
  foldl_keeps (·.twin) State.holdLink_twin _ s

@[simp] theorem State.review_links (s : State) : s.review.links = s.links := by simp [State.review]

@[simp] theorem State.review_cues (s : State) : s.review.cues = s.cues := by simp [State.review]

/-- A review changes the mode, the readiness and the pins only. -/
theorem State.review_twin_keeps (s : State) :
    s.review.twin.role = s.twin.role ∧ s.review.twin.cast = s.twin.cast ∧ s.review.twin.demoted = s.twin.demoted
      ∧ s.review.twin.fenced = s.twin.fenced := by
  simp [State.review]

@[simp] theorem State.holdLinks_cues (s : State) : s.holdLinks.cues = s.cues := by
  have hcalm := s.holdLinks_calm
  simp only [State.calm, Prod.mk.injEq] at hcalm
  exact hcalm.2.1

@[simp] theorem State.castTo_cues (s : State) (level : Bool) : (s.castTo level).cues = s.cues := by simp [State.castTo]

@[simp] theorem State.castTo_links (s : State) (level : Bool) : (s.castTo level).links = s.links := by simp [State.castTo]

@[simp] theorem State.castTo_cast (s : State) (level : Bool) :
    (s.castTo level).twin.cast = level := by simp [State.castTo]

/-- A paired device that is up reports the level it accepts (R487). -/
theorem State.castTo_heard {s : State} (hup : s.up = true) (hmode : s.twinMode ≠ 0) (level : Bool) :
    s.castTo level = State.raise { s with twin := { s.twin with cast := level } } (s.ev 775 0x0A30 [(1, boolNat level)]) := by
  simp [State.castTo, evIf, hup, hmode, State.raiseAll]

/-- An unpaired device, and one that is not up, keeps the level alone. -/
theorem State.castTo_idle {s : State} (hidle : s.up = false ∨ s.twinMode = 0) (level : Bool) :
    s.castTo level = { s with twin := { s.twin with cast := level } } := by
  have hev : (s.up && decide (s.twinMode ≠ 0)) = false := by
    rcases hidle with h | h <;> simp [h]
  rw [State.castTo, hev]
  rfl

/-- Where the lead falls, the device stands back as understudy: its CUE outputs are released, and its transmitters follow the
role (R505). -/
theorem exec_demotion_lead {s : State} (hup : s.up = true) (hcast : s.twin.cast = true) (hmode : s.twinMode ≠ 0)
    (hrole : s.twin.role = 1) :
    ∃ t, exec .demotion s = .next t ∧ t.twin.role = 2 ∧ t.twin.cast = false ∧ t.twin.demoted = true
      ∧ t.twin.fenced = false ∧ t.cues = s.cues.map CuePin.undriven
      ∧ ∀ i : Fin 12, (vget t.links i).state = (if (vget s.links i).state = 8 ∧ (i = 10 ∨ (vget s.links i).role = 2) then 9
          else if (vget s.links i).state = 9 ∧ ¬ (i = 10 ∨ (vget s.links i).role = 2) then 8 else (vget s.links i).state) := by
  change ∃ t, execDemotion s = .next t ∧ _
  unfold execDemotion
  dsimp only
  rw [if_neg (by simp [hcast]), if_neg (by simp [hup, hmode, hrole])]
  refine ⟨_, rfl, ?_, ?_, ?_, ?_, ?_, fun i => ?_⟩
  · rw [(State.review_twin_keeps _).1, State.holdLinks_twin]
  · rw [(State.review_twin_keeps _).2.1, State.holdLinks_twin]
    exact State.castTo_cast s false
  · rw [(State.review_twin_keeps _).2.2.1, State.holdLinks_twin]
  · rw [(State.review_twin_keeps _).2.2.2, State.holdLinks_twin]
  · rw [State.review_cues, State.holdLinks_cues, State.castTo_cues]
  · rw [State.review_links, State.holdLinks_state]
    simp [State.heldState, State.heldIdle]

/-- Settles O44: the demotion by the lemma above, the other happenings by their branches. -/
theorem twinBeatsComplete : Obligations.TwinBeatsComplete := by
  intro s
  refine ⟨fun hup hdead hat => ?_, fun hup => ?_, fun hup hcast hmode hrole => ?_, fun hcast hidle => ?_,
    fun hcast hidle => ?_, fun hup hcast hmode hrole => ?_, exec_demotion_lead, fun htwinned hlast => ?_,
    fun m u w at_ came hmsg hu hat hcame hw => ?_, fun htwinned hlost hlast => ?_, fun hup hlong hcast => ?_,
    fun htwinned hlast => ?_, fun m hmsg => ?_, fun htwinned hlast => ?_, fun m hmsg hexpected => ?_,
    fun m f serial hmsg hexpected hprint => ?_, fun m f serial hmsg hexpected hprint => ?_⟩
  · change execArbHbToggle s = _
    unfold execArbHbToggle
    dsimp only
    rw [if_neg (by simp [hup, hdead, hat])]
  · change execHeartbeatServiceTimeout s = _
    unfold execHeartbeatServiceTimeout
    rw [if_neg (by simp [hup])]
  · change execTakeover s = _
    unfold execTakeover
    dsimp only
    rw [if_neg (by simp [hcast]), if_neg (by simp [hup, hmode, hrole]), State.castTo_heard hup hmode]
    rfl
  · change execTakeover s = _
    unfold execTakeover
    dsimp only
    rw [if_neg (by simp [hcast]), if_pos (hidle.imp_right Or.inl), State.castTo_idle hidle]
  · change execDemotion s = _
    unfold execDemotion
    dsimp only
    rw [if_neg (by simp [hcast]), if_pos (hidle.imp_right Or.inl), State.castTo_idle hidle]
  · change execDemotion s = _
    unfold execDemotion
    dsimp only
    rw [if_neg (by simp [hcast]), if_pos (Or.inr (Or.inr hrole)), State.castTo_heard hup hmode]
    rfl
  · change execBeatSend s = _
    unfold execBeatSend
    dsimp only
    rw [if_neg (by simp [htwinned, hlast])]
  · subst hw hcame hat
    change execBeat m s = _
    unfold execBeat
    dsimp only
    rw [if_neg (by rw [hmsg]; exact Bool.true_eq_false_eq_False), State.popInbox_twin, ← hu]
    simp only [evIf, Bool.and_eq_true, decide_eq_true_eq]
  · change execTwinHeartbeatLost s = _
    unfold execTwinHeartbeatLost
    dsimp only
    rw [if_neg (by simp [htwinned, hlost, hlast])]
  · change execOrphanTimeout s = _
    unfold execOrphanTimeout
    rw [if_pos ⟨hup, hlong, hcast⟩]
  · change execHealthSend s = _
    unfold execHealthSend
    dsimp only
    rw [if_neg (by simp [htwinned, hlast])]
  · change execHealth m s = _
    unfold execHealth
    dsimp only
    rw [if_neg (by rw [hmsg]; exact Bool.true_eq_false_eq_False)]
    by_cases hsame : slice m.curtain 0 32 = slice s.curtainSha 0 32
    · rw [if_pos hsame, decide_eq_false (not_not.mpr hsame)]
      rfl
    · rw [if_neg hsame, decide_eq_true hsame]
      rfl
  · change execTwinHelloSend s = _
    unfold execTwinHelloSend
    dsimp only
    rw [if_neg]
    rintro (hnot | ⟨hearly, hup⟩)
    · rw [htwinned] at hnot
      cases hnot
    · exact hlast.elim (Nat.not_le_of_lt hearly) (Nat.not_lt_of_le hup)
  · change execTwinHello m s = _
    unfold execTwinHello
    dsimp only
    rw [if_neg (by rw [hmsg]; exact Bool.true_eq_false_eq_False)]
    simp only [State.popInbox_twin, hexpected]
  · change execTwinHello m s = _
    unfold execTwinHello
    dsimp only
    rw [if_neg (by rw [hmsg]; exact Bool.true_eq_false_eq_False)]
    simp only [State.popInbox_twin, hexpected, hprint, if_true]
  · change execTwinHello m s = _
    unfold execTwinHello
    dsimp only
    rw [if_neg (by rw [hmsg]; exact Bool.true_eq_false_eq_False)]
    simp only [State.popInbox_twin, hexpected, hprint, if_false]

end Sys2Proof.Machine
end

section
/-! PROOFS. Positions, records and repair of the twin (R267, R424, R493 to R501, R508). -/

namespace Sys2Proof.Machine

open Sys2Proof Sys2Proof.Safety

/-! ### The records of the twin -/

@[simp] theorem State.endDrain_twin (s : State) (q : Nat) : (s.endDrain q).twin = s.twin := by
  unfold State.endDrain
  dsimp only
  split <;> rfl

@[simp] theorem State.popInbox_exact (s : State) (i : Fin 12) (vc : Fin 8) : (s.popInbox i vc).exact = s.exact := rfl

/-- The device's role stands while a message's handling begins. -/
theorem State.popInbox_role {s : State} {role : Nat} (hrole : s.twin.role = role) (i : Fin 12) (vc : Fin 8) :
    ¬(s.popInbox i vc).twin.role ≠ role := not_not.mpr hrole

/-- So does the exact mode. -/
theorem State.popInbox_serves {s : State} {role : Nat} (hrole : s.twin.role = role) (hexact : s.exact = true) (i : Fin 12)
    (vc : Fin 8) : ¬((s.popInbox i vc).twin.role ≠ role ∨ (s.popInbox i vc).exact = false) := by
  rw [State.popInbox_exact, hexact]
  exact not_or.mpr ⟨not_not.mpr hrole, Bool.true_eq_false_eq_False⟩

/-- The own row that a record names, as it stands before the record leaves the inbox. -/
theorem State.popInbox_ownRow (s : State) (r : RowRec) :
    ((s.popInbox 11 6).ctxSt r.queue).rows = (s.ctxSt r.queue).rows := rfl

theorem State.popInbox_prods (s : State) (i : Fin 12) (vc : Fin 8) : (s.popInbox i vc).prods = s.prods := rfl

/-- Settles O45: each happening by its branch where the message has come and the role is the one that serves it. -/
theorem twinRecordsComplete : Obligations.TwinRecordsComplete := by
  intro s
  refine ⟨fun moved htwinned hrole hlast hmoved => ?_, fun es hmsg hrole => ?_, fun q hrole hfree => ?_,
    fun r hmsg hrole hexact => ?_, fun r own hmsg hrole hexact hown => ⟨fun hnone => ?_, fun y c hsome hc => ?_⟩,
    fun q seq hmsg hrole => ?_, fun q first n hmsg hrole hexact => ?_, fun q it rtp hmsg hrole hq => ?_,
    fun q it rtp hmsg hrole hq => ?_, fun context frame row poisoned u held hmsg hrole hexact hu hheld => ?_,
    fun m u hmsg hrole hu => ⟨fun hbody => ?_, fun p c k valid hbody hp hc => ?_⟩,
    fun context block hmsg hrole hexact => ?_, fun context block content hmsg hrole => ?_⟩
  · subst hmoved
    change execPositionsSend s = _
    unfold execPositionsSend
    dsimp only
    rw [if_neg (by simp [htwinned, hrole, hlast])]
  · change execPositions es s = _
    unfold execPositions
    dsimp only
    rw [if_neg (by rw [hmsg]; exact Bool.true_eq_false_eq_False), if_neg (State.popInbox_role hrole 11 6)]
  · change execAckHoldExpiry q s = _
    unfold execAckHoldExpiry
    dsimp only
    rw [if_neg (by simp [hrole, hfree])]
  · change ∃ u, execFrameRecord r s = _ ∧ _
    unfold execFrameRecord
    dsimp only
    rw [if_neg (by rw [hmsg]; exact Bool.true_eq_false_eq_False), if_neg (State.popInbox_serves hrole hexact 11 6)]
    refine ⟨_, rfl, ?_⟩
    dsimp only
    rw [State.endDrain_twin, State.setQueue_twin, State.popInbox_twin]
  · change execRowRecord r s = _
    unfold execRowRecord
    dsimp only
    rw [if_neg (by rw [hmsg]; exact Bool.true_eq_false_eq_False), if_neg (State.popInbox_serves hrole hexact 11 6),
      State.popInbox_ownRow, ← hown, hnone]
    rfl
  · change execRowRecord r s = _
    unfold execRowRecord
    dsimp only
    rw [if_neg (by rw [hmsg]; exact Bool.true_eq_false_eq_False), if_neg (State.popInbox_serves hrole hexact 11 6),
      State.popInbox_ownRow, ← hown, hsome]
    dsimp only [Option.bind_some]
    rw [State.popInbox_prods, hc]
  · change execConfirm q seq s = _
    unfold execConfirm
    dsimp only
    rw [if_neg (by rw [hmsg]; exact Bool.true_eq_false_eq_False)]
    by_cases hmoves : seqBefore (s.queue q).confirmed seq = true ∧ seqBefore (s.queue q).next seq = false
    · rw [if_pos hmoves, if_neg]
      · rfl
      · rintro (h | h | h)
        · exact h hrole
        · exact Bool.false_ne_true (h.symm.trans hmoves.1)
        · exact Bool.false_ne_true (hmoves.2.symm.trans h)
    · rw [if_neg hmoves, if_pos]
      rw [not_and_or, Bool.not_eq_true, Bool.not_eq_false] at hmoves
      exact Or.inr hmoves
  · change execItemRequest q first n s = _
    unfold execItemRequest
    dsimp only
    rw [if_neg (by rw [hmsg]; exact Bool.true_eq_false_eq_False), if_neg (State.popInbox_serves hrole hexact 11 7)]
    rfl
  · change execItem q it rtp s = _
    unfold execItem
    dsimp only
    rw [if_neg (by rw [hmsg]; exact Bool.true_eq_false_eq_False), if_neg (State.popInbox_role hrole 11 7), if_pos hq]
  · change execItem q it rtp s = _
    unfold execItem
    dsimp only
    rw [if_neg (by rw [hmsg]; exact Bool.true_eq_false_eq_False), if_neg (State.popInbox_role hrole 11 7),
      if_neg (Nat.not_le_of_lt hq)]
    rfl
  · subst hu hheld
    change execRowRequest context frame row poisoned s = _
    unfold execRowRequest
    dsimp only
    rw [if_neg (by rw [hmsg]; exact Bool.true_eq_false_eq_False), if_neg (State.popInbox_serves hrole hexact 11 7),
      State.popInbox_running]
    cases hctx : s.running.bind (fun p => p.ctx context) with
    | none => rfl
    | some c =>
      dsimp only [Option.bind_some]
      have hheld : (s.popInbox 11 7).heldBuffer c frame row = s.heldBuffer c frame row := rfl
      rw [hheld]
      cases hbuffer : s.heldBuffer c frame row with
      | none => rfl
      | some b => rfl
  · subst hu
    change execRowData m s = _
    unfold execRowData
    dsimp only
    rw [if_neg (by rw [hmsg]; exact Bool.true_eq_false_eq_False), if_neg (State.popInbox_role hrole 11 7),
      hbody]
  · subst hu
    change execRowData m s = _
    unfold execRowData
    dsimp only
    rw [if_neg (by rw [hmsg]; exact Bool.true_eq_false_eq_False), if_neg (State.popInbox_role hrole 11 7),
      hbody, State.popInbox_running, hp]
    dsimp only [Option.bind_some]
    rw [hc]
    rfl
  · change execBlockRequest context block s = _
    unfold execBlockRequest
    dsimp only
    rw [if_neg (by rw [hmsg]; exact Bool.true_eq_false_eq_False), if_neg (State.popInbox_serves hrole hexact 11 7)]
    rfl
  · change execBlockData context block content s = _
    unfold execBlockData
    dsimp only
    rw [if_neg (by rw [hmsg]; exact Bool.true_eq_false_eq_False), if_neg (State.popInbox_role hrole 11 7)]
    rfl

end Sys2Proof.Machine
end
